-- ==== Sys2Proof/Word.lean ====
section
/-! DEFINITION. Identifiers, bytes, timers and fixed-size tables (spec/00_scope.md, sections 3.1 and 3.2).
Identifiers are numbered from 0 (Table 0-5). Quantities are whole numbers; only what the manual treats as bits,
the characters on the serial line and the frame check, is a bit vector. -/

namespace Sys2Proof

/-- One character on the serial line (R149). -/
abbrev Byte := BitVec 8
/-- Z0 to Z11 (Table 0-5). -/
abbrev Zone := Fin 12
/-- D0 to D31 (Table 0-5). -/
abbrev DoorNo := Fin 32
/-- L0 to L63 (Table 0-5); load n is driven on drive line n. -/
abbrev LoadNo := Fin 64
/-- S0 to S39 (Table 0-5). -/
abbrev SensorNo := Fin 40
/-- P0 to P7 (Table 0-5). -/
abbrev ProfileNo := Fin 8
/-- One of the 64 door input lines (R53). -/
abbrev LineNo := Fin 64

/-- Rounding up, for positive divisors (spec/00_scope.md, section 3.2: ceil). -/
def ceilDiv (a b : Nat) : Nat := (a + (b - 1)) / b

/-- A timer: not running, or the tenths of a second left of it. A running timer with 0 left has run out, and its
expiry has not yet been taken. -/
abbrev Timer := Option Nat

/-- A timer started for a whole number of seconds. -/
def Timer.start (seconds : Nat) : Timer := some (10 * seconds)

/-- The seconds remaining that a status record shows: 0 when the timer is not running. -/
def Timer.seconds (t : Timer) : Nat :=
  match t with
  | none => 0
  | some n => ceilDiv n 10

/-- One tenth of a second passes at a timer. -/
def Timer.countDown (t : Timer) : Timer := t.map (· - 1)

/-- A running timer has run for its whole time, and its expiry is due. -/
def Timer.due (t : Timer) : Bool := t == some 0

/-- A table of exactly `n` records, one for each number below `n`. -/
structure Table (n : Nat) (α : Type) where
  entries : List α
  size : entries.length = n
deriving DecidableEq, Repr

namespace Table
variable {n : Nat} {α β : Type}

/-- The record with number `i`. -/
def get (t : Table n α) (i : Fin n) : α := t.entries[i.val]'(by rw [t.size]; exact i.isLt)

/-- The table with record `i` replaced. -/
def set (t : Table n α) (i : Fin n) (a : α) : Table n α :=
  ⟨t.entries.set i a, by rw [List.length_set, t.size]⟩

/-- The table with record `i` changed by `f`. -/
def modify (t : Table n α) (i : Fin n) (f : α → α) : Table n α := t.set i (f (t.get i))

/-- Every record changed, each with its own number. -/
def mapIdx (f : Fin n → α → β) (t : Table n α) : Table n β :=
  ⟨List.zipWith f (List.finRange n) t.entries, by simp [t.size]⟩

/-- Every record changed alike. -/
def map (f : α → β) (t : Table n α) : Table n β := ⟨t.entries.map f, by rw [List.length_map, t.size]⟩

/-- Two tables joined record by record. -/
def zipWith {γ : Type} (f : α → β → γ) (t : Table n α) (u : Table n β) : Table n γ :=
  ⟨List.zipWith f t.entries u.entries, by simp [t.size, u.size]⟩

/-- The table whose record `i` is `f i`. -/
def ofFn (f : Fin n → α) : Table n α := ⟨List.ofFn f, List.length_ofFn⟩

/-- The table that holds `a` everywhere. -/
def fill (n : Nat) (a : α) : Table n α := ⟨List.replicate n a, List.length_replicate⟩

/-- The table of the entries of a list, padded with `a` or cut to length. -/
def ofList (n : Nat) (a : α) (l : List α) : Table n α :=
  ⟨(l ++ List.replicate n a).take n, by simp⟩

/-- Record number `k`, where a number at or above `n` names none. -/
def get? (t : Table n α) (k : Nat) : Option α := t.entries[k]?

end Table

/-- The identifier with a number, when the number is in range. -/
def number? (n k : Nat) : Option (Fin n) := if h : k < n then some ⟨k, h⟩ else none

end Sys2Proof
end

