-- ==== Sys2Proof/Config.lean ====
section
/-! DEFINITION. The configuration of a shed (the contents of the stored image, Table 10-3) with the coded values it
uses (Table 11-2), its built-in defaults, and what the manual leaves to the part: the revision number, the layout
of the stored image, and the order of happenings to which it gives none. -/

namespace Sys2Proof

/-- Kind of a zone record (Table 1-1). -/
inductive ZoneKind where
  | undefined | dock | floor
deriving DecidableEq, Repr

/-- Type of a defined load (Table 1-3). -/
inductive LoadType where
  | heater | exhaust | curtain | light
deriving DecidableEq, Repr

/-- Restart class of a load (section 1.2.4). -/
inductive RestartClass where
  | short | long
deriving DecidableEq, Repr

/-- Polarity of a door contact (R53). -/
inductive Polarity where
  | high | low
deriving DecidableEq, Repr

/-- Alert mode of a door (R66). -/
inductive AlertMode where
  | edge | level
deriving DecidableEq, Repr

/-- Kind of a defined sensor (Table 4-2). -/
inductive SensorKind where
  | temp | co | no2 | lux
deriving DecidableEq, Repr

/-- The two gases of the Air Unit. -/
inductive Gas where
  | co | no2
deriving DecidableEq, Repr

/-- Arbitration mode (R138). -/
inductive ArbMode where
  | static | dynamic
deriving DecidableEq, Repr

/-- Retention mode of the report queue (R155). -/
inductive Retention where
  | retain | flush
deriving DecidableEq, Repr

/-- The definition fields of a load (Table 1-2). -/
structure LoadDef where
  type : LoadType
  zone : Zone
  maxLevel : Nat
  draws : List Nat
  door : Option DoorNo
  base : Nat
  cls : RestartClass
  minOff : Nat
deriving DecidableEq, Repr

/-- The definition fields of a door (Table 3-1). -/
structure DoorDef where
  zone : Zone
  openPolarity : Polarity
  trailerPolarity : Polarity
  limit : Nat
  mode : AlertMode
  enabled : Bool
deriving DecidableEq, Repr

/-- The definition fields of a sensor (Table 4-1). -/
structure SensorDef where
  kind : SensorKind
  zone : Zone
deriving DecidableEq, Repr

/-- A profile record (Table 2-1). -/
structure Profile where
  dockSetpoint : Int
  floorSetpoint : Int
  dockLight : Nat
  floorLight : Nat
  egress : Nat
  budget : Nat
  mode : ArbMode
  purge : Nat
  preheat : Bool
deriving DecidableEq, Repr

/-- A row of a rotation table (Table 2-2). -/
inductive Row where
  | empty
  | shift (profile : ProfileNo) (length crew : Nat)
  | repeatGroup (count : Nat)
  | endGroup
deriving DecidableEq, Repr

/-- The day and minute at which row 0 of the rotation begins (section 2.6). -/
structure Anchor where
  day : Nat
  minute : Nat
deriving DecidableEq, Repr

/-- The settings of SET-SENSING (Table 4-3). -/
structure SensingSettings where
  gasQuiet : Nat
  otherQuiet : Nat
  dueInterval : Nat
  dueCount : Nat
deriving DecidableEq, Repr

/-- The settings of SET-AIR (Table 5-2). -/
structure AirSettings where
  coShort : Nat
  coShift : Nat
  no2Short : Nat
  no2Shift : Nat
  hold : Nat
deriving DecidableEq, Repr

/-- The settings of SET-HEAT (Table 6-2). -/
structure HeatSettings where
  floor : Nat
  rate : Nat
  hold : Nat
deriving DecidableEq, Repr

/-- The settings of SET-LINK (Table 9-4). -/
structure LinkSettings where
  idle : Nat
  interval : Nat
  count : Nat
  retention : Retention
deriving DecidableEq, Repr

/-- The configuration that STORE writes and STARTING reads (Table 10-3). -/
structure Stored where
  zones : Table 12 ZoneKind
  loads : Table 64 (Option LoadDef)
  profiles : Table 8 Profile
  defaultProfile : ProfileNo
  active : Table 24 Row
  anchor : Option Anchor
  doors : Table 32 (Option DoorDef)
  filter : Nat
  sensors : Table 40 (Option SensorDef)
  sensing : SensingSettings
  air : AirSettings
  heat : HeatSettings
  rotationPeriod : Nat
  mask : Nat
  link : LinkSettings
  autorun : Bool
deriving DecidableEq, Repr

/-- The built-in profile (Table 2-1). -/
def Profile.builtIn : Profile :=
  { dockSetpoint := 50, floorSetpoint := 50, dockLight := 0, floorLight := 0, egress := 0, budget := 0,
    mode := .static, purge := 0, preheat := false }

/-- The built-in defaults in force on an invalid image (R159, Tables 1-1, 1-2, 2-1, 3-1, 4-3, 5-2, 6-2, 8-1, 9-4,
10-1; door filter time of R54). -/
def Stored.builtIn : Stored :=
  { zones := Table.fill 12 .undefined
    loads := Table.fill 64 none
    profiles := Table.fill 8 Profile.builtIn
    defaultProfile := 0
    active := Table.fill 24 .empty
    anchor := none
    doors := Table.fill 32 none
    filter := 3
    sensors := Table.fill 40 none
    sensing := { gasQuiet := 60, otherQuiet := 300, dueInterval := 20, dueCount := 3 }
    air := { coShort := 100, coShift := 25, no2Short := 50, no2Shift := 30, hold := 300 }
    heat := { floor := 50, rate := 12, hold := 180 }
    rotationPeriod := 600
    mask := 0
    link := { idle := 30, interval := 10, count := 3, retention := .retain }
    autorun := false }

namespace Config

/-- The revision number, 0 to 255, fixed in the part (Table 10-1); the manual names no number. -/
opaque revision : Byte

/-- The bytes over which the Settings Store works out the image's check value (R159); the manual gives the image's
contents (Table 10-3) and not their layout. -/
opaque imageBytes : Stored → List Byte

/-- FREE VALUE. The order, at the `k`-th use, of happenings that fall in one event and to which the manual gives no
order (assumption log, entry 6): a list of positions, completed to an order of all of them where it is used. -/
opaque order : Nat → List Nat

end Config

end Sys2Proof
end

