-- ==== Sys2Proof/Syntax.lean ====
section
/-! DEFINITION. The commands of the part: one constructor for each row of spec/opcode_table.json.

A request of the host carries its fields as numbers, exactly as its frame carries them (Table 11-3), so that every
range check of the manual is the meaning's. An event of the part names the zone, door, load, sensor or line it
happens at. A notice carries what its sender gives (Tables 3-4, 4-6, 6-3, 7-3, 8-2). -/

namespace Sys2Proof

/-- A frame as its bytes arrive: length byte, kind, payload and the check it carries (R149). -/
structure RawFrame where
  length : Byte
  kind : Byte
  payload : List Byte
  check : BitVec 16
deriving DecidableEq, Repr

/-- The fields of DEF-LOAD (Table 11-3): the draw count and four draw slots, of which those past the count are
ignored. -/
structure LoadFields where
  load : Nat
  type : Nat
  zone : Nat
  maxLevel : Nat
  drawCount : Nat
  draw1 : Nat
  draw2 : Nat
  draw3 : Nat
  draw4 : Nat
  door : Nat
  base : Nat
  cls : Nat
  minOff : Nat
deriving DecidableEq, Repr

/-- The fields of DEF-PROFILE (Table 11-3). -/
structure ProfileFields where
  profile : Nat
  dockSetpoint : Int
  floorSetpoint : Int
  dockLight : Nat
  floorLight : Nat
  egress : Nat
  budget : Nat
  mode : Nat
  purge : Nat
  preheat : Nat
deriving DecidableEq, Repr

/-- A plan row record (Table 11-9). -/
structure RowFields where
  kind : Nat
  profile : Nat
  length : Nat
  crew : Nat
  count : Nat
deriving DecidableEq, Repr

/-- The fields of DEF-DOOR (Table 11-3); zone 0xFF is the marker NONE. -/
structure DoorFields where
  door : Nat
  zone : Nat
  openPolarity : Nat
  trailerPolarity : Nat
  limit : Nat
  mode : Nat
  enabled : Nat
deriving DecidableEq, Repr

/-- A lookahead record that is not empty (R42). -/
structure Lookahead where
  profile : ProfileNo
  minutes : Nat
deriving DecidableEq, Repr

/-- The commands of the part. -/
inductive Instr where
  /-- RESET: a power-on or an assertion of the reset input, with the levels of the two strap pins. -/
  | reset (strap1 strap0 : Bool)
  /-- STARTING_END -/
  | startingEnd
  /-- FRAME_COMPLETE: a frame as it stands at its second check byte. -/
  | frameComplete (frame : RawFrame)
  /-- RECEIVE_SILENCE -/
  | receiveSilence
  /-- NO_STOP_BIT_CHARACTER -/
  | noStopBitCharacter
  /-- TRANSMIT_END -/
  | transmitEnd
  /-- IDLE_TIMER_EXPIRY -/
  | idleTimerExpiry
  /-- INTERVAL_TIMER_EXPIRY -/
  | intervalTimerExpiry
  /-- PART_STATUS -/
  | partStatus
  /-- START -/
  | start
  /-- STOP -/
  | stop
  /-- STORE -/
  | store
  /-- STORE_WRITE_END, with the outcome of the read-back. -/
  | storeWriteEnd (verified : Bool)
  /-- SET_AUTORUN -/
  | setAutorun (value : Nat)
  /-- MASK -/
  | mask (value : Nat)
  /-- SET_LINK -/
  | setLink (idle interval count retention : Nat)
  /-- DEF_ZONE -/
  | defZone (zone kind : Nat)
  /-- ZONE_STATUS -/
  | zoneStatus (zone : Nat)
  /-- DEF_LOAD -/
  | defLoad (fields : LoadFields)
  /-- LOAD_STATUS -/
  | loadStatus (load : Nat)
  /-- SET_TIME -/
  | setTime (day second : Nat)
  /-- DEF_PROFILE -/
  | defProfile (fields : ProfileFields)
  /-- SET_CALENDAR -/
  | setCalendar (profile : Nat)
  /-- PLAN_ROW -/
  | planRow (row : Nat) (fields : RowFields)
  /-- PLAN_COMMIT -/
  | planCommit
  /-- PLAN_WITHDRAW -/
  | planWithdraw
  /-- PLAN_ANCHOR -/
  | planAnchor (day minute : Nat)
  /-- OVERRIDE -/
  | override (profile duration : Nat) (zones : List Nat)
  /-- OVERRIDE_END -/
  | overrideEnd (zones : List Nat)
  /-- CALENDAR_STATUS -/
  | calendarStatus
  /-- PLAN_READ -/
  | planRead (table row : Nat)
  /-- PROFILE_READ -/
  | profileRead (profile : Nat)
  /-- SET_DOORS -/
  | setDoors (filter : Nat)
  /-- DEF_DOOR -/
  | defDoor (fields : DoorFields)
  /-- ACK_DOOR -/
  | ackDoor (door : Nat)
  /-- DOOR_STATUS -/
  | doorStatus (door : Nat)
  /-- DEF_SENSOR -/
  | defSensor (sensor kind zone : Nat)
  /-- SET_SENSING -/
  | setSensing (gasQuiet otherQuiet dueInterval dueCount : Nat)
  /-- READING -/
  | reading (sensor : Nat) (value : Int)
  /-- SENSOR_STATUS -/
  | sensorStatus (sensor : Nat)
  /-- SET_AIR -/
  | setAir (coShort coShift no2Short no2Shift hold : Nat)
  /-- SET_HEAT -/
  | setHeat (floor rate hold : Nat)
  /-- CAP -/
  | cap (value : Int) (duration : Nat)
  /-- CAP_END -/
  | capEnd
  /-- SET_BUDGET -/
  | setBudget (period : Nat)
  /-- BUDGET_STATUS -/
  | budgetStatus
  /-- MINUTE_EXPIRY -/
  | minuteExpiry
  /-- SHIFT_END -/
  | shiftEnd
  /-- OVERRIDE_EXPIRY -/
  | overrideExpiry (zone : Zone)
  /-- DOOR_INPUT_CHANGE: the line takes a level, high or not. -/
  | doorInputChange (line : LineNo) (high : Bool)
  /-- SETTLED_CHANGE -/
  | settledChange (line : LineNo)
  /-- DWELL_TIMER_EXPIRY -/
  | dwellTimerExpiry (door : DoorNo)
  /-- DOOR_SHIFT_BOUNDARY -/
  | doorShiftBoundary
  /-- QUIET_TIMER_EXPIRY -/
  | quietTimerExpiry (sensor : SensorNo)
  /-- DUE_TIMER_EXPIRY -/
  | dueTimerExpiry (sensor : SensorNo)
  /-- SAMPLE_EXPIRY -/
  | sampleExpiry
  /-- EXHAUST_STAGE_HOLD_EXPIRY -/
  | exhaustStageHoldExpiry (zone : Zone)
  /-- HELD_VALUE_NOTICE -/
  | heldValueNotice (zone : Zone) (gas : Gas) (value : Option Nat)
  /-- AIR_SUBSTITUTE_FLAG_NOTICE -/
  | airSubstituteFlagNotice (zone : Zone) (gas : Gas) (flag : Bool)
  /-- AIR_OPEN_UNSEALED_COUNT_NOTICE -/
  | airOpenUnsealedCountNotice (zone : Zone) (count : Nat)
  /-- AIR_PROFILE_CHANGE_NOTICE -/
  | airProfileChangeNotice (zone : Zone) (profile : ProfileNo)
  /-- AIR_MINUTE_EXPIRY_NOTICE -/
  | airMinuteExpiryNotice
  /-- PURGE_EXPIRY -/
  | purgeExpiry (zone : Zone)
  /-- AIR_SHIFT_BOUNDARY -/
  | airShiftBoundary
  /-- ZONE_TEMPERATURE_NOTICE -/
  | zoneTemperatureNotice (zone : Zone) (value : Option Int)
  /-- HOLD_DOWN_FLAG_NOTICE -/
  | holdDownFlagNotice (zone : Zone) (flag : Bool)
  /-- HEAT_OPEN_UNSEALED_COUNT_NOTICE -/
  | heatOpenUnsealedCountNotice (zone : Zone) (count : Nat)
  /-- HEAT_PROFILE_CHANGE_NOTICE -/
  | heatProfileChangeNotice (zone : Zone) (profile : ProfileNo)
  /-- LOOKAHEAD_NOTICE -/
  | lookaheadNotice (lookahead : Option Lookahead)
  /-- HEAT_SHIFT_BOUNDARY -/
  | heatShiftBoundary
  /-- HEAT_STAGE_HOLD_EXPIRY -/
  | heatStageHoldExpiry (zone : Zone)
  /-- LIGHT_PROFILE_CHANGE_NOTICE -/
  | lightProfileChangeNotice (zone : Zone) (profile : ProfileNo)
  /-- ZONE_LUX_NOTICE -/
  | zoneLuxNotice (zone : Zone) (lux : Nat)
  /-- DOCK_LIGHT_NOTICE -/
  | dockLightNotice (door : DoorNo) (isSealed : Bool)
  /-- EXHAUST_NOTICE -/
  | exhaustNotice (zone : Zone) (stage : Nat) (requests : List (LoadNo × Nat))
  /-- HEAT_NOTICE -/
  | heatNotice (zone : Zone) (cold frost : Bool) (requests : List (LoadNo × Nat))
  /-- LIGHT_NOTICE -/
  | lightNotice (zone : Zone) (floor : Nat) (requests : List (LoadNo × Nat))
  /-- CURTAIN_REQUEST_NOTICE -/
  | curtainRequestNotice (load : LoadNo) (request : Nat)
  /-- BUDGET_SUBSTITUTE_FLAG_NOTICE -/
  | budgetSubstituteFlagNotice (zone : Zone) (gas : Gas) (flag : Bool)
  /-- SITE_PROFILE_NOTICE -/
  | siteProfileNotice (budget : Nat) (mode : ArbMode)
  /-- CAP_EXPIRY -/
  | capExpiry
  /-- SHED_ROTATION_EXPIRY -/
  | shedRotationExpiry
  /-- STAGGER_EXPIRY -/
  | staggerExpiry
  /-- MIN_OFF_EXPIRY -/
  | minOffExpiry (load : LoadNo)
  /-- CHARACTER_RECEIVED -/
  | characterReceived (char : Byte)
  /-- PULSE_PERIOD_START, at the drive line of a load. -/
  | pulsePeriodStart (line : LoadNo)
deriving DecidableEq, Repr

end Sys2Proof
end

