-- ==== Sys2Proof/WellFormed.lean ====
section
/-! DEFINITION. Which commands are well formed: a request whose fields fit the widths in which its frame carries them
(R164, Table 11-3), a frame whose payload is as long as its length byte says (R149), and a notice whose figures lie in
the ranges in which its sender holds them (Tables 3-1, 4-2, 5-1, 6-1, 7-1, 8-1). -/

namespace Sys2Proof

/-- A number fits a one-byte field. -/
def fitsByte (n : Nat) : Bool := decide (n < 256)

/-- A number fits a two-byte field. -/
def fitsWord (n : Nat) : Bool := decide (n < 65536)

/-- A number fits a signed two-byte field (R164). -/
def fitsSigned (i : Int) : Bool := decide (-32768 ≤ i) && decide (i ≤ 32767)

/-- A list of requests names each load at most once, each with a level of at most 100. -/
def requestsFit (rs : List (LoadNo × Nat)) : Bool := (rs.map Prod.fst).Nodup && rs.all fun r => decide (r.2 ≤ 100)

/-- The highest value of a gas (Table 4-2). -/
def Gas.top : Gas → Nat
  | .co => 500
  | .no2 => 200

/-- The fields of DEF-LOAD fit their widths. -/
def LoadFields.fits (f : LoadFields) : Bool :=
  [f.load, f.type, f.zone, f.maxLevel, f.drawCount, f.door, f.base, f.cls].all fitsByte
    && [f.draw1, f.draw2, f.draw3, f.draw4, f.minOff].all fitsWord

/-- The fields of DEF-PROFILE fit their widths. -/
def ProfileFields.fits (f : ProfileFields) : Bool :=
  [f.profile, f.dockLight, f.floorLight, f.egress, f.mode, f.purge, f.preheat].all fitsByte
    && fitsWord f.budget && fitsSigned f.dockSetpoint && fitsSigned f.floorSetpoint

/-- A plan row record fits its widths. -/
def RowFields.fits (f : RowFields) : Bool :=
  [f.kind, f.profile, f.crew, f.count].all fitsByte && fitsWord f.length

/-- The fields of DEF-DOOR fit their widths. -/
def DoorFields.fits (f : DoorFields) : Bool :=
  [f.door, f.zone, f.openPolarity, f.trailerPolarity, f.mode, f.enabled].all fitsByte && fitsWord f.limit

/-- A command is well formed. -/
def Instr.wf : Instr → Bool
  | .reset _ _ => true
  | .startingEnd => true
  | .frameComplete f => decide (f.payload.length = f.length.toNat) && decide (f.length.toNat ≤ 120)
  | .receiveSilence => true
  | .noStopBitCharacter => true
  | .transmitEnd => true
  | .idleTimerExpiry => true
  | .intervalTimerExpiry => true
  | .partStatus => true
  | .start => true
  | .stop => true
  | .store => true
  | .storeWriteEnd _ => true
  | .setAutorun v => fitsByte v
  | .mask v => fitsByte v
  | .setLink idle interval count retention =>
    fitsWord idle && fitsByte interval && fitsByte count && fitsByte retention
  | .defZone z k => fitsByte z && fitsByte k
  | .zoneStatus z => fitsByte z
  | .defLoad f => f.fits
  | .loadStatus l => fitsByte l
  | .setTime day second => fitsWord day && decide (second < 4294967296)
  | .defProfile f => f.fits
  | .setCalendar p => fitsByte p
  | .planRow row f => fitsByte row && f.fits
  | .planCommit => true
  | .planWithdraw => true
  | .planAnchor day minute => fitsWord day && fitsWord minute
  | .override p d zs => fitsByte p && fitsWord d && zs.all fitsByte && decide (zs.length ≤ 116)
  | .overrideEnd zs => zs.all fitsByte && decide (zs.length ≤ 119)
  | .calendarStatus => true
  | .planRead table row => fitsByte table && fitsByte row
  | .profileRead p => fitsByte p
  | .setDoors f => fitsByte f
  | .defDoor f => f.fits
  | .ackDoor d => fitsByte d
  | .doorStatus d => fitsByte d
  | .defSensor n k z => fitsByte n && fitsByte k && fitsByte z
  | .setSensing gas other interval count =>
    fitsWord gas && fitsWord other && fitsWord interval && fitsByte count
  | .reading n v => fitsByte n && fitsSigned v
  | .sensorStatus n => fitsByte n
  | .setAir a b c d hold => fitsWord a && fitsWord b && fitsByte c && fitsByte d && fitsWord hold
  | .setHeat floor rate hold => fitsByte floor && fitsByte rate && fitsWord hold
  | .cap v d => fitsSigned v && fitsWord d
  | .capEnd => true
  | .setBudget p => fitsWord p
  | .budgetStatus => true
  | .minuteExpiry => true
  | .shiftEnd => true
  | .overrideExpiry _ => true
  | .doorInputChange _ _ => true
  | .settledChange _ => true
  | .dwellTimerExpiry _ => true
  | .doorShiftBoundary => true
  | .quietTimerExpiry _ => true
  | .dueTimerExpiry _ => true
  | .sampleExpiry => true
  | .exhaustStageHoldExpiry _ => true
  | .heldValueNotice _ g v => v.all fun h => decide (h ≤ g.top)
  | .airSubstituteFlagNotice _ _ _ => true
  | .airOpenUnsealedCountNotice _ n => decide (n ≤ 8)
  | .airProfileChangeNotice _ _ => true
  | .airMinuteExpiryNotice => true
  | .purgeExpiry _ => true
  | .airShiftBoundary => true
  | .zoneTemperatureNotice _ v => v.all fun t => decide (-400 ≤ t) && decide (t ≤ 600)
  | .holdDownFlagNotice _ _ => true
  | .heatOpenUnsealedCountNotice _ n => decide (n ≤ 8)
  | .heatProfileChangeNotice _ _ => true
  | .lookaheadNotice l => l.all fun l => decide (1 ≤ l.minutes) && decide (l.minutes ≤ 40320)
  | .heatShiftBoundary => true
  | .heatStageHoldExpiry _ => true
  | .lightProfileChangeNotice _ _ => true
  | .zoneLuxNotice _ lux => decide (lux ≤ 2000)
  | .dockLightNotice _ _ => true
  | .exhaustNotice _ stage rs => decide (stage ≤ 4) && requestsFit rs
  | .heatNotice _ _ _ rs => requestsFit rs
  | .lightNotice _ floor rs => decide (floor ≤ 100) && requestsFit rs
  | .curtainRequestNotice _ r => decide (r ≤ 1)
  | .budgetSubstituteFlagNotice _ _ _ => true
  | .siteProfileNotice b _ => decide (b ≤ 20000)
  | .capExpiry => true
  | .shedRotationExpiry => true
  | .staggerExpiry => true
  | .minOffExpiry _ => true
  | .characterReceived _ => true
  | .pulsePeriodStart _ => true

end Sys2Proof
end

