-- ==== Sys2Proof/Decode.lean ====
section
/-! DEFINITION. The widths of fields (R164), reading a request from the kind and payload of a frame (R165, Table 11-3)
and writing it there. The rows of spec/opcode_table.json give no bits, so no table word spells a command. -/

namespace Sys2Proof

/-- No row of spec/opcode_table.json has bits: a table word spells no command. -/
def decodeTableWord (_nbits _w : Nat) : Option Instr := none

/-! ### Widths (R164) -/

/-- A one-byte field. -/
def byte (n : Nat) : Byte := BitVec.ofNat 8 n

/-- A two-byte number, high byte first. -/
def word (n : Nat) : List Byte := [byte (n / 256), byte n]

/-- A four-byte number, high byte first. -/
def long (n : Nat) : List Byte := [byte (n / 16777216), byte (n / 65536), byte (n / 256), byte n]

/-- A signed two-byte field in two's complement. -/
def signed (i : Int) : List Byte := word (i % 65536).toNat

/-- The number in a two-byte field. -/
def word2 (a b : Byte) : Nat := a.toNat * 256 + b.toNat

/-- The number in a four-byte field. -/
def long4 (a b c d : Byte) : Nat := ((a.toNat * 256 + b.toNat) * 256 + c.toNat) * 256 + d.toNat

/-- The number in a signed two-byte field (R164). -/
def signed2 (a b : Byte) : Int :=
  if word2 a b < 32768 then (word2 a b : Int) else (word2 a b : Int) - 65536

/-! ### Requests (R165) -/

/-- What the Link Unit makes of a frame's kind and payload (R151, R165). -/
inductive Decoded where
  | unknownKind
  | badLength
  | request (c : Instr)
deriving DecidableEq, Repr

/-- A request without payload. -/
def decode0 (c : Instr) : List Byte → Decoded
  | [] => .request c
  | _ => .badLength

/-- A request of one one-byte field. -/
def decode1 (f : Nat → Instr) : List Byte → Decoded
  | [a] => .request (f a.toNat)
  | _ => .badLength

/-- A request of two one-byte fields. -/
def decode2 (f : Nat → Nat → Instr) : List Byte → Decoded
  | [a, b] => .request (f a.toNat b.toNat)
  | _ => .badLength

/-- SET-LINK. -/
def decodeSetLink : List Byte → Decoded
  | [a, b, c, d, e] => .request (.setLink (word2 a b) c.toNat d.toNat e.toNat)
  | _ => .badLength

/-- DEF-LOAD. -/
def decodeDefLoad : List Byte → Decoded
  | [l, t, z, m, n, a, a', b, b', c, c', d, d', dr, pr, cl, o, o'] =>
    .request (.defLoad
      { load := l.toNat, type := t.toNat, zone := z.toNat, maxLevel := m.toNat, drawCount := n.toNat,
        draw1 := word2 a a', draw2 := word2 b b', draw3 := word2 c c', draw4 := word2 d d', door := dr.toNat,
        base := pr.toNat, cls := cl.toNat, minOff := word2 o o' })
  | _ => .badLength

/-- SET-TIME. -/
def decodeSetTime : List Byte → Decoded
  | [a, b, c, d, e, f] => .request (.setTime (word2 a b) (long4 c d e f))
  | _ => .badLength

/-- DEF-PROFILE. -/
def decodeDefProfile : List Byte → Decoded
  | [p, a, a', b, b', dl, fl, eg, c, c', m, pu, pr] =>
    .request (.defProfile
      { profile := p.toNat, dockSetpoint := signed2 a a', floorSetpoint := signed2 b b', dockLight := dl.toNat,
        floorLight := fl.toNat, egress := eg.toNat, budget := word2 c c', mode := m.toNat, purge := pu.toNat,
        preheat := pr.toNat })
  | _ => .badLength

/-- PLAN-ROW. -/
def decodePlanRow : List Byte → Decoded
  | [r, k, p, a, b, c, n] =>
    .request (.planRow r.toNat
      { kind := k.toNat, profile := p.toNat, length := word2 a b, crew := c.toNat, count := n.toNat })
  | _ => .badLength

/-- PLAN-ANCHOR. -/
def decodePlanAnchor : List Byte → Decoded
  | [a, b, c, d] => .request (.planAnchor (word2 a b) (word2 c d))
  | _ => .badLength

/-- OVERRIDE: the length must equal the fixed part plus the zone count carried. -/
def decodeOverride : List Byte → Decoded
  | p :: a :: b :: n :: zs =>
    if zs.length = n.toNat then .request (.override p.toNat (word2 a b) (zs.map BitVec.toNat)) else .badLength
  | _ => .badLength

/-- OVERRIDE-END: the length must equal the fixed part plus the zone count carried. -/
def decodeOverrideEnd : List Byte → Decoded
  | n :: zs => if zs.length = n.toNat then .request (.overrideEnd (zs.map BitVec.toNat)) else .badLength
  | _ => .badLength

/-- DEF-DOOR. -/
def decodeDefDoor : List Byte → Decoded
  | [d, z, o, t, a, b, m, e] =>
    .request (.defDoor
      { door := d.toNat, zone := z.toNat, openPolarity := o.toNat, trailerPolarity := t.toNat, limit := word2 a b,
        mode := m.toNat, enabled := e.toNat })
  | _ => .badLength

/-- DEF-SENSOR. -/
def decodeDefSensor : List Byte → Decoded
  | [a, b, c] => .request (.defSensor a.toNat b.toNat c.toNat)
  | _ => .badLength

/-- SET-SENSING. -/
def decodeSetSensing : List Byte → Decoded
  | [a, a', b, b', c, c', d] => .request (.setSensing (word2 a a') (word2 b b') (word2 c c') d.toNat)
  | _ => .badLength

/-- READING. -/
def decodeReading : List Byte → Decoded
  | [n, a, b] => .request (.reading n.toNat (signed2 a b))
  | _ => .badLength

/-- SET-AIR. -/
def decodeSetAir : List Byte → Decoded
  | [a, a', b, b', c, d, e, e'] => .request (.setAir (word2 a a') (word2 b b') c.toNat d.toNat (word2 e e'))
  | _ => .badLength

/-- SET-HEAT. -/
def decodeSetHeat : List Byte → Decoded
  | [a, b, c, d] => .request (.setHeat a.toNat b.toNat (word2 c d))
  | _ => .badLength

/-- CAP. -/
def decodeCap : List Byte → Decoded
  | [a, b, c, d] => .request (.cap (signed2 a b) (word2 c d))
  | _ => .badLength

/-- SET-BUDGET. -/
def decodeSetBudget : List Byte → Decoded
  | [a, b] => .request (.setBudget (word2 a b))
  | _ => .badLength

/-- Reading a request from the kind and payload of a frame (R165, Table 11-3). -/
def decodeRequest (kind : Byte) (payload : List Byte) : Decoded :=
  match kind.toNat with
  | 0x01 => decode0 .partStatus payload
  | 0x02 => decode0 .start payload
  | 0x03 => decode0 .stop payload
  | 0x04 => decode0 .store payload
  | 0x05 => decode1 .setAutorun payload
  | 0x06 => decode1 .mask payload
  | 0x07 => decodeSetLink payload
  | 0x10 => decode2 .defZone payload
  | 0x11 => decode1 .zoneStatus payload
  | 0x12 => decodeDefLoad payload
  | 0x13 => decode1 .loadStatus payload
  | 0x18 => decodeSetTime payload
  | 0x19 => decodeDefProfile payload
  | 0x1A => decode1 .setCalendar payload
  | 0x1B => decodePlanRow payload
  | 0x1C => decode0 .planCommit payload
  | 0x1D => decode0 .planWithdraw payload
  | 0x1E => decodePlanAnchor payload
  | 0x1F => decodeOverride payload
  | 0x20 => decodeOverrideEnd payload
  | 0x21 => decode0 .calendarStatus payload
  | 0x22 => decode2 .planRead payload
  | 0x23 => decode1 .profileRead payload
  | 0x28 => decode1 .setDoors payload
  | 0x29 => decodeDefDoor payload
  | 0x2A => decode1 .ackDoor payload
  | 0x2B => decode1 .doorStatus payload
  | 0x30 => decodeDefSensor payload
  | 0x31 => decodeSetSensing payload
  | 0x32 => decodeReading payload
  | 0x33 => decode1 .sensorStatus payload
  | 0x38 => decodeSetAir payload
  | 0x39 => decodeSetHeat payload
  | 0x3A => decodeCap payload
  | 0x3B => decode0 .capEnd payload
  | 0x3C => decodeSetBudget payload
  | 0x3D => decode0 .budgetStatus payload
  | _ => .unknownKind

/-- The kind of a request and its payload (Table 11-3); none for a command that is no request. -/
def encodeRequest : Instr → Option (Byte × List Byte)
  | .partStatus => some (0x01, [])
  | .start => some (0x02, [])
  | .stop => some (0x03, [])
  | .store => some (0x04, [])
  | .setAutorun v => some (0x05, [byte v])
  | .mask v => some (0x06, [byte v])
  | .setLink i v c r => some (0x07, word i ++ [byte v, byte c, byte r])
  | .defZone z k => some (0x10, [byte z, byte k])
  | .zoneStatus z => some (0x11, [byte z])
  | .defLoad f =>
    some (0x12, [byte f.load, byte f.type, byte f.zone, byte f.maxLevel, byte f.drawCount] ++ word f.draw1
      ++ word f.draw2 ++ word f.draw3 ++ word f.draw4 ++ [byte f.door, byte f.base, byte f.cls] ++ word f.minOff)
  | .loadStatus l => some (0x13, [byte l])
  | .setTime d s => some (0x18, word d ++ long s)
  | .defProfile f =>
    some (0x19, byte f.profile :: signed f.dockSetpoint ++ signed f.floorSetpoint
      ++ [byte f.dockLight, byte f.floorLight, byte f.egress] ++ word f.budget
      ++ [byte f.mode, byte f.purge, byte f.preheat])
  | .setCalendar p => some (0x1A, [byte p])
  | .planRow r f =>
    some (0x1B, [byte r, byte f.kind, byte f.profile] ++ word f.length ++ [byte f.crew, byte f.count])
  | .planCommit => some (0x1C, [])
  | .planWithdraw => some (0x1D, [])
  | .planAnchor d m => some (0x1E, word d ++ word m)
  | .override p d zs => some (0x1F, byte p :: word d ++ [byte zs.length] ++ zs.map byte)
  | .overrideEnd zs => some (0x20, byte zs.length :: zs.map byte)
  | .calendarStatus => some (0x21, [])
  | .planRead t r => some (0x22, [byte t, byte r])
  | .profileRead p => some (0x23, [byte p])
  | .setDoors f => some (0x28, [byte f])
  | .defDoor f =>
    some (0x29, [byte f.door, byte f.zone, byte f.openPolarity, byte f.trailerPolarity] ++ word f.limit
      ++ [byte f.mode, byte f.enabled])
  | .ackDoor d => some (0x2A, [byte d])
  | .doorStatus d => some (0x2B, [byte d])
  | .defSensor n k z => some (0x30, [byte n, byte k, byte z])
  | .setSensing g o i c => some (0x31, word g ++ word o ++ word i ++ [byte c])
  | .reading n v => some (0x32, byte n :: signed v)
  | .sensorStatus n => some (0x33, [byte n])
  | .setAir a b c d h => some (0x38, word a ++ word b ++ [byte c, byte d] ++ word h)
  | .setHeat f r h => some (0x39, [byte f, byte r] ++ word h)
  | .cap v d => some (0x3A, signed v ++ word d)
  | .capEnd => some (0x3B, [])
  | .setBudget p => some (0x3C, word p)
  | .budgetStatus => some (0x3D, [])
  | _ => none

end Sys2Proof
end

