-- ==== Sys2Proof/Machine/State.lean ====
section
/-! DEFINITION. The state of the part, block by block (Table 0-2), as plain data, and the state right after reset. -/

namespace Sys2Proof.Machine

/-- The manual names nothing that stops the part with a fault: every command leads to a next state. -/
inductive Fault where
deriving DecidableEq, Repr

/-- The reasons for which a command has no meaning. -/
inductive Refusal where
  /-- Raised by no command of this model: every row of the table has its meaning. It would be safe. -/
  | notModelled (mnemonic : String)
deriving DecidableEq, Repr

/-- Operating state (Table 10-1). -/
inductive OpState where
  | starting | configure | run
deriving DecidableEq, Repr

/-- Bit rate of the link (Table 10-2). -/
inductive BitRate where
  | b19200 | b57600 | b115200 | b230400
deriving DecidableEq, Repr

/-- Outcome of a request (Table 9-2). -/
inductive Status where
  | ok | clamped | unknownKind | badLength | badField | notFound | wrongState | inUse | frozen | planInvalid
  | stillActive | storeFailed
deriving DecidableEq, Repr

/-! ### Part and Settings Store -/

/-- Part-wide state (Table 10-1) and the strap pins. -/
structure Part where
  op : OpState
  bitRate : BitRate
  autorun : Bool
  imageValid : Bool
  strap1 : Bool
  strap0 : Bool
deriving DecidableEq, Repr

/-- The non-volatile image (section 10.2): never written or cut short, or contents with a check value. -/
inductive Image where
  | broken
  | written (contents : Stored) (check : BitVec 16)
deriving DecidableEq, Repr

/-- A STORE write in progress: its snapshot, and whether its reply answers the frame in service (R163). -/
structure StoreWrite where
  snapshot : Stored
  answers : Bool
deriving DecidableEq, Repr

/-- The Settings Store. -/
structure Store where
  image : Image
  write : Option StoreWrite
deriving DecidableEq, Repr

/-! ### Shed Layout and Budget Unit, per load -/

/-- A load record (Table 1-2): definition, runtime fields, and the effective priority of the last pass. -/
structure Load where
  defn : Option LoadDef
  request : Nat
  grant : Nat
  drive : Nat
  minOff : Timer
  priority : Nat
deriving DecidableEq, Repr

/-! ### Calendar Unit -/

/-- A frame of the cursor's loop stack (R33): the row of a REPEAT and the passes left in its group. -/
structure LoopFrame where
  row : Nat
  passes : Nat
deriving DecidableEq, Repr

/-- The cursor of a running rotation (R33); the innermost loop frame comes first in the stack. -/
inductive Cursor where
  | waiting
  | inShift (row left : Nat) (stack : List LoopFrame)
deriving DecidableEq, Repr

/-- How long an override or a demand cap lasts: until it is ended (by the boundary, by CAP-END), or minutes. -/
inductive Span where
  | untilEnded
  | minutes (left : Nat)
deriving DecidableEq, Repr

/-- An override record that is present (Table 2-6). -/
structure Override where
  profile : ProfileNo
  span : Span
deriving DecidableEq, Repr

/-- The Calendar Unit. `tenth` is the part of the running second already gone, in tenths. -/
structure Calendar where
  day : Nat
  second : Nat
  tenth : Nat
  unknown : Bool
  profiles : Table 8 Profile
  defaultProfile : ProfileNo
  active : Table 24 Row
  pendingTable : Table 24 Row
  committed : Bool
  anchor : Option Anchor
  cursor : Option Cursor
  lookahead : Option Lookahead
  overrides : Table 12 (Option Override)
  inForce : Table 12 ProfileNo
  siteProfile : ProfileNo
deriving DecidableEq, Repr

/-! ### Door Unit -/

/-- State of a door (Table 3-2). -/
inductive DoorState where
  | disabled | closed | opened | dwell | sealed
deriving DecidableEq, Repr

/-- A door record (Table 3-1); `defn` is none for an undefined door. -/
structure Door where
  defn : Option DoorDef
  state : DoorState
  evaluated : Bool
  dwell : Timer
  alert : Bool
  opens : Nat
  entries : Nat
deriving DecidableEq, Repr

/-- A door input line (R54): its level, its settled level, and, while it differs, the tenths it has differed. -/
structure Line where
  high : Bool
  settled : Bool
  timing : Option Nat
deriving DecidableEq, Repr

/-- The Door Unit. -/
structure Doors where
  doors : Table 32 Door
  lines : Table 64 Line
  filter : Nat
deriving DecidableEq, Repr

/-! ### Reading Unit -/

/-- State of a sensor (section 4.1). -/
inductive SensorState where
  | awaiting | fresh | quiet | lost
deriving DecidableEq, Repr

/-- A sensor record (Table 4-1). -/
structure Sensor where
  defn : Option SensorDef
  state : SensorState
  value : Option Int
  quiet : Timer
  due : Timer
  dueCount : Nat
deriving DecidableEq, Repr

/-- The Reading Unit. -/
structure Readings where
  sensors : Table 40 Sensor
  settings : SensingSettings
deriving DecidableEq, Repr

/-! ### Air Unit -/

/-- A sum of samples and their number: the minute accumulator, or a bucket of the ring (Table 5-1). -/
structure Bucket where
  sum : Nat
  count : Nat
deriving DecidableEq, Repr

/-- The Air Unit's record of one gas in one zone (Table 5-1). -/
structure GasAir where
  acc : Bucket
  ring : List Bucket
  dose : Nat
  count : Nat
  sta : Option Nat
  swa : Option Nat
  shortRatio : Nat
  shiftRatio : Nat
  index : Nat
  latch : Bool
  held : Option Nat
  substitute : Bool
deriving DecidableEq, Repr

/-- A running purge timer; `fresh` while the minute expiry on which its change arose has not been taken (R102). -/
structure Purge where
  minutes : Nat
  fresh : Bool
deriving DecidableEq, Repr

/-- The Air Unit's record of one zone (Table 5-1). -/
structure AirZone where
  co : GasAir
  no2 : GasAir
  openCount : Nat
  raw : Nat
  effective : Nat
  stage : Nat
  hold : Timer
  purge : Option Purge
  highest : Nat
  exceeded : Bool
deriving DecidableEq, Repr

/-- The sample clock while it runs (R90): the time to the next expiry and the expiries counted so far. -/
structure SampleClock where
  left : Timer
  expiries : Nat
deriving DecidableEq, Repr

/-- The Air Unit. -/
structure Air where
  zones : Table 12 AirZone
  settings : AirSettings
  clock : Option SampleClock
deriving DecidableEq, Repr

/-! ### Heat Unit -/

/-- The Heat Unit's record of one zone (Table 6-1). -/
structure HeatZone where
  stage : Nat
  hold : Timer
  frost : Bool
  preheat : Bool
  setpoint : Int
  cold : Bool
  temp : Option Int
  holdDown : Bool
  openCount : Nat
  profile : ProfileNo
deriving DecidableEq, Repr

/-- The Heat Unit. -/
structure Heat where
  zones : Table 12 HeatZone
  settings : HeatSettings
  lookahead : Option Lookahead
  bar : Bool
deriving DecidableEq, Repr

/-! ### Light Unit -/

/-- The Light Unit's record of one zone (Table 7-1). -/
structure LightZone where
  level : Nat
  floor : Nat
  profile : ProfileNo
  lux : Nat
deriving DecidableEq, Repr

/-- The Light Unit: zones, the dock-light copies (true for SEALED), and the request last given for each load. -/
structure Light where
  zones : Table 12 LightZone
  dock : Table 32 Bool
  requests : Table 64 Nat
deriving DecidableEq, Repr

/-! ### Budget Unit -/

/-- A demand cap that is present (Table 8-1). -/
structure Cap where
  value : Nat
  span : Span
deriving DecidableEq, Repr

/-- The Budget Unit's copies for one zone (Table 8-1). -/
structure BudgetZone where
  stage : Nat
  cold : Bool
  frost : Bool
  floor : Nat
  subCo : Bool
  subNo2 : Bool
deriving DecidableEq, Repr

/-- The Budget Unit (Table 8-1); the per-load fields stand in the load records. -/
structure Budget where
  site : Nat
  mode : ArbMode
  cap : Option Cap
  inForce : Nat
  tie : LoadNo
  rotation : Timer
  period : Nat
  shed : List LoadNo
  queue : List LoadNo
  stagger : Timer
  zones : Table 12 BudgetZone
  protectedDraw : Nat
  committedDraw : Nat
deriving DecidableEq, Repr

/-! ### Link Unit -/

/-- State of the receiver (R149), with the part of the frame received so far. -/
inductive Receiver where
  | hunt
  | sync
  | length
  | kind (length : Byte)
  | payload (length kind : Byte) (got : List Byte)
  | check (length kind : Byte) (payload : List Byte) (first : Option Byte)
deriving DecidableEq, Repr

/-- A valid frame in the receive buffer (R150). -/
structure Frame where
  kind : Byte
  payload : List Byte
deriving DecidableEq, Repr

/-- Supervision state (R154). -/
inductive Supervision where
  | up | quiet | lost
deriving DecidableEq, Repr

/-- A reply (R151, R166). `answers` says that it answers the frame in service, which leaves the buffer with it. -/
structure Reply where
  kind : Byte
  status : Status
  overrun : Bool
  fields : List Byte
  answers : Bool
deriving DecidableEq, Repr

/-- The Air Unit's figures for one zone in a BOUNDARY report (R41, R107). -/
structure AirFigures where
  co : Option Nat
  no2 : Option Nat
  highest : Nat
  exceeded : Bool
deriving DecidableEq, Repr

/-- The Door Unit's sums for one zone in a BOUNDARY report (R41, R67). -/
structure DoorFigures where
  opens : Nat
  entries : Nat
deriving DecidableEq, Repr

/-- The common part of a BOUNDARY report (R41): when, and the row (none while waiting), profile and crew tag. -/
structure BoundaryHead where
  day : Nat
  minute : Nat
  row : Option Nat
  profile : ProfileNo
  crew : Nat
deriving DecidableEq, Repr

/-- What an AIR-TRIP report says of one gas (R104). -/
structure GasReport where
  monitored : Bool
  index : Nat
  held : Option Nat
  latch : Bool
  substitute : Bool
deriving DecidableEq, Repr

/-- The body of a report (Table 11-6). -/
inductive Body where
  | ready (revision : Byte) (imageValid : Bool) (entered : OpState)
  | boundary (head : BoundaryHead) (air : List AirFigures) (doors : List DoorFigures)
  | adopted (anchor : Anchor)
  | doorAlert (door : DoorNo) (zone : Zone) (limit entries : Nat) (mode : AlertMode)
  | due (sensor : SensorNo) (defn : SensorDef) (state : SensorState) (count : Nat)
  | sensorLost (sensor : SensorNo) (defn : SensorDef) (left : SensorState)
  | airTrip (zone : Zone) (raw effective : Nat) (co no2 : GasReport)
  | airClear (zone : Zone) (stage raw effective : Nat)
  | frost (zone : Zone) (temp : Int) (floor stage : Nat) (holdDown : Bool) (count : Nat)
  | frostEnd (zone : Zone) (temp : Int) (floor : Nat)
  | shedBegin (budget protectedDraw committedDraw : Nat) (shed : List LoadNo)
  | shedEnd (budget committedDraw : Nat)
  | linkBack (left : Supervision) (probes : Nat)
deriving DecidableEq, Repr

/-- A report with its stamp (R153). -/
structure Report where
  day : Nat
  second : Nat
  unknown : Bool
  body : Body
deriving DecidableEq, Repr

/-- A PROBE (R154, R167). -/
structure Probe where
  day : Nat
  second : Nat
  unknown : Bool
  state : Supervision
  queued : Nat
deriving DecidableEq, Repr

/-- A frame being transmitted (R152); a report carries the gap mark of the moment its transmission began. -/
inductive Sent where
  | reply (reply : Reply)
  | probe (probe : Probe)
  | report (report : Report) (gap : Bool)
deriving DecidableEq, Repr

/-- The Link Unit (Table 9-1). `handed` is the request that the Link Unit has handed to its block and the block has
not taken yet; `sending` is the frame the transmitter is sending. -/
structure Link where
  receiver : Receiver
  buffer : List Frame
  overrun : Bool
  handed : Option Instr
  reply : Option Reply
  reports : List Report
  gap : Bool
  mask : Nat
  supervision : Supervision
  idle : Timer
  interval : Timer
  probes : Nat
  probe : Option Probe
  settings : LinkSettings
  sending : Option Sent
deriving DecidableEq, Repr

/-! ### Between the blocks -/

/-- A BOUNDARY report whose figures are still being entered (R41), with the anchor of its ADOPTED report. -/
structure Draft where
  head : BoundaryHead
  air : Option (List AirFigures)
  doors : Option (List DoorFigures)
  adopted : Option Anchor
deriving DecidableEq, Repr

/-- The blocks that give each other notices (Table 0-2). -/
inductive Block where
  | calendar | door | reading | air | heat | light | budget
deriving DecidableEq, Repr

/-- A notice given and not yet taken, with the number of the event that gave it (R70, R86, R112, R136). -/
structure Flight where
  event : Nat
  notice : Instr
deriving DecidableEq, Repr

/-- The state of the part. `pending` is the queue of commands that wait, first in, first out. -/
structure State where
  part : Part
  store : Store
  zones : Table 12 ZoneKind
  loads : Table 64 Load
  duty : Table 64 Nat
  calendar : Calendar
  doors : Doors
  readings : Readings
  air : Air
  heat : Heat
  light : Light
  budget : Budget
  link : Link
  drafts : List Draft
  inFlight : List Flight
  choices : Nat
  pending : List Instr
deriving DecidableEq, Repr

/-! ### Reset values -/

/-- A load record at rest: its definition, every runtime field 0, the timer not running (R18, R147). -/
def Load.atRest (d : Option LoadDef) : Load :=
  { defn := d, request := 0, grant := 0, drive := 0, minOff := none,
    priority := match d with | some d => d.base | none => 0 }

/-- A door record at rest (R72, R73): CLOSED when enabled, DISABLED when not, not evaluated. -/
def Door.atRest (d : Option DoorDef) : Door :=
  { defn := d
    state := match d with | some d => if d.enabled then .closed else .disabled | none => .disabled
    evaluated := false, dwell := none, alert := false, opens := 0, entries := 0 }

/-- A sensor record at rest (R88, R89): AWAITING, no value, no timer. -/
def Sensor.atRest (d : Option SensorDef) : Sensor :=
  { defn := d, state := .awaiting, value := none, quiet := none, due := none, dueCount := 0 }

/-- A gas record after reset (R109). -/
def GasAir.atRest : GasAir :=
  { acc := ⟨0, 0⟩, ring := [], dose := 0, count := 0, sta := none, swa := none, shortRatio := 0, shiftRatio := 0,
    index := 0, latch := false, held := none, substitute := false }

/-- An Air Unit zone record after reset (R109). -/
def AirZone.atRest : AirZone :=
  { co := GasAir.atRest, no2 := GasAir.atRest, openCount := 0, raw := 0, effective := 0, stage := 0, hold := none,
    purge := none, highest := 0, exceeded := false }

/-- The Air Unit at rest, with its settings (R109, R110). -/
def Air.atRest (a : AirSettings) : Air := { zones := Table.fill 12 AirZone.atRest, settings := a, clock := none }

/-- A Heat Unit zone record after reset (R123), with its profile copy; the setpoint in use is 0, DESIGN CHOICE,
assumption log, entry 9. -/
def HeatZone.atRest (p : ProfileNo) : HeatZone :=
  { stage := 0, hold := none, frost := false, preheat := false, setpoint := 0, cold := false, temp := none,
    holdDown := false, openCount := 0, profile := p }

/-- The Heat Unit at rest (R123, R124). -/
def Heat.atRest (h : HeatSettings) (p : ProfileNo) : Heat :=
  { zones := Table.fill 12 (HeatZone.atRest p), settings := h, lookahead := none, bar := false }

/-- A Light Unit zone record after reset (R131), with its profile copy. -/
def LightZone.atRest (p : ProfileNo) : LightZone := { level := 0, floor := 0, profile := p, lux := 0 }

/-- The Light Unit at rest (R131, R132). -/
def Light.atRest (p : ProfileNo) : Light :=
  { zones := Table.fill 12 (LightZone.atRest p), dock := Table.fill 32 false, requests := Table.fill 64 0 }

/-- The Budget Unit's copies for a zone after reset (R147). -/
def BudgetZone.atRest : BudgetZone :=
  { stage := 0, cold := false, frost := false, floor := 0, subCo := false, subNo2 := false }

/-- The Budget Unit at rest (R147, R148), with the default profile and the shed rotation period. -/
def Budget.atRest (p : Profile) (period : Nat) : Budget :=
  { site := p.budget, mode := p.mode, cap := none, inForce := p.budget, tie := 0, rotation := none, period := period,
    shed := [], queue := [], stagger := none, zones := Table.fill 12 BudgetZone.atRest, protectedDraw := 0,
    committedDraw := 0 }

/-- The Calendar Unit after reset (R51), with what it takes from the image or from the built-in defaults. -/
def Calendar.atReset (c : Stored) : Calendar :=
  { day := 0, second := 0, tenth := 0, unknown := true, profiles := c.profiles, defaultProfile := c.defaultProfile,
    active := c.active, pendingTable := Table.fill 24 .empty, committed := false, anchor := c.anchor, cursor := none,
    lookahead := none, overrides := Table.fill 12 none, inForce := Table.fill 12 c.defaultProfile,
    siteProfile := c.defaultProfile }

/-- The Link Unit after reset and through STARTING (R157), with its mask and settings. -/
def Link.atReset (mask : Nat) (l : LinkSettings) : Link :=
  { receiver := .hunt, buffer := [], overrun := false, handed := none, reply := none, reports := [], gap := false,
    mask := mask, supervision := .up, idle := none, interval := none, probes := 0, probe := none, settings := l,
    sending := none }

/-- Power-on. Every block has its reset values and the built-in defaults, which STARTING replaces where the stored
image is valid (R158, R159); no image has ever been written, every pin is low and no command waits (assumption log,
entries 7 and 8). -/
def State.reset : State :=
  { part := { op := .starting, bitRate := .b19200, autorun := false, imageValid := false, strap1 := false,
              strap0 := false }
    store := { image := .broken, write := none }
    zones := Stored.builtIn.zones
    loads := Table.fill 64 (Load.atRest none)
    duty := Table.fill 64 0
    calendar := Calendar.atReset Stored.builtIn
    doors := { doors := Table.fill 32 (Door.atRest none), lines := Table.fill 64 ⟨false, false, none⟩,
               filter := Stored.builtIn.filter }
    readings := { sensors := Table.fill 40 (Sensor.atRest none), settings := Stored.builtIn.sensing }
    air := Air.atRest Stored.builtIn.air
    heat := Heat.atRest Stored.builtIn.heat 0
    light := Light.atRest 0
    budget := Budget.atRest Profile.builtIn Stored.builtIn.rotationPeriod
    link := Link.atReset Stored.builtIn.mask Stored.builtIn.link
    drafts := []
    inFlight := []
    choices := 0
    pending := [] }

end Sys2Proof.Machine
end

