-- ==== Sys2Proof/Machine/Operands.lean ====
section
/-! DEFINITION. The operand forms of the requests: coded values (Table 11-2), ranges (Tables 1-3, 2-1, 2-2, 3-1), and
the byte widths in which fields travel (R164). A code absent from Table 11-2 is out of range (R165). -/

namespace Sys2Proof.Machine

/-! ### Codes read from a request -/

/-- A zone kind code. -/
def zoneKind? : Nat → Option ZoneKind
  | 0 => some .undefined
  | 1 => some .dock
  | 2 => some .floor
  | _ => none

/-- A load type code other than NONE, which is 0. -/
def loadType? : Nat → Option LoadType
  | 1 => some .heater
  | 2 => some .exhaust
  | 3 => some .curtain
  | 4 => some .light
  | _ => none

/-- A sensor kind code other than NONE, which is 0. -/
def sensorKind? : Nat → Option SensorKind
  | 1 => some .temp
  | 2 => some .co
  | 3 => some .no2
  | 4 => some .lux
  | _ => none

/-- A polarity code. -/
def polarity? : Nat → Option Polarity
  | 0 => some .high
  | 1 => some .low
  | _ => none

/-- An alert mode code. -/
def alertMode? : Nat → Option AlertMode
  | 0 => some .edge
  | 1 => some .level
  | _ => none

/-- An arbitration mode code. -/
def arbMode? : Nat → Option ArbMode
  | 0 => some .static
  | 1 => some .dynamic
  | _ => none

/-- A restart class code. -/
def restartClass? : Nat → Option RestartClass
  | 0 => some .short
  | 1 => some .long
  | _ => none

/-- A retention code. -/
def retention? : Nat → Option Retention
  | 0 => some .retain
  | 1 => some .flush
  | _ => none

/-- A single flag: 0 or 1, anything else out of range (R164). -/
def flag? : Nat → Option Bool
  | 0 => some false
  | 1 => some true
  | _ => none

/-- A plan row record (Tables 2-2 and 11-9): `none` when its kind is no kind of row or a field of its kind is out of
range; the fields that the kind does not use may hold any value (R165). -/
def row? (f : RowFields) : Option Row :=
  match f.kind with
  | 0 => some .empty
  | 1 =>
    match number? 8 f.profile with
    | some p => if 1 ≤ f.length ∧ f.length ≤ 1440 ∧ f.crew ≤ 15 then some (.shift p f.length f.crew) else none
    | none => none
  | 2 => if f.count ≤ 99 then some (.repeatGroup f.count) else none
  | 3 => some .endGroup
  | _ => none

/-- The profile record that DEF-PROFILE gives, when every field lies in the range of Table 2-1 and the egress floor is
above neither light level (R24). -/
def profile? (f : ProfileFields) : Option Profile :=
  match arbMode? f.mode, flag? f.preheat with
  | some mode, some preheat =>
    if -100 ≤ f.dockSetpoint ∧ f.dockSetpoint ≤ 300 ∧ -100 ≤ f.floorSetpoint ∧ f.floorSetpoint ≤ 300
        ∧ f.dockLight ≤ 100 ∧ f.floorLight ≤ 100 ∧ f.egress ≤ 100 ∧ f.budget ≤ 20000 ∧ f.purge ≤ 60
        ∧ f.egress ≤ f.dockLight ∧ f.egress ≤ f.floorLight then
      some { dockSetpoint := f.dockSetpoint, floorSetpoint := f.floorSetpoint, dockLight := f.dockLight,
             floorLight := f.floorLight, egress := f.egress, budget := f.budget, mode := mode, purge := f.purge,
             preheat := preheat }
    else none
  | _, _ => none

/-- The range of the maximum level of a load type (Table 1-3). -/
def maxLevelInRange (t : LoadType) (m : Nat) : Bool :=
  match t with
  | .heater => 1 ≤ m && m ≤ 3
  | .exhaust => 1 ≤ m && m ≤ 4
  | .curtain => m == 1
  | .light => m == 100

/-- No value of a draw list is smaller than the one before it (R6). -/
def nonDecreasing : List Nat → Bool
  | a :: b :: l => a ≤ b && nonDecreasing (b :: l)
  | _ => true

/-- A draw list fits its load type (R6, R7). -/
def drawsFit (t : LoadType) (m : Nat) (draws : List Nat) : Bool :=
  draws.all (· ≤ 2000) &&
    match t with
    | .heater => draws.length == m && nonDecreasing draws
    | .exhaust => draws.length == m && nonDecreasing draws
    | .curtain => draws.length == 1
    | .light => draws.length == 1

end Sys2Proof.Machine
namespace Sys2Proof
open Machine

/-- The draw list of DEF-LOAD: the slots up to the draw count; a count above 4 gives a list that fits no load. -/
def LoadFields.draws (f : LoadFields) : List Nat :=
  if f.drawCount ≤ 4 then [f.draw1, f.draw2, f.draw3, f.draw4].take f.drawCount else List.replicate 5 0


/-- A door binding is given, 0xFF being none (R164). -/
def LoadFields.bound (f : LoadFields) : Bool := f.door != 255

end Sys2Proof
namespace Sys2Proof.Machine

/-- The presence rules of R8: a CURTAIN load has a binding, a HEATER or EXHAUST load has none. -/
def bindingFits (t : LoadType) (bound : Bool) : Bool :=
  match t with
  | .heater => !bound
  | .exhaust => !bound
  | .curtain => bound
  | .light => true

end Sys2Proof.Machine
namespace Sys2Proof
open Machine

/-- Check 2 of R10 for a type other than NONE. -/
def LoadFields.inRange (f : LoadFields) (t : LoadType) : Bool :=
  maxLevelInRange t f.maxLevel && drawsFit t f.maxLevel f.draws && f.base ≤ 3 && (restartClass? f.cls).isSome
    && f.minOff ≤ 900 && bindingFits t f.bound


/-- The range of a reading by sensor kind (Table 4-2). -/
def SensorKind.range : SensorKind → Int × Int
  | .temp => (-400, 600)
  | .co => (0, 500)
  | .no2 => (0, 200)
  | .lux => (0, 2000)

end Sys2Proof
namespace Sys2Proof.Machine

/-- Clamping to a range (R78, R134). -/
def clampTo (lo hi v : Int) : Int := max lo (min hi v)

/-! ### Codes written to a reply or report -/

end Sys2Proof.Machine
namespace Sys2Proof
open Machine

def ZoneKind.code : ZoneKind → Nat
  | .undefined => 0 | .dock => 1 | .floor => 2


def LoadType.code : LoadType → Nat
  | .heater => 1 | .exhaust => 2 | .curtain => 3 | .light => 4


def SensorKind.code : SensorKind → Nat
  | .temp => 1 | .co => 2 | .no2 => 3 | .lux => 4

end Sys2Proof
namespace Sys2Proof.Machine

def SensorState.code : SensorState → Nat
  | .awaiting => 0 | .fresh => 1 | .quiet => 2 | .lost => 3

def DoorState.code : DoorState → Nat
  | .disabled => 0 | .closed => 1 | .opened => 2 | .dwell => 3 | .sealed => 4

end Sys2Proof.Machine
namespace Sys2Proof
open Machine

def Polarity.code : Polarity → Nat
  | .high => 0 | .low => 1


def AlertMode.code : AlertMode → Nat
  | .edge => 0 | .level => 1


def ArbMode.code : ArbMode → Nat
  | .static => 0 | .dynamic => 1


def RestartClass.code : RestartClass → Nat
  | .short => 0 | .long => 1

end Sys2Proof
namespace Sys2Proof.Machine

def OpState.code : OpState → Nat
  | .starting => 0 | .configure => 1 | .run => 2

def Supervision.code : Supervision → Nat
  | .up => 0 | .quiet => 1 | .lost => 2

def BitRate.code : BitRate → Nat
  | .b19200 => 0 | .b57600 => 1 | .b115200 => 2 | .b230400 => 3

/-- Status codes (Table 11-4). -/
def Status.code : Status → Nat
  | .ok => 0x00 | .clamped => 0x01 | .unknownKind => 0x10 | .badLength => 0x11 | .badField => 0x12
  | .notFound => 0x13 | .wrongState => 0x14 | .inUse => 0x15 | .frozen => 0x16 | .planInvalid => 0x17
  | .stillActive => 0x18 | .storeFailed => 0x19

/-! ### Flags and absent values (R164) -/

/-- A single flag in a byte of its own. -/
def flagByte (b : Bool) : Byte := if b then 1 else 0

/-- A flag byte with the given bits, bit 0 first. -/
def flagBits (bits : List Bool) : Byte := byte (bits.foldr (fun b n => (if b then 1 else 0) + 2 * n) 0)

/-- A one-byte field that may be absent. -/
def byteOr (o : Option Nat) : Byte :=
  match o with
  | some n => byte n
  | none => 0xFF

/-- A two-byte unsigned field that may be absent. -/
def wordOr (o : Option Nat) : List Byte :=
  match o with
  | some n => word n
  | none => [0xFF, 0xFF]

/-- A signed field that may be absent. -/
def signedOr (o : Option Int) : List Byte :=
  match o with
  | some i => signed i
  | none => [0x80, 0x00]

end Sys2Proof.Machine
end

