-- ==== Sys2Proof/Machine/Flags.lean ====
section
/-! DEFINITION. The flags and figures that one block derives for another, each worked out from the records that own
it: zone and member tests (chapter 1), contacts and door values (R53, R68, R69), zone figures (R84, R85), draw (R6, R7)
and duty (R14). -/

namespace Sys2Proof.Machine

/-! ### Doors (R53, R68, R69) -/

/-- The line of a door's open contact (R53). -/
def openLine (d : DoorNo) : LineNo := ⟨2 * d.val, by have := d.isLt; omega⟩

/-- The line of a door's trailer-present contact (R53). -/
def trailerLine (d : DoorNo) : LineNo := ⟨2 * d.val + 1, by have := d.isLt; omega⟩

/-- The door whose contact a line carries (R53). -/
def lineDoor (n : LineNo) : DoorNo := ⟨n.val / 2, by have := n.isLt; omega⟩

/-- A line carries a trailer-present contact. -/
def isTrailerLine (n : LineNo) : Bool := n.val % 2 == 1

/-- A contact of a polarity is asserted at a settled level (R53). -/
def assertedAt (p : Polarity) (high : Bool) : Bool :=
  match p with
  | .high => high
  | .low => !high

/-- The polarity of a door's open contact; HIGH for an undefined door (Table 3-1). -/
def Door.openPolarity (d : Door) : Polarity :=
  match d.defn with
  | some f => f.openPolarity
  | none => .high

/-- The polarity of a door's trailer-present contact; HIGH for an undefined door (Table 3-1). -/
def Door.trailerPolarity (d : Door) : Polarity :=
  match d.defn with
  | some f => f.trailerPolarity
  | none => .high

/-- A door's open contact is asserted. -/
def Doors.openAsserted (ds : Doors) (d : DoorNo) : Bool :=
  assertedAt (ds.doors.get d).openPolarity (ds.lines.get (openLine d)).settled

/-- A door's trailer-present contact is asserted. -/
def Doors.trailerAsserted (ds : Doors) (d : DoorNo) : Bool :=
  assertedAt (ds.doors.get d).trailerPolarity (ds.lines.get (trailerLine d)).settled

/-- A door is a member of a zone. -/
def Door.inZone (d : Door) (z : Zone) : Bool :=
  match d.defn with
  | some f => f.zone == z
  | none => false

/-- A door is enabled. -/
def Door.enabled (d : Door) : Bool :=
  match d.defn with
  | some f => f.enabled
  | none => false

/-- A door stands open without a trailer: OPEN or DWELL. -/
def Door.unsealed (d : Door) : Bool := d.state == .opened || d.state == .dwell

/-- A zone's open-unsealed count (R68). -/
def Doors.openUnsealed (ds : Doors) (z : Zone) : Nat :=
  ds.doors.entries.countP fun d => d.inZone z && d.unsealed

/-- A zone's hold-down flag (R68). -/
def Doors.holdDown (ds : Doors) (z : Zone) : Bool :=
  ds.doors.entries.any fun d => d.inZone z && d.state == .dwell

/-- A door's dock-light state, true for SEALED (R69). -/
def Doors.dockSealed (ds : Doors) (d : DoorNo) : Bool := (ds.doors.get d).state == .sealed

/-- The request of a CURTAIN load (R69); 0 for any other load. -/
def Doors.curtainRequest (ds : Doors) (l : Option LoadDef) : Nat :=
  match l with
  | some f =>
    match f.type, f.door with
    | .curtain, some d => if (ds.doors.get d).unsealed then 1 else 0
    | _, _ => 0
  | none => 0

/-! ### Loads -/

/-- A load is defined and of a type. -/
def Load.isType (l : Load) (t : LoadType) : Bool :=
  match l.defn with
  | some f => f.type == t
  | none => false

/-- A load is a member of a zone. -/
def Load.inZone (l : Load) (z : Zone) : Bool :=
  match l.defn with
  | some f => f.zone == z
  | none => false

/-- A load is bound to a door. -/
def Load.boundTo (l : Load) (d : DoorNo) : Bool :=
  match l.defn with
  | some f => f.door == some d
  | none => false

/-- The maximum level of a load; 0 for an undefined load, which has none. -/
def Load.maxLevel (l : Load) : Nat :=
  match l.defn with
  | some f => f.maxLevel
  | none => 0

/-- The numbers of the loads of a type in a zone, in load order. -/
def loadsOf (loads : Table 64 Load) (t : LoadType) (z : Zone) : List LoadNo :=
  (List.finRange 64).filter fun n => (loads.get n).isType t && (loads.get n).inZone z

/-- The draw of a defined load at a level (R6, R7). -/
def drawAt (f : LoadDef) (level : Nat) : Nat :=
  match f.type with
  | .light => ceilDiv (f.draws.headD 0 * level) 100
  | _ => if level = 0 then 0 else f.draws.getD (level - 1) 0

/-- The draw of a load record at a level; an undefined load draws nothing. -/
def Load.draw (l : Load) (level : Nat) : Nat :=
  match l.defn with
  | some f => drawAt f level
  | none => 0

/-- The duty that belongs to a load's drive level (R14), in percent. -/
def Load.dutyOf (l : Load) : Nat := 100 * l.drive / l.maxLevel

/-! ### Sensors (R84, R85) -/

/-- A sensor is defined, of a kind and in a zone. -/
def Sensor.serves (n : Sensor) (k : SensorKind) (z : Zone) : Bool := n.defn == some ⟨k, z⟩

/-- A sensor is a member of a zone. -/
def Sensor.inZone (n : Sensor) (z : Zone) : Bool :=
  match n.defn with
  | some f => f.zone == z
  | none => false

/-- The value of a sensor in FRESH or QUIET. -/
def Sensor.trusted (n : Sensor) : Option Int :=
  match n.state with
  | .fresh => n.value
  | .quiet => n.value
  | _ => none

/-- The values that a zone's sensors of a kind hold. -/
def Readings.values (r : Readings) (k : SensorKind) (z : Zone) : List Int :=
  (r.sensors.entries.filter (·.serves k z)).filterMap Sensor.trusted

/-- The highest of some values, none when there is none. -/
def highest : List Int → Option Nat
  | [] => none
  | v :: vs => some (vs.foldl max v).toNat

/-- The sensor kind of a gas. -/
def gasKind : Gas → SensorKind
  | .co => .co
  | .no2 => .no2

/-- The zone temperature (R84): the mean rounded toward minus infinity, or unknown. -/
def Readings.temperature (r : Readings) (z : Zone) : Option Int :=
  match r.values .temp z with
  | [] => none
  | v :: vs => some ((v :: vs).sum / (v :: vs).length)

/-- The held value of a gas in a zone (R85). -/
def Readings.held (r : Readings) (z : Zone) (g : Gas) : Option Nat := highest (r.values (gasKind g) z)

/-- The substitute flag of a gas in a zone (R85). -/
def Readings.substitute (r : Readings) (z : Zone) (g : Gas) : Bool :=
  r.sensors.entries.any fun n => n.serves (gasKind g) z && (n.state == .awaiting || n.state == .lost)

/-- A zone monitors a gas (R85). -/
def Readings.monitors (r : Readings) (z : Zone) (g : Gas) : Bool :=
  r.sensors.entries.any (·.serves (gasKind g) z)

/-- The zone lux (R84). -/
def Readings.lux (r : Readings) (z : Zone) : Nat := (highest (r.values .lux z)).getD 0

/-! ### The part as a whole -/

/-- A zone is defined (section 1.1.1). -/
def State.definedZone (s : State) (z : Zone) : Bool := s.zones.get z != .undefined

/-- The defined zones in zone order. -/
def State.definedZones (s : State) : List Zone := (List.finRange 12).filter s.definedZone

/-- The part is in RUN. -/
def State.running (s : State) : Bool := s.part.op == .run

/-- The zone of a request that must exist (R3). -/
def State.zone? (s : State) (k : Nat) : Option Zone :=
  match number? 12 k with
  | some z => if s.definedZone z then some z else none
  | none => none

/-- The READY output (R150). -/
def State.readyOutput (s : State) : Bool := s.part.op != .starting && decide (s.link.buffer.length < 2)

end Sys2Proof.Machine
end

