-- ==== Sys2Proof/Machine/Rotation.lean ====
section
/-! DEFINITION. Rotation tables read by themselves (chapter 2, sections 2.3 to 2.6): the rows that take part, the
cycle length, validation, the cursor's walk and its placement by arithmetic. -/

namespace Sys2Proof.Machine

/-- The rows up to and including the last one that is not EMPTY (R27). -/
def takingPart : List Row → List Row
  | [] => []
  | r :: rs =>
    match takingPart rs with
    | [] => if r = .empty then [] else [r]
    | r' :: rs' => r :: r' :: rs'

/-- The rows of a table that take part in its rotation (R27). -/
def rowsOf (t : Table 24 Row) : List Row := takingPart t.entries

/-- A table whose rows are all EMPTY holds no rotation (R27). -/
def holdsRotation (t : Table 24 Row) : Bool := !(rowsOf t).isEmpty

/-- The SHIFT rows in order, each with its profile, length, crew and the product of the counts of the groups that
enclose it; the second argument holds that product for each open group, innermost first. -/
def weighedShifts : List Row → List Nat → List (Nat × Nat)
  | [], _ => []
  | .empty :: rs, st => weighedShifts rs st
  | .shift _ len _ :: rs, st => (len, st.headD 1) :: weighedShifts rs st
  | .repeatGroup n :: rs, st => weighedShifts rs (st.headD 1 * n :: st)
  | .endGroup :: rs, st => weighedShifts rs st.tail

/-- The cycle length (R27). -/
def cycleLength (t : Table 24 Row) : Nat :=
  ((weighedShifts (rowsOf t) []).map fun p => p.1 * p.2).sum

/-- Reading from a row with a number of groups open, an END is met with no group open, or a group stays open (Table
2-3, UNBALANCED). -/
def unbalanced : List Row → Nat → Bool
  | [], d => d != 0
  | .repeatGroup _ :: rs, d => unbalanced rs (d + 1)
  | .endGroup :: _, 0 => true
  | .endGroup :: rs, d + 1 => unbalanced rs d
  | _ :: rs, d => unbalanced rs d

/-- At some row more than three groups are open at once (Table 2-3, TOO_DEEP). -/
def tooDeep : List Row → Nat → Bool
  | [], _ => false
  | .repeatGroup _ :: rs, d => 3 ≤ d || tooDeep rs (d + 1)
  | .endGroup :: rs, d => tooDeep rs (d - 1)
  | _ :: rs, d => tooDeep rs d

/-- No SHIFT row lies outside every group of count 0 (Table 2-3, NO_SHIFT). -/
def noShift (rows : List Row) : Bool := (weighedShifts rows []).all fun p => p.2 == 0

/-- The detail byte of the first check of Table 2-3 that a table fails, or none for a valid table (R29, Table 11-2). -/
def planDetail (t : Table 24 Row) : Option Nat :=
  if unbalanced (rowsOf t) 0 then some 1
  else if tooDeep (rowsOf t) 0 then some 2
  else if noShift (rowsOf t) then some 3
  else if cycleLength t < 60 then some 4
  else if 40320 < cycleLength t then some 5
  else none

/-- How many rows stand from the row after a REPEAT up to and including the END that closes its group; `d` groups are
open inside it. -/
def groupRows : List Row → Nat → Nat
  | [], _ => 0
  | .repeatGroup _ :: rs, d => groupRows rs (d + 1) + 1
  | .endGroup :: _, 0 => 1
  | .endGroup :: rs, d + 1 => groupRows rs d + 1
  | _ :: rs, d => groupRows rs d + 1

/-- What the walk meets at a place (R34): a SHIFT row, or a place to go on from. -/
inductive Meeting where
  | shift (row length : Nat) (profile : ProfileNo) (crew : Nat)
  | goOn (row : Nat) (stack : List LoopFrame)
deriving DecidableEq, Repr

/-- One row of the walk of R34, from row `i` with a loop stack, innermost frame first. -/
def meet (rows : List Row) (i : Nat) (stack : List LoopFrame) : Meeting :=
  match rows[i]? with
  | none => .goOn 0 []
  | some .empty => .goOn (i + 1) stack
  | some (.shift p len crew) => .shift i len p crew
  | some (.repeatGroup 0) => .goOn (i + 1 + groupRows (rows.drop (i + 1)) 0) stack
  | some (.repeatGroup (n + 1)) => .goOn (i + 1) (⟨i, n + 1⟩ :: stack)
  | some .endGroup =>
    match stack with
    | [] => .goOn (i + 1) []
    | f :: fs => if 2 ≤ f.passes then .goOn (f.row + 1) (⟨f.row, f.passes - 1⟩ :: fs) else .goOn (i + 1) fs

/-- More rows than a walk, or a placement within one cycle, can read in a valid table. A place is a row and, for each of
at most three open groups, the group's row and the passes left in it: four figures of fewer than 2500 values each. Within
one pass of the table no place comes twice, and neither reads more than two passes. -/
def walkFuel : Nat := 2 * 2500 ^ 4

/-- The walk of R34 from row `i`, taking away the length of each SHIFT row it reaches until one is longer than the
minutes `use` still to be used (R37): the row, the minutes left in it, and the loop stack. None when no row is found,
which no valid table brings about. -/
def placeFrom (rows : List Row) : Nat → Nat → List LoopFrame → Nat → Option Cursor
  | 0, _, _, _ => none
  | fuel + 1, i, stack, use =>
    match meet rows i stack with
    | .shift row len _ _ =>
      if use < len then some (.inShift row (len - use) stack) else placeFrom rows fuel (row + 1) stack (use - len)
    | .goOn i' stack' => placeFrom rows fuel i' stack' use

/-- The walk of R34 from row `i`: the cursor at the first SHIFT row reached, with that row's length. -/
def walkFrom (rows : List Row) : Nat → Nat → List LoopFrame → Option Cursor
  | 0, _, _ => none
  | fuel + 1, i, stack =>
    match meet rows i stack with
    | .shift row len _ _ => some (.inShift row len stack)
    | .goOn i' stack' => walkFrom rows fuel i' stack'

/-- The walk from a row of a table with a loop stack (R34). -/
def walk (t : Table 24 Row) (i : Nat) (stack : List LoopFrame) : Option Cursor :=
  if holdsRotation t then walkFrom (rowsOf t) walkFuel i stack else none

/-- The placement of R37, the elapsed minutes reduced modulo the cycle length. -/
def place (t : Table 24 Row) (elapsed : Nat) : Option Cursor :=
  if holdsRotation t then placeFrom (rowsOf t) walkFuel 0 [] (elapsed % cycleLength t) else none

/-- The profile of a row, when it is a SHIFT row. -/
def shiftProfile? (t : Table 24 Row) (row : Nat) : Option ProfileNo :=
  match t.get? row with
  | some (.shift p _ _) => some p
  | _ => none

/-- The crew tag of a row, 0 for one that is no SHIFT row. -/
def crewOf (t : Table 24 Row) (row : Nat) : Nat :=
  match t.get? row with
  | some (.shift _ _ c) => c
  | _ => 0

/-- The position of a cursor: its row and loop stack, or none for WAITING (R33). -/
def Cursor.position : Cursor → Option (Nat × List LoopFrame)
  | .waiting => none
  | .inShift row _ stack => some (row, stack)

end Sys2Proof.Machine
end

