-- ==== Sys2Proof/Machine/Layouts.lean ====
section
/-! DEFINITION. The byte layouts of frames, replies, reports and status records (chapter 11), and the frame check
(R149). -/

namespace Sys2Proof.Machine

/-! ### The frame check (R149) -/

/-- One data bit enters the check register. -/
def crcBit (r : BitVec 16) (b : Bool) : BitVec 16 :=
  if r.msb == b then r <<< 1 else (r <<< 1) ^^^ 0x1021#16

/-- One byte enters the check register, most significant bit first. -/
def crcByte (r : BitVec 16) (x : Byte) : BitVec 16 :=
  [7, 6, 5, 4, 3, 2, 1, 0].foldl (fun r i => crcBit r (x.getLsbD i)) r

/-- The check over some bytes: the register starts at 0xFFFF, with no final inversion. -/
def crc (l : List Byte) : BitVec 16 := l.foldl crcByte 0xFFFF#16

/-- The high and the low byte of a check. -/
def checkBytes (c : BitVec 16) : List Byte := [c.extractLsb' 8 8, c.extractLsb' 0 8]

/-- The bytes a check covers: length, kind and payload. -/
def checkedBytes (kind : Byte) (payload : List Byte) : List Byte := byte payload.length :: kind :: payload

/-- A whole frame (Table 11-1). -/
def frameBytes (kind : Byte) (payload : List Byte) : List Byte :=
  0xA6 :: 0x59 :: checkedBytes kind payload ++ checkBytes (crc (checkedBytes kind payload))

/-! ### Replies (R166) -/

/-- The payload of a reply: status byte, flag byte with the overrun mark, and its own fields. -/
def Reply.payload (r : Reply) : List Byte := byte r.status.code :: flagByte r.overrun :: r.fields

/-! ### Reports and PROBE (R167) -/

/-- The report priorities (Table 9-3). -/
def Body.priority : Body → Nat
  | .ready .. => 3
  | .airTrip .. => 3
  | .airClear .. => 2
  | .frost .. => 2
  | .sensorLost .. => 2
  | .boundary .. => 2
  | .linkBack .. => 2
  | .frostEnd .. => 1
  | .due .. => 1
  | .doorAlert .. => 1
  | .shedBegin .. => 1
  | .shedEnd .. => 1
  | .adopted .. => 1

/-- The report kinds (Table 11-6). -/
def Body.kind : Body → Byte
  | .ready .. => 0xC0
  | .boundary .. => 0xC1
  | .adopted .. => 0xC2
  | .doorAlert .. => 0xC3
  | .due .. => 0xC4
  | .sensorLost .. => 0xC5
  | .airTrip .. => 0xC6
  | .airClear .. => 0xC7
  | .frost .. => 0xC8
  | .frostEnd .. => 0xC9
  | .shedBegin .. => 0xCA
  | .shedEnd .. => 0xCB
  | .linkBack .. => 0xCC

/-- A list of load numbers: a count and its entries (R164). -/
def loadList (l : List LoadNo) : List Byte := byte l.length :: l.map fun n => byte n.val

/-- One zone's entry of a BOUNDARY body (Table 11-10). -/
def boundaryEntry (a : AirFigures) (d : DoorFigures) : List Byte :=
  wordOr a.co ++ [byteOr a.no2, byte a.highest] ++ word ((if a.exceeded then 32768 else 0) + d.opens) ++ word d.entries

/-- The held value of NO2 and of CO in an AIR-TRIP body. -/
def airTripGases (co no2 : GasReport) : List Byte :=
  byte co.index :: wordOr co.held ++ [byte no2.index, byteOr no2.held,
    flagBits [co.monitored, no2.monitored, co.latch, no2.latch, co.substitute, no2.substitute]]

/-- The body of a report after its header (Tables 11-6, 11-10, 11-11). -/
def Body.bytes : Body → List Byte
  | .ready rev valid entered => [rev, flagByte valid, byte entered.code]
  | .boundary h air doors =>
    word h.day ++ word h.minute ++ [byteOr h.row, byte h.profile.val, byte h.crew]
      ++ (List.zipWith boundaryEntry air doors).flatten
  | .adopted a => word a.day ++ word a.minute
  | .doorAlert d z limit entries mode =>
    [byte d.val, byte z.val] ++ word limit ++ [byte entries, byte mode.code]
  | .due n f state count => [byte n.val, byte f.kind.code, byte f.zone.val, byte state.code, byte count]
  | .sensorLost n f left => [byte n.val, byte f.kind.code, byte f.zone.val, byte left.code]
  | .airTrip z raw eff co no2 => [byte z.val, byte raw, byte eff] ++ airTripGases co no2
  | .airClear z stage raw eff => [byte z.val, byte stage, byte raw, byte eff]
  | .frost z t floor stage holdDown count =>
    byte z.val :: signed t ++ [byte floor, byte stage, flagByte holdDown, byte count]
  | .frostEnd z t floor => byte z.val :: signed t ++ [byte floor]
  | .shedBegin budget p c shed => word budget ++ long p ++ long c ++ loadList shed
  | .shedEnd budget c => word budget ++ long c
  | .linkBack left probes => [byte left.code, byte probes]

/-- The payload of a report with its gap mark: header (Table 11-5) and body. -/
def Report.payload (r : Report) (gap : Bool) : List Byte :=
  word r.day ++ long r.second ++ [flagBits [r.unknown, gap]] ++ r.body.bytes

/-- The payload of a PROBE (R167). -/
def Probe.payload (p : Probe) : List Byte :=
  word p.day ++ long p.second ++ [flagBits [p.unknown], byte p.state.code, byte p.queued]

/-- The bytes of a frame being transmitted. -/
def Sent.bytes : Sent → List Byte
  | .reply r => frameBytes r.kind r.payload
  | .probe p => frameBytes 0xBF p.payload
  | .report r gap => frameBytes r.body.kind (r.payload gap)

/-! ### Status records (R168) -/

/-- Whole seconds left, as a two-byte field. -/
def secondsField (t : Timer) : List Byte := word (Timer.seconds t)

/-- The minutes of a span, 0 when it lasts until it is ended. -/
def Span.field : Span → Nat
  | .untilEnded => 0
  | .minutes n => n

/-- The zone status record (R4, Table 11-7). -/
def zoneRecord (s : State) (z : Zone) : List Byte :=
  let a := s.air.zones.get z
  let h := s.heat.zones.get z
  let o := s.calendar.overrides.get z
  [byte z.val, byte (s.zones.get z).code, byte (s.doors.doors.entries.countP (·.inZone z)),
    byte (s.readings.sensors.entries.countP (·.inZone z)), byte (s.loads.entries.countP (·.inZone z)),
    byte (s.calendar.inForce.get z).val, byteOr (o.map fun o => o.profile.val)]
  ++ word ((o.map fun o => o.span.field).getD 0)
  ++ [byte (s.doors.openUnsealed z)]
  ++ signedOr (s.readings.temperature z)
  ++ wordOr (s.readings.held z .co) ++ [byteOr (s.readings.held z .no2)]
  ++ word (s.readings.lux z)
  ++ wordOr a.co.sta ++ wordOr a.co.swa ++ [byteOr a.no2.sta, byteOr a.no2.swa,
    byte a.raw, byte a.effective, byte a.stage, byte ((a.purge.map fun p => p.minutes).getD 0),
    flagBits [s.readings.substitute z .co, s.readings.substitute z .no2, a.co.latch, a.no2.latch, a.hold.isSome,
      a.exceeded, s.doors.holdDown z],
    byte h.stage, flagBits [h.frost, h.preheat, h.cold], byte (s.light.zones.get z).level, byte a.highest]

/-- The load status record (R13, Table 11-8). An undefined load reads 0 but for its number, and zone and binding 0xFF. -/
def loadRecord (s : State) (n : LoadNo) : List Byte :=
  let l := s.loads.get n
  let runtime := [byte l.request, byte l.grant, byte l.drive, byte l.dutyOf] ++ secondsField l.minOff
    ++ [byte l.priority, flagByte (s.budget.shed.contains n),
      byte (if s.budget.queue.contains n then s.budget.queue.idxOf n + 1 else 0)]
  match l.defn with
  | some f =>
    [byte n.val, byte f.type.code, byte f.zone.val, byte f.maxLevel, byte f.draws.length]
      ++ ((f.draws ++ List.replicate 4 0).take 4).flatMap word
      ++ [byteOr (f.door.map fun d => d.val), byte f.base, byte f.cls.code] ++ word f.minOff ++ runtime
  | none => [byte n.val, 0, 0xFF, 0, 0] ++ List.replicate 8 0 ++ [0xFF] ++ List.replicate 13 0

/-- The state byte of a contact (Table 11-9). -/
def contactByte (l : Line) (asserted : Bool) : Byte := flagBits [l.settled, asserted, l.timing.isSome]

/-- The definition of an undefined door as DOOR-STATUS reads it (R71, Table 3-1). -/
def DoorDef.builtIn : DoorDef :=
  { zone := 0, openPolarity := .high, trailerPolarity := .high, limit := 60, mode := .edge, enabled := false }

/-- The door status record (R71, Table 11-9). -/
def doorRecord (s : State) (n : DoorNo) : List Byte :=
  let d := s.doors.doors.get n
  let f := d.defn.getD DoorDef.builtIn
  [byte n.val, flagByte d.defn.isSome, byteOr (d.defn.map fun f => f.zone.val), byte f.openPolarity.code,
    byte f.trailerPolarity.code]
  ++ word f.limit
  ++ [byte f.mode.code, flagByte f.enabled, byte d.state.code, flagByte d.evaluated]
  ++ secondsField d.dwell
  ++ [flagByte d.alert, byte d.opens, byte d.entries,
    contactByte (s.doors.lines.get (openLine n)) (s.doors.openAsserted n),
    contactByte (s.doors.lines.get (trailerLine n)) (s.doors.trailerAsserted n)]

/-- The plan row record (Table 11-9). -/
def rowRecord : Row → List Byte
  | .empty => [0, 0, 0, 0, 0, 0]
  | .shift p len crew => [1, byte p.val] ++ word len ++ [byte crew, 0]
  | .repeatGroup n => [2, 0, 0, 0, 0, byte n]
  | .endGroup => [3, 0, 0, 0, 0, 0]

/-- The loop stack in a calendar record: three slots, outermost frame first (Table 11-12). -/
def stackBytes (stack : List LoopFrame) : List Byte :=
  ((stack.reverse.flatMap fun (f : LoopFrame) => [byte f.row, byte f.passes]) ++ List.replicate 6 0).take 6

/-- The cursor in a calendar record (Table 11-12). -/
def cursorBytes (c : Calendar) : List Byte :=
  match c.cursor with
  | none => [0, 0xFF, 0xFF, 0] ++ word 0 ++ [0] ++ stackBytes []
  | some .waiting => [1, 0xFF, 0xFF, 0] ++ word 0 ++ [0] ++ stackBytes []
  | some (.inShift row left stack) =>
    [2, byte row, byteOr ((shiftProfile? c.active row).map fun p => p.val), byte (crewOf c.active row)] ++ word left
      ++ [byte stack.length] ++ stackBytes stack

/-- The calendar status record (R50, Table 11-12). -/
def calendarRecord (c : Calendar) : List Byte :=
  word c.day ++ long c.second
  ++ [flagBits [c.unknown, c.anchor.isSome, holdsRotation c.active, c.committed]]
  ++ word ((c.anchor.map fun a => a.day).getD 0) ++ word ((c.anchor.map fun a => a.minute).getD 0)
  ++ [byte c.defaultProfile.val]
  ++ word (if holdsRotation c.active then cycleLength c.active else 0)
  ++ [byte c.siteProfile.val] ++ cursorBytes c
  ++ [byteOr (c.lookahead.map fun l => l.profile.val)] ++ word ((c.lookahead.map fun l => l.minutes).getD 0)

/-- The sensor status record (R87, Table 11-13). -/
def sensorRecord (s : State) (n : SensorNo) : List Byte :=
  let r := s.readings.sensors.get n
  [byte n.val, byte ((r.defn.map fun f => f.kind.code).getD 0), byteOr (r.defn.map fun f => f.zone.val),
    byte r.state.code]
  ++ signedOr r.value ++ secondsField r.quiet ++ secondsField r.due ++ [byte r.dueCount]

/-- The profile record (R50, Table 11-14). -/
def profileRecord (n : ProfileNo) (p : Profile) : List Byte :=
  byte n.val :: signed p.dockSetpoint ++ signed p.floorSetpoint ++ [byte p.dockLight, byte p.floorLight, byte p.egress]
  ++ word p.budget ++ [byte p.mode.code, byte p.purge, flagByte p.preheat]

/-- The part status record (R162, Table 11-14). -/
def partRecord (p : Part) : List Byte :=
  [byte p.op.code, Config.revision, byte p.bitRate.code, flagByte p.autorun, flagByte p.imageValid]

/-- How many entries of the restart queue a BUDGET-STATUS reply has room for beside the shed list (R166). -/
def queueRoom (shed : List LoadNo) : Nat := 94 - shed.length

/-- The budget status record (R146, Table 11-15). -/
def budgetRecord (b : Budget) : List Byte :=
  word b.site ++ [byte b.mode.code]
  ++ wordOr (b.cap.map fun c => c.value) ++ word ((b.cap.map fun c => c.span.field).getD 0)
  ++ word b.inForce ++ long b.protectedDraw ++ long b.committedDraw ++ [byte b.tie.val]
  ++ secondsField b.rotation ++ secondsField b.stagger
  ++ loadList b.shed ++ loadList (b.queue.take (queueRoom b.shed))

end Sys2Proof.Machine
end

