-- ==== Sys2Proof/Machine/Ops.lean ====
section
/-! DEFINITION. The operations the blocks share: giving and taking notices, raising reports (R153, R155), the
transmitter's choice (R152), taking a request and forming its reply (R151), and an order for happenings to which the
manual gives none. -/

namespace Sys2Proof.Machine

/-- What a command answers. -/
abbrev Result := Host.Outcome State Fault Refusal

/-! ### Notices -/

/-- The number of the next event that gives notices: above that of every notice still in flight. -/
def State.nextEvent (s : State) : Nat :=
  match s.inFlight.getLast? with
  | some f => f.event + 1
  | none => 0

/-- One event gives its notices: they join the notices in flight, behind those given before. -/
def State.give (cs : List Instr) (s : State) : State :=
  { s with inFlight := s.inFlight ++ cs.map fun c => ⟨s.nextEvent, c⟩ }

/-- A receiver takes a notice: its first copy in flight leaves. -/
def State.takeFlight (c : Instr) (s : State) : State :=
  { s with inFlight := s.inFlight.eraseP fun f => f.notice == c }

/-- The number of the event that gave the first copy in flight of a notice. -/
def State.eventOf (c : Instr) (s : State) : Option Nat := (s.inFlight.find? fun f => f.notice == c).map fun f => f.event

/-- The block that gives a notice and the block that takes it (R20, R40, R43, R48, R49, R70, R86, R103, R122, R129). -/
def route : Instr → Option (Block × Block)
  | .airProfileChangeNotice .. => some (.calendar, .air)
  | .airMinuteExpiryNotice => some (.calendar, .air)
  | .airShiftBoundary => some (.calendar, .air)
  | .heatProfileChangeNotice .. => some (.calendar, .heat)
  | .lookaheadNotice _ => some (.calendar, .heat)
  | .heatShiftBoundary => some (.calendar, .heat)
  | .lightProfileChangeNotice .. => some (.calendar, .light)
  | .siteProfileNotice .. => some (.calendar, .budget)
  | .doorShiftBoundary => some (.calendar, .door)
  | .holdDownFlagNotice .. => some (.door, .heat)
  | .heatOpenUnsealedCountNotice .. => some (.door, .heat)
  | .airOpenUnsealedCountNotice .. => some (.door, .air)
  | .curtainRequestNotice .. => some (.door, .budget)
  | .dockLightNotice .. => some (.door, .light)
  | .zoneTemperatureNotice .. => some (.reading, .heat)
  | .heldValueNotice .. => some (.reading, .air)
  | .airSubstituteFlagNotice .. => some (.reading, .air)
  | .budgetSubstituteFlagNotice .. => some (.reading, .budget)
  | .zoneLuxNotice .. => some (.reading, .light)
  | .exhaustNotice .. => some (.air, .budget)
  | .heatNotice .. => some (.heat, .budget)
  | .lightNotice .. => some (.light, .budget)
  | _ => none

/-- A notice is in turn: before its first copy in flight (before its coming, where none is in flight) stands no notice
from the same block to the same block that an earlier event gave (R70, R86, R103, R112, R122, R129, R136, R160). -/
def State.inTurn (c : Instr) (s : State) : Bool :=
  !(s.inFlight.takeWhile fun f => f.notice != c).any fun f => route f.notice == route c && some f.event != s.eventOf c

/-- A notice out of turn stays in flight; one that was not in flight joins it, behind all others (assumption log,
entry 3). -/
def State.waitTurn (c : Instr) (s : State) : State := if (s.eventOf c).isSome then s else s.give [c]

/-! ### Reports (R153, R155) -/

/-- The lowest priority among some reports. -/
def lowestPriority : List Report → Nat
  | [] => 4
  | r :: rs => min r.body.priority (lowestPriority rs)

/-- Some reports without the oldest of a priority. -/
def dropOldest (p : Nat) (rs : List Report) : List Report := rs.eraseP fun r => r.body.priority == p

/-- A stamped report is offered to the queue (R153); under FLUSH in LOST it is discarded (R155). -/
def Link.offer (r : Report) (l : Link) : Link :=
  if l.supervision = .lost ∧ l.settings.retention = .flush then { l with gap := true }
  else if l.reports.length < 32 then { l with reports := l.reports ++ [r] }
  else if lowestPriority l.reports < r.body.priority then
    { l with reports := dropOldest (lowestPriority l.reports) l.reports ++ [r], gap := true }
  else { l with gap := true }

/-- A report is stamped with the clock (R153). -/
def stamp (c : Calendar) (b : Body) : Report := { day := c.day, second := c.second, unknown := c.unknown, body := b }

/-- A block raises a report: mask, stamp, offer (R153). -/
def State.raise (b : Body) (s : State) : State :=
  if b.priority < s.link.mask then s else { s with link := s.link.offer (stamp s.calendar b) }

/-- A block raises reports, one after the other. -/
def State.raiseAll (bs : List Body) (s : State) : State := bs.foldl (fun s b => s.raise b) s

/-! ### The transmitter (R152) -/

/-- The free transmitter chooses its next frame. It waits for a reply that is formed at once: while a request is
handed to its block and not yet taken it chooses nothing (assumption log, entry 4). -/
def Link.kick (l : Link) : Link :=
  match l.sending with
  | some _ => l
  | none =>
    match l.reply with
    | some r => { l with sending := some (.reply r), reply := none }
    | none =>
      match l.handed with
      | some _ => l
      | none =>
        match l.probe with
        | some p => { l with sending := some (.probe p), probe := none }
        | none =>
          match l.reports with
          | [] => l
          | r :: rs =>
            if l.supervision = .lost then l
            else { l with sending := some (.report r l.gap), reports := rs, gap := false }

/-- The end of every step: outside STARTING the transmitter, where it is free, makes its choice. -/
def State.settle (s : State) : State :=
  if s.part.op = .starting then s else { s with link := s.link.kick }

/-- A command leads to a next state. -/
def finish (s : State) : Result := .next s.settle

/-- A unit takes a notice that is in turn, which leaves the notices in flight; outside RUN no unit acts on one. A
notice out of turn waits. -/
def State.noticed (c : Instr) (act : State → State) (s : State) : State :=
  let s' := s.takeFlight c
  State.settle (if s.inTurn c then (if s'.running then act s' else s') else s.waitTurn c)

/-- A unit takes a notice about a zone; an undefined zone takes no part in control (section 1.1.1). -/
def State.zoneNoticed (c : Instr) (z : Zone) (act : State → State) (s : State) : State :=
  s.noticed c fun s => if s.definedZone z then act s else s

/-- A notice as a command. -/
def notice (c : Instr) (act : State → State) (s : State) : Result := .next (s.noticed c act)

/-- A notice about a zone as a command. -/
def zoneNotice (c : Instr) (z : Zone) (act : State → State) (s : State) : Result := .next (s.zoneNoticed c z act)

/-- An event of a unit that works in RUN alone. -/
def runEvent (act : State → State) (s : State) : Result := finish (if s.running then act s else s)

/-! ### Requests (R151) -/

/-- The status of a reply with the fields that follow it. -/
structure Answer where
  status : Status
  fields : List Byte
deriving DecidableEq, Repr

/-- A reply of a status alone. -/
def Answer.bare (st : Status) : Answer := ⟨st, []⟩

/-- The kinds of the requests (Table 11-3); 0 for a command that is no request. -/
def requestKind : Instr → Byte
  | .partStatus => 0x01
  | .start => 0x02
  | .stop => 0x03
  | .store => 0x04
  | .setAutorun _ => 0x05
  | .mask _ => 0x06
  | .setLink .. => 0x07
  | .defZone .. => 0x10
  | .zoneStatus _ => 0x11
  | .defLoad _ => 0x12
  | .loadStatus _ => 0x13
  | .setTime .. => 0x18
  | .defProfile _ => 0x19
  | .setCalendar _ => 0x1A
  | .planRow .. => 0x1B
  | .planCommit => 0x1C
  | .planWithdraw => 0x1D
  | .planAnchor .. => 0x1E
  | .override .. => 0x1F
  | .overrideEnd _ => 0x20
  | .calendarStatus => 0x21
  | .planRead .. => 0x22
  | .profileRead _ => 0x23
  | .setDoors _ => 0x28
  | .defDoor _ => 0x29
  | .ackDoor _ => 0x2A
  | .doorStatus _ => 0x2B
  | .defSensor .. => 0x30
  | .setSensing .. => 0x31
  | .reading .. => 0x32
  | .sensorStatus _ => 0x33
  | .setAir .. => 0x38
  | .setHeat .. => 0x39
  | .cap .. => 0x3A
  | .capEnd => 0x3B
  | .setBudget _ => 0x3C
  | .budgetStatus => 0x3D
  | _ => 0x00

/-- The kind of the reply to a request (R151). -/
def replyKind (k : Byte) : Byte := k + 0x40

/-- A reply is formed: it carries the overrun mark, which is then cleared (R150, R151). -/
def Link.formReply (kind : Byte) (a : Answer) (answers : Bool) (l : Link) : Link :=
  { l with
    reply := some { kind := replyKind kind, status := a.status, overrun := l.overrun, fields := a.fields,
                    answers := answers }
    overrun := false }

/-- Requests are taken outside STARTING, and not between a STORE and its reply (Table 10-4, R163). -/
def State.takesRequests (s : State) : Bool := s.part.op != .starting && s.store.write.isNone

/-- A request answers the frame in service when it is the request that was handed to its block. -/
def State.inService (c : Instr) (s : State) : Bool := s.link.handed == some c

/-- A block takes a request: it is no longer waiting to be taken. -/
def State.takeHanded (c : Instr) (s : State) : State :=
  if s.inService c then { s with link := { s.link with handed := none } } else s

/-- A block takes a request as one event and forms its reply once its effects are in place (R151). -/
def request (c : Instr) (act : State → State × Answer) (s : State) : Result :=
  if s.takesRequests then
    let r := act (s.takeHanded c)
    finish { r.1 with link := r.1.link.formReply (requestKind c) r.2 (s.inService c) }
  else finish s

/-- A refusal that changes nothing. -/
def refuse (st : Status) (s : State) : State × Answer := (s, Answer.bare st)

/-- A request taken with a reply of a status alone. -/
def accept (s : State) : State × Answer := (s, Answer.bare .ok)

/-- A status read: the reply carries a record, and nothing changes. -/
def report (fields : List Byte) (s : State) : State × Answer := (s, ⟨.ok, fields⟩)

/-! ### Happenings to which the manual gives no order (assumption log, entry 6) -/

/-- The entries of a list at some positions. -/
def atPositions {α : Type} (l : List α) (ks : List Nat) : List α := ks.filterMap fun k => l[k]?

/-- The positions of a list of `n` entries in a given order, completed by those it does not name. -/
def completed (n : Nat) (ks : List Nat) : List Nat :=
  let named := (ks.filter (· < n)).dedup
  named ++ (List.range n).filter fun k => !named.contains k

/-- A list in an order that the manual does not give: the `k`-th free order. A list of at most one entry has only one
order. -/
def arrange {α : Type} (k : Nat) (l : List α) : List α :=
  match l with
  | [] => []
  | [a] => [a]
  | _ => atPositions l (completed l.length (Config.order k))

/-- The reports and the notices that happen in one event. -/
structure Effects where
  reports : List Body
  notices : List Instr
deriving DecidableEq, Repr

/-- The lists of reports that are not empty. -/
def busyReports (es : List Effects) : List (List Body) := (es.map fun e => e.reports).filter fun rs => !rs.isEmpty

/-- A free order is used up when there were several happenings to put in order. -/
def State.countChoice (n : Nat) (s : State) : State := if n ≤ 1 then s else { s with choices := s.choices + 1 }

/-- The effects of several zones or records in one event: their reports come in a free order, record by record, and
their notices in the order of the records. -/
def State.emit (es : List Effects) (s : State) : State :=
  State.give (es.flatMap fun e => e.notices)
    (State.raiseAll (arrange s.choices (busyReports es)).flatten (s.countChoice (busyReports es).length))

/-- The event that gave a notice also gave another, which has not been taken. -/
def State.sameEvent (c other : Instr) (s : State) : Bool :=
  match s.eventOf c with
  | some k => s.inFlight.any fun f => f.notice == other && f.event == k
  | none => false

/-! ### The BOUNDARY report (R41) -/

/-- Figures are entered in the first report being formed that lacks them. -/
def enterFirst (lacks : Draft → Bool) (enter : Draft → Draft) : List Draft → List Draft
  | [] => []
  | d :: ds => if lacks d then enter d :: ds else d :: enterFirst lacks enter ds

/-- The reports that a draft with all its figures gives: BOUNDARY, and ADOPTED directly after it. -/
def Draft.bodies (d : Draft) : Option (List Body) :=
  match d.air, d.doors with
  | some a, some o => some (.boundary d.head a o :: (d.adopted.map Body.adopted).toList)
  | _, _ => none

/-- The first report being formed is raised once both units have entered their figures. -/
def State.raiseBoundary (s : State) : State :=
  match s.drafts with
  | [] => s
  | d :: ds =>
    match d.bodies with
    | some bs => State.raiseAll bs { s with drafts := ds }
    | none => s

/-- The Air Unit enters its figures. -/
def State.enterAir (figures : List AirFigures) (s : State) : State :=
  State.raiseBoundary { s with drafts := enterFirst (·.air.isNone) (fun d => { d with air := some figures }) s.drafts }

/-- The Door Unit enters its figures. -/
def State.enterDoors (figures : List DoorFigures) (s : State) : State :=
  State.raiseBoundary
    { s with drafts := enterFirst (·.doors.isNone) (fun d => { d with doors := some figures }) s.drafts }

end Sys2Proof.Machine
end

