-- ==== Sys2Proof/Machine/Air.lean ====
section
/-! DEFINITION. The Air Unit (chapter 5): sampling and averages, gas and zone indices, exhaust stage, purge, with the
commands that act on them. -/

namespace Sys2Proof.Machine

/-! ### Records by gas -/

/-- The short limit of a gas (Table 5-2). -/
def shortLimit (a : AirSettings) : Gas → Nat
  | .co => a.coShort
  | .no2 => a.no2Short

/-- The shift limit of a gas (Table 5-2). -/
def shiftLimit (a : AirSettings) : Gas → Nat
  | .co => a.coShift
  | .no2 => a.no2Shift

/-- A zone's record of a gas. -/
def AirZone.gas (z : AirZone) : Gas → GasAir
  | .co => z.co
  | .no2 => z.no2

/-- A zone's record of a gas changed. -/
def AirZone.onGas (g : Gas) (f : GasAir → GasAir) (z : AirZone) : AirZone :=
  match g with
  | .co => { z with co := f z.co }
  | .no2 => { z with no2 := f z.no2 }

/-- The record of each gas that the zone monitors changed. -/
def AirZone.onMonitored (monitors : Gas → Bool) (f : Gas → GasAir → GasAir) (z : AirZone) : AirZone :=
  { z with
    co := if monitors .co then f .co z.co else z.co
    no2 := if monitors .no2 then f .no2 z.no2 else z.no2 }

/-! ### Averages, ratios and indices (R92, R93, R96) -/

/-- An average over some samples, none when there are none. -/
def average (sum count : Nat) : Option Nat := if count = 0 then none else some (sum / count)

/-- STA over the buckets of a ring (R92). -/
def shortAverage (ring : List Bucket) : Option Nat :=
  average (ring.map fun b => b.sum).sum (ring.map fun b => b.count).sum

/-- The ratio of an average to a limit (R93). -/
def ratio (avg : Option Nat) (limit : Nat) : Nat :=
  match avg with
  | none => 0
  | some v => min 255 (100 * v / limit)

/-- Both ratios of a gas worked out from the averages held (R93). -/
def GasAir.withRatios (a : AirSettings) (g : Gas) (r : GasAir) : GasAir :=
  { r with shortRatio := ratio r.sta (shortLimit a g), shiftRatio := ratio r.swa (shiftLimit a g) }

/-- The gas index (R93). -/
def gasIndex (r : GasAir) : Nat :=
  max (max r.shortRatio r.shiftRatio) (max (if r.latch then 100 else 0) (if r.substitute then 90 else 0))

/-- The stage of an effective index (Table 5-3). -/
def stageOf (e : Nat) : Nat :=
  if e < 40 then 0 else if e < 60 then 1 else if e < 80 then 2 else if e < 100 then 3 else 4

/-- The effective index of a raw index and an open-unsealed count (R96). -/
def effectiveIndex (raw openCount : Nat) : Nat :=
  if raw < 100 then raw - min (5 * openCount) 20 else raw

/-! ### Recomputation (R97 to R99) -/

/-- Step 4 of a recomputation: the exhaust stage and its hold timer, before the purge floor (R98, R99). -/
def decideStage (holdTime raw eff stage : Nat) (hold : Timer) : Nat × Timer :=
  if 100 ≤ raw then (4, Timer.start holdTime)
  else if stage < stageOf eff then (stageOf eff, Timer.start holdTime)
  else if stageOf eff < stage ∧ hold.isNone then (stageOf (eff + 10), hold)
  else (stage, hold)

/-- The purge floor (R98). -/
def purgeFloor (purge : Option Purge) (stage : Nat) : Nat := if purge.isSome then max 2 stage else stage

/-- The raw index of a zone from the gas indices (R96). -/
def AirZone.rawIndex (monitors : Gas → Bool) (z : AirZone) : Nat :=
  max (if monitors .co then z.co.index else 0) (if monitors .no2 then z.no2.index else 0)

/-- The highest short ratio of the gases that a zone monitors. -/
def AirZone.shortRatios (monitors : Gas → Bool) (z : AirZone) : Nat :=
  max (if monitors .co then z.co.shortRatio else 0) (if monitors .no2 then z.no2.shortRatio else 0)

/-- Steps 1 to 4 of a recomputation (R97). -/
def AirZone.recompute (a : AirSettings) (monitors : Gas → Bool) (z : AirZone) : AirZone :=
  let z := z.onMonitored monitors fun _ r => { r with index := gasIndex r }
  let raw := z.rawIndex monitors
  let eff := effectiveIndex raw z.openCount
  let d := decideStage a.hold raw eff z.stage z.hold
  { z with
    raw := raw
    effective := eff
    highest := max z.highest (z.shortRatios monitors)
    exceeded := z.exceeded || decide (100 ≤ raw)
    stage := purgeFloor z.purge d.1
    hold := d.2 }

/-! ### Reports and exhaust notices (R103, R104) -/

/-- What an AIR-TRIP report carries of a gas; of one that the zone does not monitor, index 0 and no held value (R167). -/
def gasReport (monitored : Bool) (r : GasAir) : GasReport :=
  if monitored then
    { monitored := true, index := r.index, held := r.held, latch := r.latch, substitute := r.substitute }
  else { monitored := false, index := 0, held := none, latch := false, substitute := false }

/-- The reports of a recomputation (R104). -/
def airReports (z : Zone) (monitors : Gas → Bool) (old new : AirZone) : List Body :=
  if old.stage < 4 ∧ new.stage = 4 then
    [.airTrip z new.raw new.effective (gasReport (monitors .co) new.co) (gasReport (monitors .no2) new.no2)]
  else if old.stage = 4 ∧ new.stage < 4 then [.airClear z new.stage new.raw new.effective]
  else []

/-- The requests of a zone's EXHAUST loads at a stage (R103). -/
def exhaustRequests (loads : Table 64 Load) (z : Zone) (stage : Nat) : List (LoadNo × Nat) :=
  (loadsOf loads .exhaust z).map fun n => (n, min stage (loads.get n).maxLevel)

/-- The exhaust notice of a zone with a record: its stage and the requests of its EXHAUST loads (R103). -/
def State.exhaustNoticeOf (s : State) (z : Zone) (a : AirZone) : Instr :=
  .exhaustNotice z a.stage (exhaustRequests s.loads z a.stage)

/-- What a recomputation gives: the reports of a change into or out of stage 4, and an exhaust notice when the stage,
and with it perhaps a request, has changed. -/
def airEffects (s : State) (z : Zone) (old new : AirZone) : Effects :=
  { reports := airReports z (s.readings.monitors z) old new
    notices := if old.stage = new.stage then [] else [s.exhaustNoticeOf z new] }

/-- The Air Unit's zone records changed. -/
def State.withAirZones (zones : Table 12 AirZone) (s : State) : State := { s with air := { s.air with zones := zones } }

/-- The Air Unit's zone records with some defined zones changed and then recomputed. -/
def State.airZonesAfter (which : Zone → Bool) (change : Zone → AirZone → AirZone) (s : State) : Table 12 AirZone :=
  s.air.zones.mapIdx fun z a =>
    if which z && s.definedZone z then (change z a).recompute s.air.settings (s.readings.monitors z) else a

/-- Some defined zones are changed and recomputed in one event (R97). -/
def State.recomputeAir (which : Zone → Bool) (change : Zone → AirZone → AirZone) (s : State) : State :=
  let zones := s.airZonesAfter which change
  (s.withAirZones zones).emit
    ((s.definedZones.filter which).map fun z => airEffects s z (s.air.zones.get z) (zones.get z))

/-- One zone is changed and recomputed in one event. -/
def State.recomputeAirZone (z : Zone) (change : AirZone → AirZone) (s : State) : State :=
  s.recomputeAir (· == z) fun _ a => change a

/-- One zone is changed without a recomputation. -/
def State.onAirZone (z : Zone) (f : AirZone → AirZone) (s : State) : State :=
  s.withAirZones (s.air.zones.modify z f)

/-! ### What the Reading Unit gives (R86, R94, R106) -/

/-- The peak latch after a new held value (R94). -/
def latchAfter (limit : Nat) (v : Option Nat) (latch : Bool) : Bool :=
  match v with
  | none => latch
  | some h => if 2 * limit ≤ h then true else if h < limit then false else latch

/-- A held value taken, with the peak latch tested (R94). -/
def GasAir.takeHeld (limit : Nat) (v : Option Nat) (r : GasAir) : GasAir :=
  { r with held := v, latch := latchAfter limit v r.latch }

/-- A held value of a gas is taken, and the zone recomputed where its peak latch changes (R94). Of a gas that the zone
does not monitor the unit keeps nothing (Table 5-1). -/
def State.takeHeldValue (z : Zone) (g : Gas) (v : Option Nat) (s : State) : State :=
  let take := AirZone.onGas g (GasAir.takeHeld (shortLimit s.air.settings g) v)
  let old := ((s.air.zones.get z).gas g).latch
  if !s.readings.monitors z g then s
  else if latchAfter (shortLimit s.air.settings g) v old = old then s.onAirZone z take
  else s.recomputeAirZone z take

/-- A substitute flag of a gas is taken, and the zone recomputed (R106). -/
def State.takeSubstitute (z : Zone) (g : Gas) (flag : Bool) (s : State) : State :=
  if s.readings.monitors z g then s.recomputeAirZone z (AirZone.onGas g fun r => { r with substitute := flag }) else s

/-- The Air Unit takes a notice, where it is one of the Reading Unit. -/
def State.takeReadingNotice (s : State) (c : Instr) : State :=
  match c with
  | .heldValueNotice z g v => s.zoneNoticed c z (State.takeHeldValue z g v)
  | .airSubstituteFlagNotice z g flag => s.zoneNoticed c z (State.takeSubstitute z g flag)
  | _ => s

/-- The Air Unit takes the notices of the Reading Unit that are in flight, each as an event of its own, in their order. -/
def State.takeReadingNotices (s : State) : State := (s.inFlight.map fun f => f.notice).foldl State.takeReadingNotice s

/-! ### The sample clock (R90 to R92) -/

/-- A sample of a held value (R91): the unit's copy, as of the last notice taken. -/
def GasAir.sample (r : GasAir) : GasAir :=
  match r.held with
  | none => r
  | some h =>
    { r with acc := ⟨r.acc.sum + h, r.acc.count + 1⟩, dose := r.dose + h, count := r.count + 1 }

/-- A bucket joins the ring, which holds at most 15 (R92). -/
def joinRing (ring : List Bucket) (b : Bucket) : List Bucket := (ring ++ [b]).drop (ring.length + 1 - 15)

/-- The minute of a gas is closed (R92). -/
def GasAir.close (a : AirSettings) (g : Gas) (r : GasAir) : GasAir :=
  GasAir.withRatios a g
    { r with
      ring := joinRing r.ring r.acc
      acc := ⟨0, 0⟩
      sta := shortAverage (joinRing r.ring r.acc)
      swa := average r.dose r.count }

/-- The samples of a sample expiry in every defined zone (R91). -/
def State.takeSamples (s : State) : State :=
  s.withAirZones (s.air.zones.mapIdx fun z a =>
    if s.definedZone z then a.onMonitored (s.readings.monitors z) fun _ => GasAir.sample else a)

/-- A minute close (R92). -/
def State.closeMinute (s : State) : State :=
  s.recomputeAir (fun _ => true) fun z a => a.onMonitored (s.readings.monitors z) (GasAir.close s.air.settings)

/-- A sample expiry with its number counted (R90). -/
def SampleClock.tick (c : SampleClock) : SampleClock := { left := Timer.start 10, expiries := c.expiries + 1 }

/-- SAMPLE_EXPIRY (R90, R91, R92). A sample after a READING uses the value of that READING (R86), and a sample uses the
unit's copy, as of the last notice taken (R91): the unit takes the notices of the Reading Unit that are in flight before
it samples (assumption log, entry 29). -/
def execSampleExpiry (s : State) : Result :=
  runEvent (fun s =>
    match s.air.clock with
    | none => s
    | some c =>
      let t := s.takeReadingNotices
      let t := State.takeSamples { t with air := { t.air with clock := some c.tick } }
      if c.tick.expiries % 6 = 0 then t.closeMinute else t) s

/-- EXHAUST_STAGE_HOLD_EXPIRY (R100). -/
def execExhaustStageHoldExpiry (z : Zone) (s : State) : Result :=
  runEvent (State.onAirZone z fun a => { a with hold := none }) s

/-! ### Notices (R101, R102, R106) -/

/-- HELD_VALUE_NOTICE (R94). -/
def execHeldValueNotice (z : Zone) (g : Gas) (v : Option Nat) (s : State) : Result :=
  zoneNotice (.heldValueNotice z g v) z (State.takeHeldValue z g v) s

/-- AIR_SUBSTITUTE_FLAG_NOTICE (R106). -/
def execAirSubstituteFlagNotice (z : Zone) (g : Gas) (flag : Bool) (s : State) : Result :=
  zoneNotice (.airSubstituteFlagNotice z g flag) z (State.takeSubstitute z g flag) s

/-- AIR_OPEN_UNSEALED_COUNT_NOTICE (R106). -/
def execAirOpenUnsealedCountNotice (z : Zone) (count : Nat) (s : State) : Result :=
  zoneNotice (.airOpenUnsealedCountNotice z count) z
    (State.recomputeAirZone z fun a => { a with openCount := count }) s

/-- AIR_PROFILE_CHANGE_NOTICE (R101). A purge whose change arose on a minute expiry that the unit has yet to take is
not counted down by it (R102). -/
def execAirProfileChangeNotice (z : Zone) (p : ProfileNo) (s : State) : Result :=
  let c := Instr.airProfileChangeNotice z p
  let fresh := s.sameEvent c .airMinuteExpiryNotice
  zoneNotice c z (fun s =>
    let minutes := (s.calendar.profiles.get p).purge
    if minutes = 0 then s else s.recomputeAirZone z fun a => { a with purge := some ⟨minutes, fresh⟩ }) s

/-- A purge timer at a minute expiry (R102). -/
def Purge.count (p : Purge) : Option Purge :=
  if p.fresh then some { p with fresh := false } else if p.minutes ≤ 1 then none else some { p with minutes := p.minutes - 1 }

/-- A zone's purge timer at a minute expiry. -/
def AirZone.countPurge (a : AirZone) : AirZone := { a with purge := a.purge.bind Purge.count }

/-- AIR_MINUTE_EXPIRY_NOTICE (R102). -/
def execAirMinuteExpiryNotice (s : State) : Result :=
  notice .airMinuteExpiryNotice (fun s => s.withAirZones (s.air.zones.map AirZone.countPurge)) s

/-- PURGE_EXPIRY (R102). -/
def execPurgeExpiry (z : Zone) (s : State) : Result :=
  runEvent (State.onAirZone z fun a => { a with purge := none }) s

/-! ### The shift boundary (R107) -/

/-- The figures of a zone for the shift that ends; an undefined zone, or a gas not monitored, has none. -/
def AirZone.figures (monitors : Gas → Bool) (a : AirZone) : AirFigures :=
  { co := if monitors .co then average a.co.dose a.co.count else none
    no2 := if monitors .no2 then average a.no2.dose a.no2.count else none
    highest := a.highest
    exceeded := a.exceeded }

/-- The figures of an undefined zone (R41). -/
def AirFigures.blank : AirFigures := { co := none, no2 := none, highest := 0, exceeded := false }

/-- The figures that the Air Unit enters for Z0 to Z11. -/
def State.airFigures (s : State) : List AirFigures :=
  (s.air.zones.mapIdx fun z a => if s.definedZone z then a.figures (s.readings.monitors z) else AirFigures.blank).entries

/-- The shift figures of a gas cleared (R107). -/
def GasAir.newShift (r : GasAir) : GasAir := { r with dose := 0, count := 0, swa := none, shiftRatio := 0 }

/-- A zone's shift figures cleared (R107, steps 2 and 3). -/
def AirZone.newShift (monitors : Gas → Bool) (a : AirZone) : AirZone :=
  { a.onMonitored monitors fun _ => GasAir.newShift with highest := 0, exceeded := false }

/-- AIR_SHIFT_BOUNDARY (R107). -/
def execAirShiftBoundary (s : State) : Result :=
  notice .airShiftBoundary (fun s =>
    State.recomputeAir (fun _ => true) (fun z => AirZone.newShift (s.readings.monitors z)) (s.enterAir s.airFigures)) s

/-! ### SET-AIR, START and STOP (R95, R110) -/

/-- The settings lie in the ranges of Table 5-2. -/
def AirSettings.inRange (a : AirSettings) : Bool :=
  1 ≤ a.coShort && a.coShort ≤ 500 && 1 ≤ a.coShift && a.coShift ≤ 500 && 1 ≤ a.no2Short && a.no2Short ≤ 200
    && 1 ≤ a.no2Shift && a.no2Shift ≤ 200 && 60 ≤ a.hold && a.hold ≤ 1800

/-- SET_AIR (R95). -/
def execSetAir (coShort coShift no2Short no2Shift hold : Nat) (s : State) : Result :=
  request (.setAir coShort coShift no2Short no2Shift hold) (fun s =>
    let a : AirSettings := ⟨coShort, coShift, no2Short, no2Shift, hold⟩
    let s' := { s with air := { s.air with settings := a } }
    if !AirSettings.inRange a then refuse .badField s
    else if s.running then
      accept (s'.recomputeAir (fun _ => true) fun z z' => z'.onMonitored (s.readings.monitors z) (GasAir.withRatios a))
    else accept s') s

/-- The Air Unit at START: reset values, the sample clock started, and every defined zone recomputed once (R90, R110).
Each gives its exhaust notice (R148), although its stage is still 0 (assumption log, entry 17). -/
def State.startAir (s : State) : State :=
  let rest : State := { s with air := { Air.atRest s.air.settings with clock := some ⟨Timer.start 10, 0⟩ } }
  let zones := rest.airZonesAfter (fun _ => true) fun _ a => a
  State.give (s.definedZones.map fun z => s.exhaustNoticeOf z (zones.get z)) (rest.withAirZones zones)

/-- The Air Unit at STOP (R110). -/
def Air.stop (a : Air) : Air := Air.atRest a.settings

end Sys2Proof.Machine
end

