-- ==== Sys2Proof/Machine/Budget.lean ====
section
/-! DEFINITION. The Budget Unit (chapter 8) and the minimum off time (section 1.5): protection, priority, the
arbitration pass, the shed list, drive levels, the restart queue and releases, with the commands that act on them. -/

namespace Sys2Proof.Machine

/-! ### The budget in force (R133) -/

/-- The budget in force that the site budget copy and the demand cap give. -/
def Budget.force (b : Budget) : Nat :=
  match b.cap with
  | none => b.site
  | some c => min b.site c.value

/-- The budget in force worked out afresh. -/
def Budget.withForce (b : Budget) : Budget := { b with inForce := b.force }

/-! ### Protection and priority (R137, R138) -/

/-- The protected portion of a load (R137). -/
def protectedLevel (b : Budget) (l : Load) : Nat :=
  match l.defn with
  | none => 0
  | some f =>
    match f.type with
    | .exhaust => if (b.zones.get f.zone).stage = 4 then l.request else 0
    | .light => min l.request (b.zones.get f.zone).floor
    | .heater => 0
    | .curtain => 0

/-- The effective priority of a load (R138). -/
def effectivePriority (b : Budget) (l : Load) : Nat :=
  match l.defn with
  | none => 0
  | some f =>
    let z := b.zones.get f.zone
    let gain := b.mode = .dynamic ∧ ((f.type = .heater ∧ z.cold) ∨ (f.type = .exhaust ∧ z.stage = 3))
    let forced := (f.type = .heater ∧ z.frost) ∨ (f.type = .exhaust ∧ (z.subCo ∨ z.subNo2))
    if forced then 3 else if gain then min 3 (f.base + 1) else min 3 f.base

/-! ### The arbitration pass (R139, R140) -/

/-- The sum of the draws of the protected portions (R139). -/
def protectedSum (b : Budget) (loads : Table 64 Load) : Nat :=
  (loads.entries.map fun l => l.draw (protectedLevel b l)).sum

/-- The sum of the draws at the granted levels (section 8.1). -/
def committedSum (loads : Table 64 Load) : Nat := (loads.entries.map fun l => l.draw l.grant).sum

/-- The load numbers from the tie pointer up through 63, then from 0 to below it (R140). -/
def tieOrder (tie : LoadNo) : List LoadNo :=
  ((List.finRange 64).filter fun n => tie ≤ n) ++ (List.finRange 64).filter fun n => n < tie

/-- The loads by effective priority, highest first, and within one by the tie order (R140). -/
def serveOrder (loads : Table 64 Load) (tie : LoadNo) : List LoadNo :=
  [3, 2, 1, 0].flatMap fun p => (tieOrder tie).filter fun n => (loads.get n).priority == p

/-- The highest level not above the one given and not below the portion whose extra draw fits the room left (R140). -/
def highestFit (f : LoadDef) (portion room : Nat) : Nat → Nat
  | 0 => portion
  | n + 1 =>
    if n + 1 ≤ portion then portion
    else if drawAt f (n + 1) - drawAt f portion ≤ room then n + 1
    else highestFit f portion room n

/-- One load's unprotected remainder is served from the room left (R140). -/
def serveOne (b : Budget) (loads : Table 64 Load) (acc : Nat × Table 64 Nat) (n : LoadNo) : Nat × Table 64 Nat :=
  let l := loads.get n
  let p := protectedLevel b l
  match l.defn with
  | none => acc
  | some f =>
    if p < l.request then
      let g := highestFit f p acc.1 l.request
      (acc.1 - (drawAt f g - drawAt f p), acc.2.set n g)
    else acc

/-- The grants of a pass (R139, R140). -/
def grantsOf (b : Budget) (loads : Table 64 Load) : Table 64 Nat :=
  let portions := loads.map (protectedLevel b)
  if b.inForce < protectedSum b loads then portions
  else ((serveOrder loads b.tie).foldl (serveOne b loads) (b.inForce - protectedSum b loads, portions)).2

/-- A load's min-off timer at the fall of its drive level to 0 (R16). -/
def minOffStart (l : Load) : Timer :=
  match l.defn with
  | none => l.minOff
  | some f => if f.minOff = 0 then l.minOff else Timer.start f.minOff

/-- A load takes its grant, and its drive level comes into line with it (R143, R16). -/
def Load.regrant (g : Nat) (l : Load) : Load :=
  { l with
    grant := g
    drive := if 0 < l.drive then g else 0
    minOff := if 0 < l.drive ∧ g = 0 then minOffStart l else l.minOff }

/-- A load is cut short: its grant is below its request (R141). -/
def Load.short (l : Load) : Bool := decide (l.grant < l.request)

/-- A load waits to start: granted a level with its drive level at 0 (R144). -/
def Load.waits (l : Load) : Bool := decide (0 < l.grant) && l.drive == 0

/-- The loads after a pass's grants: effective priorities, grants and drive levels. -/
def passLoads (b : Budget) (loads : Table 64 Load) : Table 64 Load :=
  let ranked := loads.map fun l => { l with priority := effectivePriority b l }
  Table.zipWith Load.regrant (grantsOf b ranked) ranked

/-- The shed list after a pass (R141). -/
def passShed (b : Budget) (loads : Table 64 Load) : List LoadNo :=
  (b.shed.filter fun n => (loads.get n).short)
    ++ (serveOrder loads b.tie).filter fun n => (loads.get n).short && !b.shed.contains n

/-- The loads that join the restart queue at a pass, in load order (R143). -/
def queueJoins (b : Budget) (loads : Table 64 Load) : List LoadNo :=
  (List.finRange 64).filter fun n => (loads.get n).waits && !b.queue.contains n

/-- The restart queue after a pass (R143, R144): those that wait keep their places, and those that join take the tail
in the `k`-th free order. -/
def passQueue (k : Nat) (b : Budget) (loads : Table 64 Load) : List LoadNo :=
  (b.queue.filter fun n => (loads.get n).waits) ++ arrange k (queueJoins b loads)

/-- SHED-BEGIN or SHED-END, where a pass takes the shed list from empty or to empty (R141). -/
def shedReports (old new : Budget) : List Body :=
  match old.shed, new.shed with
  | [], [] => []
  | [], _ => [.shedBegin new.inForce new.protectedDraw new.committedDraw new.shed]
  | _, [] => [.shedEnd new.inForce new.committedDraw]
  | _, _ => []

/-- The seconds that the stagger timer runs for a restart class (R144). -/
def RestartClass.stagger : RestartClass → Nat
  | .short => 2
  | .long => 20

/-- A load starts at its granted level. -/
def Load.start (l : Load) : Load := { l with drive := l.grant }

/-- The stagger timer after the release of a load (R144). -/
def staggerFor (l : Load) : Timer :=
  match l.defn with
  | some f => Timer.start (RestartClass.stagger f.cls)
  | none => none

/-- The first load of the queue whose min-off timer is not running (R144). -/
def firstEligible (loads : Table 64 Load) (queue : List LoadNo) : Option LoadNo :=
  queue.find? fun n => (loads.get n).minOff.isNone

/-- A release attempt (R144): with the stagger timer idle the first eligible load is released. -/
def State.attempt (s : State) : State :=
  match s.budget.stagger with
  | some _ => s
  | none =>
    match firstEligible s.loads s.budget.queue with
    | none => s
    | some n =>
      { s with
        loads := s.loads.modify n Load.start
        budget := { s.budget with queue := s.budget.queue.erase n, stagger := staggerFor (s.loads.get n) } }

/-- The grants, lists and sums of a pass, before its reports and its release attempt (R139 to R143). -/
def State.regrant (s : State) : State :=
  let loads := passLoads s.budget s.loads
  State.countChoice (queueJoins s.budget loads).length
    { s with
      loads := loads
      budget :=
        { s.budget with
          shed := passShed s.budget loads
          queue := passQueue s.choices s.budget loads
          protectedDraw := protectedSum s.budget s.loads
          committedDraw := committedSum loads } }

/-- An arbitration pass, whole (R136, R139 to R144). -/
def State.pass (s : State) : State :=
  let s' := s.regrant
  (s'.raiseAll (shedReports s.budget s'.budget)).attempt

/-! ### Changes made before a pass (Table 8-2) -/

/-- The Budget Unit's copies for a zone changed. -/
def Budget.atZone (z : Zone) (f : BudgetZone → BudgetZone) (b : Budget) : Budget :=
  { b with zones := b.zones.modify z f }

/-- The requests of a notice are set in the loads of its type and zone; none is above the load's maximum level (R5). -/
def setRequests (t : LoadType) (z : Zone) (rs : List (LoadNo × Nat)) (loads : Table 64 Load) : Table 64 Load :=
  loads.mapIdx fun n l =>
    if l.isType t && l.inZone z then
      match rs.lookup n with
      | some r => { l with request := min r l.maxLevel }
      | none => l
    else l

/-- A gas's substitute flag copy changed. -/
def BudgetZone.withFlag (g : Gas) (b : Bool) (z : BudgetZone) : BudgetZone :=
  match g with
  | .co => { z with subCo := b }
  | .no2 => { z with subNo2 := b }

/-- The demand cap set, replaced or removed, with the budget in force (R133, R134, R135). -/
def State.withCap (c : Option Cap) (s : State) : State :=
  { s with budget := Budget.withForce { s.budget with cap := c } }

/-! ### Commands -/

/-- EXHAUST_NOTICE (R103, R136). -/
def execExhaustNotice (z : Zone) (stage : Nat) (rs : List (LoadNo × Nat)) (s : State) : Result :=
  zoneNotice (.exhaustNotice z stage rs) z (fun s => State.pass
    { s with
      loads := setRequests .exhaust z rs s.loads
      budget := s.budget.atZone z fun b => { b with stage := stage } }) s

/-- HEAT_NOTICE (R122, R136). -/
def execHeatNotice (z : Zone) (cold frost : Bool) (rs : List (LoadNo × Nat)) (s : State) : Result :=
  zoneNotice (.heatNotice z cold frost rs) z (fun s => State.pass
    { s with
      loads := setRequests .heater z rs s.loads
      budget := s.budget.atZone z fun b => { b with cold := cold, frost := frost } }) s

/-- LIGHT_NOTICE (R129, R136). -/
def execLightNotice (z : Zone) (floor : Nat) (rs : List (LoadNo × Nat)) (s : State) : Result :=
  zoneNotice (.lightNotice z floor rs) z (fun s => State.pass
    { s with
      loads := setRequests .light z rs s.loads
      budget := s.budget.atZone z fun b => { b with floor := floor } }) s

/-- CURTAIN_REQUEST_NOTICE (R70, R136). -/
def execCurtainRequestNotice (n : LoadNo) (r : Nat) (s : State) : Result :=
  notice (.curtainRequestNotice n r) (fun s =>
    if (s.loads.get n).isType .curtain then
      State.pass { s with loads := s.loads.modify n fun l => { l with request := min r l.maxLevel } }
    else s) s

/-- BUDGET_SUBSTITUTE_FLAG_NOTICE (R86, R136). -/
def execBudgetSubstituteFlagNotice (z : Zone) (g : Gas) (b : Bool) (s : State) : Result :=
  zoneNotice (.budgetSubstituteFlagNotice z g b) z (fun s => State.pass
    { s with budget := s.budget.atZone z (BudgetZone.withFlag g b) }) s

/-- SITE_PROFILE_NOTICE (R49, R133, R136). -/
def execSiteProfileNotice (budget : Nat) (mode : ArbMode) (s : State) : Result :=
  notice (.siteProfileNotice budget mode) (fun s => State.pass
    { s with budget := Budget.withForce { s.budget with site := budget, mode := mode } }) s

/-- The span that a duration in a request gives: 0 means until it is ended (R44, R134). -/
def spanOf (duration : Nat) : Span := if duration = 0 then .untilEnded else .minutes duration

/-- CAP (R134). -/
def execCap (value : Int) (duration : Nat) (s : State) : Result :=
  request (.cap value duration) (fun s =>
    if 1440 < duration then refuse .badField s
    else if !s.running then refuse .wrongState s
    else
      let v := clampTo 0 20000 value
      ((s.withCap (some ⟨v.toNat, spanOf duration⟩)).pass, Answer.bare (if v = value then .ok else .clamped))) s

/-- CAP_END (R135). -/
def execCapEnd (s : State) : Result :=
  request .capEnd (fun s =>
    if !s.running then refuse .wrongState s
    else if s.budget.cap.isNone then refuse .notFound s
    else accept (s.withCap none).pass) s

/-- A demand cap that counts minutes. -/
def Cap.timed (c : Cap) : Bool :=
  match c.span with
  | .minutes _ => true
  | .untilEnded => false

/-- CAP_EXPIRY (R135). -/
def execCapExpiry (s : State) : Result :=
  runEvent (fun s =>
    match s.budget.cap with
    | none => s
    | some c => if c.timed then (s.withCap none).pass else s) s

/-- SET_BUDGET (R142). -/
def execSetBudget (period : Nat) (s : State) : Result :=
  request (.setBudget period) (fun s =>
    if period < 60 ∨ 3600 < period then refuse .badField s
    else accept { s with budget := { s.budget with period := period } }) s

/-- BUDGET_STATUS (R146). -/
def execBudgetStatus (s : State) : Result :=
  request .budgetStatus (fun s => report (budgetRecord s.budget) s) s

/-- SHED_ROTATION_EXPIRY (R142). -/
def execShedRotationExpiry (s : State) : Result :=
  runEvent (fun s =>
    let s' := { s with budget := { s.budget with rotation := Timer.start s.budget.period } }
    if s.budget.shed.isEmpty then s' else State.pass { s' with budget := { s'.budget with tie := s'.budget.tie + 1 } }) s

/-- STAGGER_EXPIRY (R145). -/
def execStaggerExpiry (s : State) : Result :=
  runEvent (fun s =>
    if s.budget.stagger.isSome then State.attempt { s with budget := { s.budget with stagger := none } } else s) s

/-- MIN_OFF_EXPIRY (R17). -/
def execMinOffExpiry (n : LoadNo) (s : State) : Result :=
  runEvent (fun s =>
    if (s.loads.get n).minOff.isSome then
      State.attempt { s with loads := s.loads.modify n fun l => { l with minOff := none } }
    else s) s

/-- A minute expiry at the demand cap (R134): a timed cap's minutes decrease by 1. -/
def Budget.countCap (b : Budget) : Budget :=
  match b.cap with
  | some ⟨v, .minutes n⟩ => { b with cap := some ⟨v, .minutes (n - 1)⟩ }
  | _ => b

end Sys2Proof.Machine
end

