-- ==== Sys2Proof/Machine/Calendar.lean ====
section
/-! DEFINITION. The Calendar Unit (chapter 2): clock, rotation, shift boundary, lookahead, overrides and profile in
force, with the commands that act on them. -/

namespace Sys2Proof.Machine

/-! ### Reading the calendar (R33, R47, R49) -/

/-- A rotation is running, waiting for its anchor or in a shift. -/
def Calendar.rotating (c : Calendar) : Bool := c.cursor.isSome

/-- The clock counted in seconds (R23, R37). -/
def Calendar.seconds (c : Calendar) : Nat := c.day * 86400 + c.second

/-- The anchor counted in seconds (R37). -/
def anchorSeconds (a : Anchor) : Nat := a.day * 86400 + a.minute * 60

/-- The profile of the current SHIFT row, while the cursor is in a shift. -/
def Calendar.shiftProfile? (c : Calendar) : Option ProfileNo :=
  match c.cursor with
  | some (.inShift row _ _) => Machine.shiftProfile? c.active row
  | _ => none

/-- The site profile (R49). -/
def Calendar.site (c : Calendar) : ProfileNo := c.shiftProfile?.getD c.defaultProfile

/-- The profile that is chosen for a zone (R47). -/
def Calendar.chosen (c : Calendar) (z : Zone) : ProfileNo :=
  match c.overrides.get z with
  | some o => o.profile
  | none => c.site

/-- Every profile in force and the site profile worked out (R47, R49). -/
def Calendar.settled (c : Calendar) : Calendar := { c with inForce := Table.ofFn c.chosen, siteProfile := c.site }

/-! ### The lookahead (R42, R43) -/

/-- The cursor that the next shift begins with (R42). -/
def Calendar.nextCursor (c : Calendar) : Option Cursor :=
  if c.committed then walk c.pendingTable 0 []
  else
    match c.cursor with
    | some (.inShift row _ stack) => walk c.active (row + 1) stack
    | some .waiting => walk c.active 0 []
    | none => none

/-- The profile of the shift at a cursor. -/
def cursorProfile? (t : Table 24 Row) (c : Cursor) : Option ProfileNo :=
  match c with
  | .inShift row _ _ => shiftProfile? t row
  | .waiting => none

/-- The profile that the next shift brings (R42). -/
def Calendar.nextProfile? (c : Calendar) : Option ProfileNo :=
  c.nextCursor.bind (cursorProfile? (if c.committed then c.pendingTable else c.active))

/-- The minutes of the lookahead (R42). -/
def Calendar.lookaheadMinutes (c : Calendar) : Nat :=
  match c.cursor with
  | some (.inShift _ left _) => left
  | some .waiting =>
    match c.anchor with
    | some a => min 40320 (ceilDiv (anchorSeconds a - c.seconds) 60)
    | none => 0
  | none => 0

/-- The lookahead taken afresh (R43). -/
def Calendar.takeLookahead (c : Calendar) : Calendar :=
  { c with lookahead := if c.rotating then c.nextProfile?.map fun p => ⟨p, c.lookaheadMinutes⟩ else none }

/-- At a minute expiry the lookahead's minutes follow the cursor (R43). -/
def Calendar.followLookahead (c : Calendar) : Calendar :=
  { c with lookahead := c.lookahead.map fun l => { l with minutes := c.lookaheadMinutes } }

/-! ### Adoption, the stop of a rotation, the shift boundary (R30, R32, R39, R40) -/

/-- The pending table is adopted at once: the anchor is kept and the pending table keeps its rows (R30). -/
def Calendar.adoptNow (c : Calendar) : Calendar := { c with active := c.pendingTable, committed := false }

/-- A running rotation stops running (R39). -/
def Calendar.stopRotation (c : Calendar) : Calendar :=
  let c := if c.committed then c.adoptNow else c
  { c with cursor := none, lookahead := none }

/-- The whole minute of the clock. -/
def Calendar.nowAnchor (c : Calendar) : Anchor := ⟨c.day, c.second / 60⟩

/-- Adoption at a shift boundary (R32). -/
def Calendar.adoptAtBoundary (c : Calendar) : Calendar :=
  { c.adoptNow with cursor := walk c.pendingTable 0 [], anchor := some c.nowAnchor }

/-- The common part of the BOUNDARY report (R41). -/
def Calendar.boundaryHead (c : Calendar) : BoundaryHead :=
  let row := match c.cursor with | some (.inShift row _ _) => some row | _ => none
  { day := c.day, minute := c.second / 60, row := row, profile := c.site,
    crew := match row with | some r => crewOf c.active r | none => 0 }

/-- An override that ends at the boundary is removed; a timed one runs on (R40). -/
def endAtBoundary (o : Option Override) : Option Override :=
  o.filter fun o => o.span != .untilEnded

/-- What an event of the Calendar Unit leaves: its state, the BOUNDARY report begun by a shift boundary, whether it
was a minute expiry, and whether the lookahead is given. -/
structure CalendarEvent where
  calendar : Calendar
  draft : Option Draft
  minute : Bool
  look : Bool
deriving DecidableEq, Repr

/-- A shift boundary, the cursor having its new position (R40). -/
def Calendar.boundary (minute : Bool) (c : Calendar) : CalendarEvent :=
  let adopts := c.committed
  let c := { c with overrides := c.overrides.map endAtBoundary }
  let c := if adopts then c.adoptAtBoundary else c
  let c := c.settled.takeLookahead
  { calendar := c
    draft := some { head := c.boundaryHead, air := none, doors := none, adopted := if adopts then c.anchor else none }
    minute := minute
    look := true }

/-! ### Resync (R37, R38) -/

/-- A rotation can run: the time is known, the anchor set and the active table holds a rotation (R33). -/
def Calendar.canRotate (c : Calendar) : Bool := !c.unknown && c.anchor.isSome && holdsRotation c.active

/-- The cursor that the arithmetic places (R37). -/
def Calendar.placed (c : Calendar) : Option Cursor :=
  match c.anchor with
  | none => none
  | some a => if c.seconds < anchorSeconds a then some .waiting else place c.active ((c.seconds - anchorSeconds a) / 60)

/-- A resync (R38). -/
def Calendar.resync (c : Calendar) : CalendarEvent :=
  let c' := { c with cursor := c.placed }
  let quiet := { calendar := c'.settled.takeLookahead, draft := none, minute := false, look := true }
  match c.cursor, c'.cursor with
  | none, _ => quiet
  | some old, some new => if old.position = new.position then quiet else c'.boundary false
  | some _, none => quiet

/-- An event that changes nothing but the state it leaves. -/
def CalendarEvent.plain (c : Calendar) : CalendarEvent := { calendar := c, draft := none, minute := false, look := false }

/-- A change after which, in RUN, a resync follows where a rotation can run (R37). -/
def Calendar.resyncIf (running : Bool) (c : Calendar) : CalendarEvent :=
  if running && c.canRotate then c.resync else .plain c

/-! ### Minute expiry (R20, R35, R46) -/

/-- A timed override at a minute expiry (R46). -/
def countOverride (o : Option Override) : Option Override :=
  match o with
  | some ⟨p, .minutes n⟩ => if n ≤ 1 then none else some ⟨p, .minutes (n - 1)⟩
  | o => o

/-- The clock stands at the anchor's day and minute (R35). -/
def Calendar.atAnchor (c : Calendar) : Bool :=
  match c.anchor with
  | some a => c.day == a.day && c.second / 60 == a.minute
  | none => false

/-- The walk from the row after the current row, at the end of a shift; from row 0 at the end of a wait (R35). -/
def Calendar.advanced (c : Calendar) : Option Cursor :=
  match c.cursor with
  | some (.inShift row _ stack) => walk c.active (row + 1) stack
  | some .waiting => walk c.active 0 []
  | none => none

/-- A shift, or a wait, ends: the cursor walks, and this is a shift boundary (R35). -/
def Calendar.endShift (minute : Bool) (c : Calendar) : CalendarEvent :=
  Calendar.boundary minute { c with cursor := c.advanced }

/-- A minute expiry of the Calendar Unit in RUN, the clock having reached it (R20): overrides, cursor and lookahead,
and the profiles in force once, after all of them. -/
def Calendar.countMinute (c : Calendar) : CalendarEvent :=
  let c := { c with overrides := c.overrides.map countOverride }
  match c.cursor with
  | none => { CalendarEvent.plain c.settled with minute := true }
  | some .waiting =>
    if c.atAnchor then c.endShift true
    else { calendar := c.followLookahead.settled, draft := none, minute := true, look := true }
  | some (.inShift row left stack) =>
    if left ≤ 1 then c.endShift true
    else
      let c := { c with cursor := some (.inShift row (left - 1) stack) }
      { calendar := c.followLookahead.settled, draft := none, minute := true, look := true }

/-- The clock reaches a new minute, which may be a new day, and after day 65535 the unknown day 0 (R20). -/
def Calendar.reachMinute (c : Calendar) : Calendar :=
  let second := (c.second / 60 + 1) * 60
  if second < 86400 then { c with second := second, tenth := 0 }
  else if c.day < 65535 then { c with day := c.day + 1, second := 0, tenth := 0 }
  else
    let stopped := if c.rotating then c.stopRotation else c
    { stopped with day := 0, second := 0, tenth := 0, unknown := true }

/-! ### What the Calendar Unit gives the other units (R20, R40, R43, R48, R49) -/

/-- The profile-change notices to one unit, for the defined zones whose profile in force has changed (R48). -/
def State.profileNotices (s : State) (new : Calendar) (f : Zone → ProfileNo → Instr) : List Instr :=
  (s.definedZones.filter fun z => s.calendar.inForce.get z != new.inForce.get z).map fun z => f z (new.inForce.get z)

/-- The notice of a new site profile (R49). -/
def siteNotices (gives : Bool) (new : Calendar) : List Instr :=
  let p := new.profiles.get new.siteProfile
  if gives then [.siteProfileNotice p.budget p.mode] else []

/-- The notices of an event of the Calendar Unit. -/
def State.calendarNotices (s : State) (e : CalendarEvent) : List Instr :=
  (if e.minute then [.airMinuteExpiryNotice] else [])
    ++ (if e.draft.isSome then [.airShiftBoundary, .heatShiftBoundary, .doorShiftBoundary] else [])
    ++ s.profileNotices e.calendar .airProfileChangeNotice
    ++ s.profileNotices e.calendar .heatProfileChangeNotice
    ++ s.profileNotices e.calendar .lightProfileChangeNotice
    ++ (if e.look then [.lookaheadNotice e.calendar.lookahead] else [])
    ++ siteNotices (s.calendar.siteProfile != e.calendar.siteProfile) e.calendar

/-- The Calendar Unit takes an event: its state changes, a shift boundary begins its BOUNDARY report, and in RUN the
other units are given what concerns them. -/
def State.calendarEvent (e : CalendarEvent) (s : State) : State :=
  if s.running then
    State.give (s.calendarNotices e) { s with calendar := e.calendar, drafts := s.drafts ++ e.draft.toList }
  else { s with calendar := e.calendar }

/-- A change of the overrides or of the default profile: the profiles in force are worked out and given. -/
def State.resettle (c : Calendar) (s : State) : State := s.calendarEvent (.plain c.settled)

/-- A minute expiry with the clock at it, by whose arrival a rotation may have stopped: the calendar's countdowns, and
in RUN those of the demand cap (R20, R39, R43, R134). -/
def State.minuteExpiry (stopped : Bool) (s : State) : State :=
  if s.running then
    let e := s.calendar.countMinute
    let s' := s.calendarEvent { e with look := e.look || stopped }
    { s' with budget := s'.budget.countCap }
  else s

/-- The clock changed and nothing else. -/
def State.withCalendar (c : Calendar) (s : State) : State := { s with calendar := c }

/-- The clock reaches its next minute. -/
def State.nextMinute (s : State) : State :=
  let c := s.calendar.reachMinute
  (s.withCalendar c).minuteExpiry (s.calendar.rotating && !c.rotating)

/-! ### Commands of time -/

/-- MINUTE_EXPIRY (R20): the clock reaches its next multiple of 60 seconds. -/
def execMinuteExpiry (s : State) : Result := finish s.nextMinute

/-- A shift, or a wait whose anchor the clock has reached, can end. -/
def Calendar.shiftCanEnd (c : Calendar) : Bool :=
  match c.cursor with
  | some (.inShift _ _ _) => true
  | some .waiting => c.atAnchor
  | none => false

/-- SHIFT_END (R35). -/
def execShiftEnd (s : State) : Result :=
  runEvent (fun s => if s.calendar.shiftCanEnd then s.calendarEvent (s.calendar.endShift false) else s) s

/-- An override that counts minutes. -/
def Override.timed (o : Override) : Bool := o.span != .untilEnded

/-- A zone's override record set or removed. -/
def Calendar.withOverride (z : Zone) (o : Option Override) (c : Calendar) : Calendar :=
  { c with overrides := c.overrides.set z o }

/-- OVERRIDE_EXPIRY (R46). -/
def execOverrideExpiry (z : Zone) (s : State) : Result :=
  runEvent (fun s =>
    if (s.calendar.overrides.get z).any Override.timed then s.resettle (s.calendar.withOverride z none) else s) s

/-! ### SET-TIME (R22, R23) -/

/-- The clock set to a number of seconds. -/
def Calendar.setClock (seconds : Nat) (c : Calendar) : Calendar :=
  { c with day := seconds / 86400, second := seconds % 86400 }

/-- A minute expiry that a trim forward passes or lands on. -/
def State.passMinute (s : State) (minute : Nat) : State :=
  (s.withCalendar (s.calendar.setClock (60 * minute))).minuteExpiry false

/-- A trim (R23): forward, one minute expiry for each multiple of 60 seconds that it passes or lands on. -/
def State.trim (target : Nat) (s : State) : State :=
  let now := s.calendar.seconds
  let passed := ((List.range 2).map fun k => now / 60 + 1 + k).filter fun m => 60 * m ≤ target
  let s' := passed.foldl State.passMinute s
  s'.withCalendar (s'.calendar.setClock target)

/-- The clock takes a value without a minute expiry; in RUN a resync follows (R22, R23). -/
def State.moveClock (target : Nat) (s : State) : State :=
  s.calendarEvent (Calendar.resyncIf s.running { s.calendar.setClock target with unknown := false })

/-- The size of the difference of two counts of seconds. -/
def differs (a b : Nat) : Nat := (a - b) + (b - a)

/-- SET_TIME (R22, R23). -/
def execSetTime (day second : Nat) (s : State) : Result :=
  request (.setTime day second) (fun s =>
    let target := day * 86400 + second
    if 65535 < day ∨ 86399 < second then refuse .badField s
    else if s.calendar.unknown then accept (s.moveClock target)
    else if differs target s.calendar.seconds ≤ 120 then accept (s.trim target)
    else accept (s.moveClock target)) s

/-! ### Profiles (R24 to R26) -/

/-- A profile is in use in RUN (R25). -/
def Calendar.inUse (c : Calendar) (p : ProfileNo) : Bool :=
  c.shiftProfile? == some p
    || c.overrides.entries.any (fun o => (o.map fun o => o.profile) == some p)
    || (c.lookahead.map fun l => l.profile) == some p
    || (c.defaultProfile == p && (c.inForce.entries.contains p || c.siteProfile == p))

/-- DEF_PROFILE (R24, R25). -/
def execDefProfile (f : ProfileFields) (s : State) : Result :=
  request (.defProfile f) (fun s =>
    match number? 8 f.profile, profile? f with
    | some n, some p =>
      if s.running && s.calendar.inUse n then refuse .inUse s
      else accept (s.withCalendar { s.calendar with profiles := s.calendar.profiles.set n p })
    | _, _ => refuse .badField s) s

/-- SET_CALENDAR (R26). -/
def execSetCalendar (k : Nat) (s : State) : Result :=
  request (.setCalendar k) (fun s =>
    match number? 8 k with
    | none => refuse .badField s
    | some p => accept (s.resettle { s.calendar with defaultProfile := p })) s

/-! ### Plans (R28 to R31, R36) -/

/-- PLAN_ROW (R28). -/
def execPlanRow (k : Nat) (f : RowFields) (s : State) : Result :=
  request (.planRow k f) (fun s =>
    match number? 24 k, row? f with
    | some n, some r =>
      if s.calendar.committed then refuse .frozen s
      else accept (s.withCalendar { s.calendar with pendingTable := s.calendar.pendingTable.set n r })
    | _, _ => refuse .badField s) s

/-- A valid pending table is committed or adopted at once: what the Calendar Unit becomes (R30). The lookahead is taken
afresh, its minutes with it; that they then may differ from those before, where the clock was trimmed back over a minute
while the rotation waits, is the model's choice (assumption log, entry 30). -/
def Calendar.commit (running : Bool) (c : Calendar) : CalendarEvent :=
  if c.rotating then { CalendarEvent.plain { c with committed := true }.takeLookahead with look := true }
  else c.adoptNow.resyncIf running

/-- The commit outcome code: ADOPTED_NOW 0, COMMITTED 1 (Table 11-2). -/
def Calendar.commitOutcome (c : Calendar) : Byte := if c.rotating then 1 else 0

/-- PLAN_COMMIT (R29, R30). -/
def execPlanCommit (s : State) : Result :=
  request .planCommit (fun s =>
    let c := s.calendar
    if c.committed then refuse .frozen s
    else
      match planDetail c.pendingTable with
      | some d => (s, ⟨.planInvalid, [byte d]⟩)
      | none => (s.calendarEvent (c.commit s.running), ⟨.ok, [c.commitOutcome]⟩)) s

/-- PLAN_WITHDRAW (R31). -/
def execPlanWithdraw (s : State) : Result :=
  request .planWithdraw (fun s =>
    if s.calendar.committed then
      accept (s.calendarEvent
        { CalendarEvent.plain { s.calendar with committed := false }.takeLookahead with look := true })
    else refuse .notFound s) s

/-- PLAN_ANCHOR (R36). -/
def execPlanAnchor (day minute : Nat) (s : State) : Result :=
  request (.planAnchor day minute) (fun s =>
    if 65535 < day ∨ 1439 < minute then refuse .badField s
    else accept (s.calendarEvent (Calendar.resyncIf s.running { s.calendar with anchor := some ⟨day, minute⟩ }))) s

/-! ### Overrides (R44, R45) -/

/-- The defined zones that a list names, none when it names another (R3). -/
def State.zones? (s : State) (ks : List Nat) : Option (List Zone) := ks.mapM s.zone?

/-- A list of zones has a fit length (R44, R45). -/
def zonesFit (ks : List Nat) : Bool := 1 ≤ ks.length && ks.length ≤ 12

/-- Override records set or removed in the zones of a list. -/
def Calendar.withOverrides (zs : List Zone) (o : Option Override) (c : Calendar) : Calendar :=
  zs.foldl (fun c z => c.withOverride z o) c

/-- OVERRIDE (R44). -/
def execOverride (k duration : Nat) (ks : List Nat) (s : State) : Result :=
  request (.override k duration ks) (fun s =>
    match number? 8 k with
    | none => refuse .badField s
    | some p =>
      if 1440 < duration ∨ !zonesFit ks then refuse .badField s
      else if !s.running then refuse .wrongState s
      else
        match s.zones? ks with
        | none => refuse .notFound s
        | some zs => accept (s.resettle (s.calendar.withOverrides zs (some ⟨p, spanOf duration⟩)))) s

/-- OVERRIDE_END (R45). -/
def execOverrideEnd (ks : List Nat) (s : State) : Result :=
  request (.overrideEnd ks) (fun s =>
    if !zonesFit ks then refuse .badField s
    else if !s.running then refuse .wrongState s
    else
      match s.zones? ks with
      | none => refuse .notFound s
      | some zs =>
        if zs.all fun z => (s.calendar.overrides.get z).isSome then
          accept (s.resettle (s.calendar.withOverrides zs none))
        else refuse .notFound s) s

/-! ### Reading the calendar (R50) -/

/-- CALENDAR_STATUS (R50). -/
def execCalendarStatus (s : State) : Result :=
  request .calendarStatus (fun s => report (calendarRecord s.calendar) s) s

/-- The table of a selector: ACTIVE 0, PENDING 1 (Table 11-2). -/
def Calendar.table? (c : Calendar) : Nat → Option (Table 24 Row)
  | 0 => some c.active
  | 1 => some c.pendingTable
  | _ => none

/-- PLAN_READ (R50): the selector and the row stand before the plan row record (R168). -/
def execPlanRead (table row : Nat) (s : State) : Result :=
  request (.planRead table row) (fun s =>
    match s.calendar.table? table, number? 24 row with
    | some t, some n => report (byte table :: byte row :: rowRecord (t.get n)) s
    | _, _ => refuse .badField s) s

/-- PROFILE_READ (R50). -/
def execProfileRead (k : Nat) (s : State) : Result :=
  request (.profileRead k) (fun s =>
    match number? 8 k with
    | none => refuse .badField s
    | some p => report (profileRecord p (s.calendar.profiles.get p)) s) s

/-! ### START and STOP (R52) -/

/-- The Calendar Unit at START: every profile in force is the default profile, or comes from the cursor that a resync
places. -/
def Calendar.start (c : Calendar) : CalendarEvent :=
  Calendar.resyncIf true { c with cursor := none, overrides := Table.fill 12 none, lookahead := none }.settled

/-- The notices that the Calendar Unit gives at START: to the Air Unit each zone's change of profile, the lookahead of
a rotation that starts, and the site profile (R110, R124, R132, R148). -/
def State.startNotices (s : State) (e : CalendarEvent) : List Instr :=
  s.profileNotices e.calendar .airProfileChangeNotice
    ++ (if e.look then [.lookaheadNotice e.calendar.lookahead] else [])
    ++ siteNotices true e.calendar

/-- The Calendar Unit takes START. -/
def State.startCalendar (s : State) : State :=
  let e := s.calendar.start
  State.give (s.startNotices e) { s with calendar := e.calendar }

/-- The Calendar Unit at STOP. -/
def Calendar.stop (c : Calendar) : Calendar :=
  Calendar.settled { c.stopRotation with overrides := Table.fill 12 none }

end Sys2Proof.Machine
end

