-- ==== Sys2Proof/Machine/Doors.lean ====
section
/-! DEFINITION. The Door Unit (chapter 3): door inputs, door states, alerts and counts, and what it gives the other
units, with the commands that act on them. -/

namespace Sys2Proof.Machine

/-! ### What the Door Unit gives the other units (R68 to R70) -/

/-- The notices of a zone's changed values. -/
def zoneDoorNotices (old new : Doors) (z : Zone) : List Instr :=
  (if old.holdDown z = new.holdDown z then [] else [.holdDownFlagNotice z (new.holdDown z)])
    ++ if old.openUnsealed z = new.openUnsealed z then []
       else [.heatOpenUnsealedCountNotice z (new.openUnsealed z), .airOpenUnsealedCountNotice z (new.openUnsealed z)]

/-- The notice of a load's changed curtain request. -/
def curtainNotices (old new : Doors) (l : Option LoadDef) (n : LoadNo) : List Instr :=
  if old.curtainRequest l = new.curtainRequest l then [] else [.curtainRequestNotice n (new.curtainRequest l)]

/-- A door has a defined LIGHT load bound to it. -/
def hasDockLight (loads : Table 64 Load) (d : DoorNo) : Bool :=
  loads.entries.any fun l => l.isType .light && l.boundTo d

/-- The notice of a door's changed dock-light state. -/
def dockNotices (loads : Table 64 Load) (old new : Doors) (d : DoorNo) : List Instr :=
  if old.dockSealed d = new.dockSealed d then []
  else if hasDockLight loads d then [.dockLightNotice d (new.dockSealed d)]
  else []

/-- One notice for each value that an event changes (R70). -/
def doorNotices (loads : Table 64 Load) (old new : Doors) : List Instr :=
  (List.finRange 12).flatMap (zoneDoorNotices old new)
    ++ (List.finRange 64).flatMap (fun n => curtainNotices old new (loads.get n).defn n)
    ++ (List.finRange 32).flatMap (dockNotices loads old new)

/-- An event at the Door Unit in RUN leaves it with new records, and gives its notices (R70). -/
def State.doorEvent (new : Doors) (s : State) : State :=
  State.give (doorNotices s.loads s.doors new) { s with doors := new }

/-- A door record changed. -/
def Doors.onDoor (d : DoorNo) (f : Door → Door) (ds : Doors) : Doors := { ds with doors := ds.doors.modify d f }

/-- A line changed. -/
def Doors.onLine (n : LineNo) (f : Line → Line) (ds : Doors) : Doors := { ds with lines := ds.lines.modify n f }

/-! ### Transitions (R59 to R64) -/

/-- The dwell timer started at the door's limit (R63). -/
def Door.limitTimer (d : Door) : Timer :=
  match d.defn with
  | some f => Timer.start f.limit
  | none => none

/-- One more in a count that saturates at 255 (R60, R64). -/
def saturate (n : Nat) : Nat := min 255 (n + 1)

/-- A door stands in OPEN with its dwell timer started. -/
def Door.toOpen (d : Door) : Door := { d with state := .opened, dwell := d.limitTimer }

/-- The door opens (R60). -/
def Door.opensUp (trailer : Bool) (d : Door) : Door :=
  match d.state with
  | .closed =>
    let d' := { d with opens := saturate d.opens }
    if trailer then { d' with state := .sealed } else d'.toOpen
  | _ => d

/-- The door closes (R61). -/
def Door.closes (d : Door) : Door :=
  match d.state with
  | .opened | .dwell | .sealed => { d with state := .closed, dwell := none }
  | _ => d

/-- A trailer arrives (R62). -/
def Door.trailerArrives (d : Door) : Door :=
  match d.state with
  | .opened | .dwell => { d with state := .sealed, dwell := none }
  | _ => d

/-- A trailer leaves (R62). -/
def Door.trailerLeaves (d : Door) : Door :=
  match d.state with
  | .sealed => d.toOpen
  | _ => d

/-- The dwell timer of a door in OPEN expires (R64). -/
def Door.dwells (d : Door) : Door :=
  { d with state := .dwell, dwell := none, entries := saturate d.entries, alert := true }

/-- Silent evaluation from the contacts (R59, R74). -/
def Door.evaluate (isOpen trailer : Bool) (d : Door) : Door :=
  let d' := { d with evaluated := true, dwell := none }
  if !isOpen then { d' with state := .closed }
  else if trailer then { d' with state := .sealed }
  else d'.toOpen

/-- Disabling (R59). -/
def Door.disable (d : Door) : Door :=
  { d with state := .disabled, evaluated := false, dwell := none, alert := false }

/-! ### Door inputs (R53, R54, R55) -/

/-- What a settled change of a line does to its door, with the contacts as they then stand. -/
def Doors.contactEvent (ds : Doors) (n : LineNo) (d : Door) : Door :=
  let k := lineDoor n
  if isTrailerLine n then (if ds.trailerAsserted k then d.trailerArrives else d.trailerLeaves)
  else if ds.openAsserted k then d.opensUp (ds.trailerAsserted k) else d.closes

/-- A line's settled level takes the line's level (R54). -/
def Line.settle (l : Line) : Line := { l with settled := l.high, timing := none }

/-- A settled change of a line, which in RUN is an event at its defined and enabled door (R54). -/
def State.settleLine (s : State) (n : LineNo) : State :=
  let ds := s.doors.onLine n Line.settle
  if s.running && (ds.doors.get (lineDoor n)).enabled then
    s.doorEvent (ds.onDoor (lineDoor n) (ds.contactEvent n))
  else { s with doors := ds }

/-- The line takes a level; where it differs from the settled level it is timed, from the moment it began to. -/
def Line.take (high : Bool) (l : Line) : Line :=
  { l with high := high, timing := if high == l.settled then none else some (l.timing.getD 0) }

/-- DOOR_INPUT_CHANGE (R54): in STARTING no line is timed. -/
def execDoorInputChange (n : LineNo) (high : Bool) (s : State) : Result :=
  finish { s with
    doors := s.doors.onLine n fun l => if s.part.op = .starting then { l with high := high } else l.take high }

/-- A line is being timed against its settled level. -/
def Line.timed (l : Line) : Bool := l.timing.isSome && l.high != l.settled

/-- SETTLED_CHANGE (R54, R60 to R62). -/
def execSettledChange (n : LineNo) (s : State) : Result :=
  finish (if (s.doors.lines.get n).timed then s.settleLine n else s)

/-- A line has differed for at least a filter time (R54, R55). -/
def Line.settlesAt (filter : Nat) (l : Line) : Bool := l.timed && decide (filter ≤ l.timing.getD 0)

/-- The lines that have differed for at least a filter time. -/
def Doors.settling (filter : Nat) (ds : Doors) : List LineNo :=
  (List.finRange 64).filter fun n => (ds.lines.get n).settlesAt filter

/-- SET_DOORS (R55): the lines that settle at it do so one after the other, in a free order. -/
def execSetDoors (filter : Nat) (s : State) : Result :=
  request (.setDoors filter) (fun s =>
    if filter < 1 ∨ 20 < filter then refuse .badField s
    else
      let ns := s.doors.settling filter
      let s' := State.countChoice ns.length { s with doors := { s.doors with filter := filter } }
      accept ((arrange s.choices ns).foldl State.settleLine s')) s

/-! ### Dwell, alerts and counts (R64 to R67) -/

/-- The DOOR-ALERT of an entry into DWELL (R65). -/
def doorAlerts (n : DoorNo) (old new : Door) : List Body :=
  match old.alert, new.defn with
  | false, some f => [.doorAlert n f.zone f.limit new.entries f.mode]
  | _, _ => []

/-- A door stands in OPEN with its dwell timer running. -/
def Door.dwelling (d : Door) : Bool := d.state == .opened && d.dwell.isSome

/-- DWELL_TIMER_EXPIRY (R64, R65). -/
def execDwellTimerExpiry (n : DoorNo) (s : State) : Result :=
  runEvent (fun s =>
    let d := s.doors.doors.get n
    if d.dwelling then
      (State.raiseAll (doorAlerts n d d.dwells) s).doorEvent (s.doors.onDoor n Door.dwells)
    else s) s

/-- ACK_DOOR (R66). -/
def execAckDoor (k : Nat) (s : State) : Result :=
  request (.ackDoor k) (fun s =>
    match number? 32 k with
    | none => refuse .notFound s
    | some n =>
      let d := s.doors.doors.get n
      match d.defn with
      | none => refuse .notFound s
      | some f =>
        if d.alert ∧ f.mode = .level ∧ d.state = .dwell then refuse .stillActive s
        else accept { s with doors := s.doors.onDoor n fun d => { d with alert := false } }) s

/-- DOOR_STATUS (R71). -/
def execDoorStatus (k : Nat) (s : State) : Result :=
  request (.doorStatus k) (fun s =>
    match number? 32 k with
    | none => refuse .notFound s
    | some n => report (doorRecord s n) s) s

/-- A zone's sums over its doors, enabled or not (R67). -/
def Doors.figures (ds : Doors) (z : Zone) : DoorFigures :=
  let members := ds.doors.entries.filter (·.inZone z)
  { opens := (members.map fun d => d.opens).sum, entries := (members.map fun d => d.entries).sum }

/-- DOOR_SHIFT_BOUNDARY (R67). -/
def execDoorShiftBoundary (s : State) : Result :=
  notice .doorShiftBoundary (fun s =>
    State.enterDoors ((List.finRange 12).map s.doors.figures)
      { s with doors := { s.doors with doors := s.doors.doors.map fun d => { d with opens := 0, entries := 0 } } }) s

/-! ### DEF-DOOR (R56 to R59) -/

/-- What DEF-DOOR carries beside the door number: the marker NONE, or a definition whose zone is still a number. -/
inductive DoorOrder where
  | remove
  | define (zone : Nat) (defn : Zone → DoorDef)

/-- Check 1 of R56. -/
def DoorOrder.ofFields? (f : DoorFields) : Option DoorOrder :=
  if f.zone = 255 then some .remove
  else
    match polarity? f.openPolarity, polarity? f.trailerPolarity, alertMode? f.mode, flag? f.enabled with
    | some o, some t, some m, some e =>
      if 10 ≤ f.limit ∧ f.limit ≤ 900 then some (.define f.zone fun z => ⟨z, o, t, f.limit, m, e⟩) else none
    | _, _, _, _ => none

/-- Check 2 of R56, in RUN: the door is defined, and zone and polarities are its present ones. -/
def DoorOrder.allowedInRun (present : Option DoorDef) (o : DoorOrder) : Bool :=
  match o, present with
  | .define k defn, some p =>
    p.zone.val == k && (defn p.zone).openPolarity == p.openPolarity
      && (defn p.zone).trailerPolarity == p.trailerPolarity
  | _, _ => false

/-- A defined load is bound to a door (R8). -/
def State.doorBound (s : State) (d : DoorNo) : Bool := s.loads.entries.any (·.boundTo d)

/-- A door moves to a zone that already has eight members (R56, check 5). -/
def State.zoneFull (s : State) (z : Zone) : Bool := decide (8 ≤ s.doors.doors.entries.countP (·.inZone z))

/-- The door in RUN after a DEF-DOOR that passes R56 (R58, R59). -/
def Doors.redefine (n : DoorNo) (f : DoorDef) (ds : Doors) : Doors :=
  let old := ds.doors.get n
  let ds' := ds.onDoor n fun d => { d with defn := some f }
  match old.defn with
  | none => ds'
  | some p =>
    if p.enabled && !f.enabled then ds'.onDoor n Door.disable
    else if !p.enabled && f.enabled then
      ds'.onDoor n (Door.evaluate (ds'.openAsserted n) (ds'.trailerAsserted n))
    else if old.state = .opened ∧ p.limit ≠ f.limit then ds'.onDoor n Door.toOpen
    else ds'

/-- A DEF-DOOR that passes R56 is taken (R57, R58). -/
def State.defineDoor (n : DoorNo) (d : Option DoorDef) (s : State) : State :=
  match s.running, d with
  | true, some f => s.doorEvent (s.doors.redefine n f)
  | _, _ => { s with doors := s.doors.onDoor n fun _ => Door.atRest d }

/-- Checks 4 and 5 of R56, and the definition. -/
def State.placeDoor (n : DoorNo) (d : Option DoorDef) (s : State) : State × Answer :=
  let present := ((s.doors.doors.get n).defn).map fun p => p.zone
  let target := d.map fun f => f.zone
  if target = present then accept (s.defineDoor n d)
  else if s.doorBound n then refuse .inUse s
  else if target.any s.zoneFull then refuse .inUse s
  else accept (s.defineDoor n d)

/-- DEF_DOOR (R56 to R59). -/
def execDefDoor (f : DoorFields) (s : State) : Result :=
  request (.defDoor f) (fun s =>
    match number? 32 f.door, DoorOrder.ofFields? f with
    | some n, some order =>
      if s.running && !order.allowedInRun (s.doors.doors.get n).defn then refuse .wrongState s
      else
        match order with
        | .remove => s.placeDoor n none
        | .define k defn =>
          match s.zone? k with
          | none => refuse .notFound s
          | some z =>
            if s.zones.get z = .floor then refuse .badField s else s.placeDoor n (some (defn z))
    | _, _ => refuse .badField s) s

/-! ### START and STOP (R73, R74) -/

/-- Every defined, enabled door evaluated silently. -/
def Doors.evaluateAll (ds : Doors) : Doors :=
  { ds with doors := ds.doors.mapIdx fun n d =>
      if d.enabled then d.evaluate (ds.openAsserted n) (ds.trailerAsserted n) else d }

/-- The Door Unit at START (R74). -/
def State.startDoors (s : State) : State := s.doorEvent s.doors.evaluateAll

/-- The Door Unit at STOP (R73). -/
def Doors.stop (ds : Doors) : Doors := { ds with doors := ds.doors.map fun d => Door.atRest d.defn }

/-- The settled levels at the end of STARTING (R54). -/
def Doors.takeLines (ds : Doors) : Doors := { ds with lines := ds.lines.map Line.settle }

end Sys2Proof.Machine
end

