-- ==== Sys2Proof/Machine/Heat.lean ====
section
/-! DEFINITION. The Heat Unit (chapter 6): setpoints, frost, preheat, heat stage and heater requests, with the commands
that act on them. -/

namespace Sys2Proof.Machine

/-- What a recomputation of a zone reads beside the zone's own record: the settings, the matching heating setpoints of
the profile copy and of the lookahead copy's profile where that allows preheat, the lookahead minutes and the bar. -/
structure HeatInputs where
  settings : HeatSettings
  own : Int
  next : Option (Int × Nat)
  bar : Bool
deriving DecidableEq, Repr

/-- The heating setpoint of a profile that matches a zone's kind (R1, R113). -/
def heatingSetpoint (k : ZoneKind) (p : Profile) : Int :=
  match k with
  | .dock => p.dockSetpoint
  | .floor => p.floorSetpoint
  | .undefined => 0

/-- What a recomputation of a zone reads. -/
def State.heatInputs (s : State) (z : Zone) (h : HeatZone) : HeatInputs :=
  let k := s.zones.get z
  { settings := s.heat.settings
    own := heatingSetpoint k (s.calendar.profiles.get h.profile)
    next :=
      match s.heat.lookahead with
      | none => none
      | some l =>
        let p := s.calendar.profiles.get l.profile
        if p.preheat then some (heatingSetpoint k p, l.minutes) else none
    bar := s.heat.bar }

/-- The base setpoint S0 (R113). -/
def HeatInputs.base (i : HeatInputs) : Int := max (i.settings.floor : Int) i.own

/-- The preheat setpoint S′ of a heating setpoint (R113). -/
def HeatInputs.raised (i : HeatInputs) (setpoint : Int) : Int := max (i.settings.floor : Int) setpoint

/-- Where preheat applies: the preheat setpoint, the lookahead minutes and the temperature (R115). -/
def HeatInputs.applies (i : HeatInputs) (temp : Option Int) : Option (Int × Nat × Int) :=
  match i.next, temp with
  | some (setpoint, minutes), some t =>
    if i.base < i.raised setpoint then some (i.raised setpoint, minutes, t) else none
  | _, _ => none

/-- The lead in minutes (R115). -/
def lead (target temp : Int) (rate : Nat) : Nat := min 120 (ceilDiv (((target - temp) * rate).toNat) 10)

/-- An active preheat ends and the hold starts afresh (R116). -/
def HeatZone.endPreheat (settings : HeatSettings) (z : HeatZone) : HeatZone :=
  if z.preheat then { z with preheat := false, hold := Timer.start settings.hold } else z

/-- Step 1 of a recomputation: an active preheat that no longer applies ends, an inactive one is tested for a start. -/
def HeatZone.testPreheat (i : HeatInputs) (z : HeatZone) : HeatZone :=
  match i.applies z.temp with
  | none => z.endPreheat i.settings
  | some (target, minutes, t) =>
    if z.preheat then z
    else if !i.bar && decide (minutes ≤ lead target t i.settings.rate) then { z with preheat := true }
    else z

/-- Step 2: the setpoint in use S (R113). -/
def HeatZone.setpointIn (i : HeatInputs) (z : HeatZone) : Int :=
  match z.preheat, i.next with
  | true, some (setpoint, _) => i.raised setpoint
  | _, _ => i.base

/-- Step 3: the frost state (R114). -/
def frostAfter (floor : Nat) (temp : Option Int) (frost : Bool) : Bool :=
  match temp with
  | none => frost
  | some t => if frost then decide (t < floor + 10) else decide (t < floor)

/-- The candidate stage of an error (Table 6-4). -/
def cand (e : Int) : Nat := if e ≤ 0 then 0 else if e ≤ 10 then 1 else if e ≤ 25 then 2 else 3

/-- The stage decided against the setpoint (R117). -/
def setpointStage (e : Int) (stage : Nat) (hold : Timer) : Nat :=
  if stage < cand e then cand e else if cand e < stage ∧ hold.isNone then cand (e + 5) else stage

/-- Step 4: the stage (R117, R118). -/
def heatStage (setpoint : Int) (temp : Option Int) (frost holdDown : Bool) (stage : Nat) (hold : Timer) : Nat :=
  if frost then 3
  else
    match temp with
    | none => 1
    | some t =>
      if holdDown then min 1 (setpointStage (setpoint - t) stage hold) else setpointStage (setpoint - t) stage hold

/-- Step 5: the cold flag (R121). -/
def coldAt (setpoint : Int) (temp : Option Int) : Bool :=
  match temp with
  | none => false
  | some t => decide (t ≤ setpoint - 30)

/-- Steps 1 to 5 of a recomputation (R120). -/
def HeatZone.recompute (i : HeatInputs) (z : HeatZone) : HeatZone :=
  let z := z.testPreheat i
  let setpoint := z.setpointIn i
  let frost := frostAfter i.settings.floor z.temp z.frost
  let stage := heatStage setpoint z.temp frost z.holdDown z.stage z.hold
  { z with
    setpoint := setpoint
    frost := frost
    stage := stage
    hold := if z.stage < stage then Timer.start i.settings.hold else z.hold
    cold := coldAt setpoint z.temp }

/-- Step 6: the frost reports (R114). -/
def heatReports (z : Zone) (floor : Nat) (old new : HeatZone) : List Body :=
  match new.temp, old.frost, new.frost with
  | some t, false, true => [.frost z t floor old.stage new.holdDown new.openCount]
  | some t, true, false => [.frostEnd z t floor]
  | _, _, _ => []

/-- The requests of a zone's HEATER loads at a stage (R122). -/
def heaterRequests (loads : Table 64 Load) (z : Zone) (stage : Nat) : List (LoadNo × Nat) :=
  (loadsOf loads .heater z).map fun n => (n, min stage (loads.get n).maxLevel)

/-- Steps 6 and 7: the frost reports, and a heat notice when the stage, and with it perhaps a request, the cold flag
or the frost state has changed. -/
def heatEffects (s : State) (z : Zone) (old new : HeatZone) : Effects :=
  { reports := heatReports z s.heat.settings.floor old new
    notices :=
      if old.stage = new.stage ∧ old.cold = new.cold ∧ old.frost = new.frost then []
      else [.heatNotice z new.cold new.frost (heaterRequests s.loads z new.stage)] }

/-- The Heat Unit's zone records changed. -/
def State.withHeatZones (zones : Table 12 HeatZone) (s : State) : State :=
  { s with heat := { s.heat with zones := zones } }

/-- One zone is changed without a recomputation. -/
def State.onHeatZone (z : Zone) (f : HeatZone → HeatZone) (s : State) : State :=
  s.withHeatZones (s.heat.zones.modify z f)

/-- The Heat Unit's zone records with some defined zones changed and then recomputed. -/
def State.heatZonesAfter (which : Zone → Bool) (change : HeatZone → HeatZone) (s : State) : Table 12 HeatZone :=
  s.heat.zones.mapIdx fun z h =>
    if which z && s.definedZone z then (change h).recompute (s.heatInputs z (change h)) else h

/-- Some defined zones are changed and recomputed in one event (R120). -/
def State.recomputeHeat (which : Zone → Bool) (change : HeatZone → HeatZone) (s : State) : State :=
  let zones := s.heatZonesAfter which change
  (s.withHeatZones zones).emit
    ((s.definedZones.filter which).map fun z => heatEffects s z (s.heat.zones.get z) (zones.get z))

/-- Every defined zone is changed and recomputed. -/
def State.recomputeHeatAll (change : HeatZone → HeatZone) (s : State) : State := s.recomputeHeat (fun _ => true) change

/-- One zone is changed and recomputed. -/
def State.recomputeHeatZone (z : Zone) (change : HeatZone → HeatZone) (s : State) : State :=
  s.recomputeHeat (· == z) change

/-! ### Notices (Table 6-3, R112) -/

/-- ZONE_TEMPERATURE_NOTICE (R112). -/
def execZoneTemperatureNotice (z : Zone) (v : Option Int) (s : State) : Result :=
  zoneNotice (.zoneTemperatureNotice z v) z (State.recomputeHeatZone z fun h => { h with temp := v }) s

/-- HOLD_DOWN_FLAG_NOTICE (R112). -/
def execHoldDownFlagNotice (z : Zone) (flag : Bool) (s : State) : Result :=
  zoneNotice (.holdDownFlagNotice z flag) z (State.recomputeHeatZone z fun h => { h with holdDown := flag }) s

/-- HEAT_OPEN_UNSEALED_COUNT_NOTICE (R112): the copy changes and nothing is recomputed. -/
def execHeatOpenUnsealedCountNotice (z : Zone) (count : Nat) (s : State) : Result :=
  zoneNotice (.heatOpenUnsealedCountNotice z count) z (State.onHeatZone z fun h => { h with openCount := count }) s

/-- HEAT_PROFILE_CHANGE_NOTICE (R112). -/
def execHeatProfileChangeNotice (z : Zone) (p : ProfileNo) (s : State) : Result :=
  zoneNotice (.heatProfileChangeNotice z p) z (State.recomputeHeatZone z fun h => { h with profile := p }) s

/-- A lookahead notice ends preheats whose profile has changed, or that it leaves without one (R116). -/
def lookaheadChanges (old new : Option Lookahead) : Bool :=
  (old.map fun l => l.profile) != (new.map fun l => l.profile)

/-- LOOKAHEAD_NOTICE (R112, R116). -/
def execLookaheadNotice (l : Option Lookahead) (s : State) : Result :=
  notice (.lookaheadNotice l) (fun s =>
    let ends := lookaheadChanges s.heat.lookahead l
    State.recomputeHeatAll (fun h => if ends then h.endPreheat s.heat.settings else h)
      { s with heat := { s.heat with lookahead := l, bar := false } }) s

/-- HEAT_SHIFT_BOUNDARY (R112, R116). -/
def execHeatShiftBoundary (s : State) : Result :=
  notice .heatShiftBoundary (fun s =>
    State.recomputeHeatAll (HeatZone.endPreheat s.heat.settings) { s with heat := { s.heat with bar := true } }) s

/-- HEAT_STAGE_HOLD_EXPIRY (R119). -/
def execHeatStageHoldExpiry (z : Zone) (s : State) : Result :=
  runEvent (fun s =>
    if (s.heat.zones.get z).hold.isSome then s.recomputeHeatZone z fun h => { h with hold := none } else s) s

/-! ### SET-HEAT, START and STOP (R111, R124) -/

/-- The settings lie in the ranges of Table 6-2. -/
def HeatSettings.inRange (h : HeatSettings) : Bool :=
  h.floor ≤ 150 && 1 ≤ h.rate && h.rate ≤ 60 && 60 ≤ h.hold && h.hold ≤ 1800

/-- SET_HEAT (R111). -/
def execSetHeat (floor rate hold : Nat) (s : State) : Result :=
  request (.setHeat floor rate hold) (fun s =>
    let h : HeatSettings := ⟨floor, rate, hold⟩
    let s' := { s with heat := { s.heat with settings := h } }
    if !HeatSettings.inRange h then refuse .badField s
    else if s.running then accept (s'.recomputeHeatAll fun z => z)
    else accept s') s

/-- The Heat Unit's record of a zone as START begins it (R124). -/
def State.heatZoneAtStart (s : State) (z : Zone) : HeatZone :=
  HeatZone.atRest (if s.definedZone z then s.calendar.inForce.get z else s.calendar.defaultProfile)

/-- The Heat Unit at START, once the Calendar Unit has taken START (R124). -/
def State.startHeat (s : State) : State :=
  let heat : Heat :=
    { zones := Table.ofFn s.heatZoneAtStart, settings := s.heat.settings, lookahead := none, bar := false }
  State.recomputeHeatAll (fun h => h) { s with heat := heat }

/-- The Heat Unit at STOP (R124). -/
def Heat.stop (p : ProfileNo) (h : Heat) : Heat := Heat.atRest h.settings p

end Sys2Proof.Machine
end

