-- ==== Sys2Proof/Machine/Light.lean ====
section
/-! DEFINITION. The Light Unit (chapter 7): zone light levels and the requests of LIGHT loads, with the commands that
act on them. -/

namespace Sys2Proof.Machine

/-- The light level of a profile that matches a zone's kind (R1, R125). -/
def baseLevel (k : ZoneKind) (p : Profile) : Nat :=
  match k with
  | .dock => p.dockLight
  | .floor => p.floorLight
  | .undefined => 0

/-- The zone light level of a base level, an egress floor and a lux (R125). -/
def lightLevel (base floor lux : Nat) : Nat := max floor (base - lux / 20)

/-- Step 1 of a recomputation (R129). -/
def LightZone.recompute (k : ZoneKind) (profiles : Table 8 Profile) (z : LightZone) : LightZone :=
  let p := profiles.get z.profile
  { z with level := lightLevel (baseLevel k p) p.egress z.lux, floor := p.egress }

/-- The request of a LIGHT load in a zone at a level (R126). -/
def lightRequest (dock : Table 32 Bool) (l : Load) (level : Nat) : Nat :=
  match l.defn with
  | some f =>
    match f.door with
    | some d => if dock.get d then 100 else level
    | none => level
  | none => level

/-- Step 2: the requests of the zone's LIGHT loads. -/
def State.lightRequestsOf (s : State) (z : Zone) (level : Nat) : List (LoadNo × Nat) :=
  (loadsOf s.loads .light z).map fun n => (n, lightRequest s.light.dock (s.loads.get n) level)

/-- The light notice of a zone with a record: none where it has no LIGHT loads (R129). -/
def State.lightNoticeOf (s : State) (z : Zone) (new : LightZone) : List Instr :=
  let rs := s.lightRequestsOf z new.level
  if rs.isEmpty then [] else [.lightNotice z new.floor rs]

/-- Step 3: a light notice when the egress floor or a request has changed. -/
def State.lightNotices (s : State) (z : Zone) (old new : LightZone) : List Instr :=
  if old.floor = new.floor ∧ (s.lightRequestsOf z new.level).all (fun r => s.light.requests.get r.1 == r.2) then []
  else s.lightNoticeOf z new

/-- The requests last given, after those of a zone. -/
def noteRequests (rs : List (LoadNo × Nat)) (t : Table 64 Nat) : Table 64 Nat :=
  rs.foldl (fun t r => t.set r.1 r.2) t

/-- The Light Unit after a change and recomputation of one zone, before any notice: steps 1 and 2 of R129. -/
def State.lightAfter (z : Zone) (change : LightZone → LightZone) (s : State) : Light :=
  let new := (change (s.light.zones.get z)).recompute (s.zones.get z) s.calendar.profiles
  { s.light with
    zones := s.light.zones.set z new
    requests := noteRequests (s.lightRequestsOf z new.level) s.light.requests }

/-- One defined zone is changed and recomputed (R129). -/
def State.recomputeLight (z : Zone) (change : LightZone → LightZone) (s : State) : State :=
  let l := s.lightAfter z change
  State.give (s.lightNotices z (s.light.zones.get z) (l.zones.get z)) { s with light := l }

/-- LIGHT_PROFILE_CHANGE_NOTICE (R128). -/
def execLightProfileChangeNotice (z : Zone) (p : ProfileNo) (s : State) : Result :=
  zoneNotice (.lightProfileChangeNotice z p) z (State.recomputeLight z fun l => { l with profile := p }) s

/-- ZONE_LUX_NOTICE (R128). -/
def execZoneLuxNotice (z : Zone) (lux : Nat) (s : State) : Result :=
  zoneNotice (.zoneLuxNotice z lux) z (State.recomputeLight z fun l => { l with lux := lux }) s

/-- The zone that a door's dock-light state bears on. -/
def State.doorZone? (s : State) (d : DoorNo) : Option Zone :=
  match (s.doors.doors.get d).defn with
  | some f => if s.definedZone f.zone then some f.zone else none
  | none => none

/-- A door's dock-light copy changed. -/
def State.withDock (d : DoorNo) (b : Bool) (s : State) : State :=
  { s with light := { s.light with dock := s.light.dock.set d b } }

/-- DOCK_LIGHT_NOTICE (R128). -/
def execDockLightNotice (d : DoorNo) (b : Bool) (s : State) : Result :=
  notice (.dockLightNotice d b) (fun s =>
    match s.doorZone? d with
    | some z => (s.withDock d b).recomputeLight z fun l => l
    | none => s) s

/-- The Light Unit's record of a zone as START begins it (R132). -/
def State.lightZoneAtStart (s : State) (z : Zone) : LightZone :=
  LightZone.atRest (if s.definedZone z then s.calendar.inForce.get z else s.calendar.defaultProfile)

/-- The Light Unit at START, once the Calendar Unit has taken START (R132): every defined zone is recomputed in one
event. Each that has LIGHT loads gives its light notice (R132, R148), although its floor and requests may stay 0
(assumption log, entry 17). -/
def State.startLight (s : State) : State :=
  let rest : State :=
    { s with
      light := { Light.atRest s.calendar.defaultProfile with zones := Table.ofFn s.lightZoneAtStart } }
  let light := s.definedZones.foldl (fun l z => State.lightAfter z (fun x => x) { rest with light := l }) rest.light
  State.give (s.definedZones.flatMap fun z => rest.lightNoticeOf z (light.zones.get z))
    { rest with light := light }

end Sys2Proof.Machine
end

