-- ==== Sys2Proof/Machine/Link.lean ====
section
/-! DEFINITION. The Link Unit (chapter 9): the receiver, the receive buffer and its service, the transmitter's end and
supervision, with the commands that act on them. -/

namespace Sys2Proof.Machine

/-- The Link Unit changed. -/
def State.onLink (f : Link → Link) (s : State) : State := { s with link := f s.link }

/-! ### Service (R150, R151) -/

/-- A frame comes into service: it is answered at once, or its request is handed to the block that owns it (R151). -/
def Link.serveFrame (f : Frame) (l : Link) : Link :=
  match decodeRequest f.kind f.payload with
  | .unknownKind => l.formReply f.kind (Answer.bare .unknownKind) true
  | .badLength => l.formReply f.kind (Answer.bare .badLength) true
  | .request c => { l with handed := some c }

/-- The oldest frame in the buffer comes into service. -/
def Link.serve (l : Link) : Link :=
  match l.buffer with
  | [] => l
  | f :: _ => l.serveFrame f

/-- A valid frame is placed in the buffer, where it comes into service if it is alone there, or is lost (R150). -/
def Link.place (f : Frame) (l : Link) : Link :=
  match l.buffer with
  | [] => Link.serve { l with buffer := [f] }
  | [g] => { l with buffer := [g, f] }
  | _ => { l with overrun := true }

/-! ### Supervision (R154, R155) -/

/-- A PROBE as it stands (R154); one that is pending stays. -/
def State.probeDue (s : State) : State :=
  s.onLink fun l => { l with
    probe := some (l.probe.getD
      { day := s.calendar.day, second := s.calendar.second, unknown := s.calendar.unknown, state := l.supervision,
        queued := l.reports.length }) }

/-- A valid frame at supervision: the idle timer restarts, and QUIET or LOST returns to UP with LINK-BACK (R154). -/
def State.hostPresent (s : State) : State :=
  let l := s.link
  let up : Link := { l with supervision := .up, idle := Timer.start l.settings.idle }
  if l.supervision = .up then s.onLink fun _ => up
  else
    State.raise (.linkBack l.supervision l.probes)
      (s.onLink fun _ => { up with interval := none, probe := none, probes := 0 })

/-- In UP the idle timer expires (R154). -/
def State.becomeQuiet (s : State) : State :=
  State.probeDue (s.onLink fun l =>
    { l with supervision := .quiet, idle := none, interval := Timer.start l.settings.interval, probes := 1 })

/-- LOST is entered (R154, R155). -/
def Link.becomeLost (l : Link) : Link :=
  let l := { l with supervision := .lost, interval := none, idle := Timer.start l.settings.idle }
  if l.settings.retention = .flush then { l with reports := [], gap := true } else l

/-- IDLE_TIMER_EXPIRY (R154). -/
def execIdleTimerExpiry (s : State) : Result :=
  finish
    (match s.link.idle, s.link.supervision with
     | some _, .up => s.becomeQuiet
     | some _, .lost => State.probeDue (s.onLink fun l => { l with idle := Timer.start l.settings.idle })
     | _, _ => s)

/-- INTERVAL_TIMER_EXPIRY (R154, R155). -/
def execIntervalTimerExpiry (s : State) : Result :=
  finish
    (match s.link.interval, s.link.supervision with
     | some _, .quiet =>
       if s.link.probes < s.link.settings.count then
         State.probeDue (s.onLink fun l =>
           { l with probes := l.probes + 1, interval := Timer.start l.settings.interval })
       else s.onLink Link.becomeLost
     | _, _ => s)

/-! ### The receiver (R149) -/

/-- The check that a frame must carry to be valid. -/
def frameCheck (f : RawFrame) : BitVec 16 := crc (f.length :: f.kind :: f.payload)

/-- A complete frame is valid: its check matches. A frame that the receiver completes has as many payload bytes as its
length says, at most 120. -/
def frameValid (f : RawFrame) : Bool :=
  f.payload.length == f.length.toNat && decide (f.length.toNat ≤ 120) && f.check == frameCheck f

/-- A frame completes (R149, R150, R154): the receiver returns to HUNT, and a valid frame counts for supervision and is
then buffered or lost. -/
def State.completeFrame (f : RawFrame) (s : State) : State :=
  let s := s.onLink fun l => { l with receiver := .hunt }
  if frameValid f then s.hostPresent.onLink (Link.place ⟨f.kind, f.payload⟩) else s

/-- What a character brings about at the receiver: its next state, or a complete frame. -/
inductive Received where
  | state (r : Receiver)
  | frame (f : RawFrame)
deriving DecidableEq, Repr

/-- The receiver after the kind byte, or after a payload byte: it takes further payload, or the check. -/
def awaitRest (length kind : Byte) (got : List Byte) : Receiver :=
  if got.length < length.toNat then .payload length kind got else .check length kind got none

/-- The receiver examines a character (R149). -/
def Receiver.take (c : Byte) : Receiver → Received
  | .hunt => .state (if c = 0xA6 then .sync else .hunt)
  | .sync => .state (if c = 0x59 then .length else if c = 0xA6 then .sync else .hunt)
  | .length => .state (if c.toNat ≤ 120 then .kind c else .hunt)
  | .kind n => .state (awaitRest n c [])
  | .payload n k got => .state (awaitRest n k (got ++ [c]))
  | .check n k p none => .state (.check n k p (some c))
  | .check n k p (some a) => .frame { length := n, kind := k, payload := p, check := a ++ c }

/-- CHARACTER_RECEIVED (R149): during STARTING characters are discarded. -/
def execCharacterReceived (c : Byte) (s : State) : Result :=
  finish
    (if s.part.op = .starting then s
     else
       match s.link.receiver.take c with
       | .state r => s.onLink fun l => { l with receiver := r }
       | .frame f => s.completeFrame f)

/-- FRAME_COMPLETE (R149, R150). -/
def execFrameComplete (f : RawFrame) (s : State) : Result :=
  finish (if s.part.op = .starting then s else s.completeFrame f)

/-- RECEIVE_SILENCE (R149). -/
def execReceiveSilence (s : State) : Result := finish (s.onLink fun l => { l with receiver := .hunt })

/-- NO_STOP_BIT_CHARACTER (R149). -/
def execNoStopBitCharacter (s : State) : Result := finish (s.onLink fun l => { l with receiver := .hunt })

/-! ### The transmitter (R151, R152) -/

/-- The transmission of a frame ends: a reply to the frame in service frees it, and the next comes into service. -/
def Link.sent (x : Sent) (l : Link) : Link :=
  match x with
  | .reply r =>
    if r.answers then Link.serve { l with sending := none, buffer := l.buffer.tail } else { l with sending := none }
  | _ => { l with sending := none }

/-- TRANSMIT_END (R151, R152); the transmitter's next choice is made at the end of the step. -/
def execTransmitEnd (s : State) : Result :=
  finish
    (match s.link.sending with
     | none => s
     | some x => s.onLink (Link.sent x))

/-! ### Settings (R153, R156) -/

/-- MASK (R153). -/
def execMask (value : Nat) (s : State) : Result :=
  request (.mask value) (fun s =>
    if 3 < value then refuse .badField s else accept (s.onLink fun l => { l with mask := value })) s

/-- The settings lie in the ranges of Table 9-4, the idle time above the interval (R156). -/
def LinkSettings.inRange (l : LinkSettings) : Bool :=
  5 ≤ l.idle && l.idle ≤ 600 && 2 ≤ l.interval && l.interval ≤ 120 && 1 ≤ l.count && l.count ≤ 10
    && decide (l.interval < l.idle)

/-- SET_LINK (R156). -/
def execSetLink (idle interval count retention : Nat) (s : State) : Result :=
  request (.setLink idle interval count retention) (fun s =>
    match retention? retention with
    | none => refuse .badField s
    | some r =>
      let l' : LinkSettings := ⟨idle, interval, count, r⟩
      if LinkSettings.inRange l' then accept (s.onLink fun l => { l with settings := l' })
      else refuse .badField s) s

end Sys2Proof.Machine
end

