-- ==== Sys2Proof/Machine/Readings.lean ====
section
/-! DEFINITION. The Reading Unit (chapter 4): sensor records, readings, ageing and the zone figures it gives, with the
commands that act on them. -/

namespace Sys2Proof.Machine

/-! ### What the Reading Unit gives the other units (R86) -/

/-- The notices of a zone's temperature and lux, where a test says that they are to be given. -/
def plainFigures (gives : Bool → Bool) (old new : Readings) (z : Zone) : List Instr :=
  (if gives (old.temperature z != new.temperature z) then [.zoneTemperatureNotice z (new.temperature z)] else [])
    ++ if gives (old.lux z != new.lux z) then [.zoneLuxNotice z (new.lux z)] else []

/-- The notices of a zone's figures for a gas. -/
def gasFigures (gives : Bool → Bool) (old new : Readings) (z : Zone) (g : Gas) : List Instr :=
  (if gives (old.held z g != new.held z g) then [.heldValueNotice z g (new.held z g)] else [])
    ++ if gives (old.substitute z g != new.substitute z g) then
         [.airSubstituteFlagNotice z g (new.substitute z g), .budgetSubstituteFlagNotice z g (new.substitute z g)]
       else []

/-- The notices of a zone's figures, where a test on their having changed says that they are to be given. -/
def zoneFigures (gives : Bool → Bool) (old new : Readings) (z : Zone) : List Instr :=
  plainFigures gives old new z ++ gasFigures gives old new z .co ++ gasFigures gives old new z .no2

/-- A sensor record changed. -/
def Readings.onSensor (n : SensorNo) (f : Sensor → Sensor) (r : Readings) : Readings :=
  { r with sensors := r.sensors.modify n f }

/-- A sensor record changed without a notice. -/
def State.onSensor (n : SensorNo) (f : Sensor → Sensor) (s : State) : State :=
  { s with readings := s.readings.onSensor n f }

/-- A sensor's record changes in RUN, and each zone figure that it changes gives its notice (R86). -/
def State.readingEvent (n : SensorNo) (f : Sensor → Sensor) (s : State) : State :=
  let new := s.readings.onSensor n f
  let cs :=
    match (s.readings.sensors.get n).defn with
    | some d => zoneFigures (fun changed => changed) s.readings new d.zone
    | none => []
  State.give cs { s with readings := new }

/-! ### DEF-SENSOR and SET-SENSING (R75 to R77) -/

/-- A sensor is defined, redefined or removed in CONFIGURE (R76). -/
def State.defineSensor (n : SensorNo) (d : Option SensorDef) (s : State) : State :=
  s.onSensor n fun _ => Sensor.atRest d

/-- DEF_SENSOR (R75, R76). -/
def execDefSensor (sensor kind zone : Nat) (s : State) : Result :=
  request (.defSensor sensor kind zone) (fun s =>
    match number? 40 sensor with
    | none => refuse .badField s
    | some n =>
      match kind, sensorKind? kind with
      | 0, _ => if s.running then refuse .wrongState s else accept (s.defineSensor n none)
      | _, none => refuse .badField s
      | _, some k =>
        if s.running then refuse .wrongState s
        else
          match s.zone? zone with
          | none => refuse .notFound s
          | some z => accept (s.defineSensor n (some ⟨k, z⟩))) s

/-- The settings lie in the ranges of Table 4-3. -/
def SensingSettings.inRange (r : SensingSettings) : Bool :=
  10 ≤ r.gasQuiet && r.gasQuiet ≤ 3600 && 10 ≤ r.otherQuiet && r.otherQuiet ≤ 3600 && 5 ≤ r.dueInterval
    && r.dueInterval ≤ 600 && 1 ≤ r.dueCount && r.dueCount ≤ 10

/-- SET_SENSING (R77). -/
def execSetSensing (gasQuiet otherQuiet dueInterval dueCount : Nat) (s : State) : Result :=
  request (.setSensing gasQuiet otherQuiet dueInterval dueCount) (fun s =>
    let r : SensingSettings := ⟨gasQuiet, otherQuiet, dueInterval, dueCount⟩
    if !SensingSettings.inRange r then refuse .badField s
    else accept { s with readings := { s.readings with settings := r } }) s

/-! ### READING (R78, R79) -/

/-- The quiet time of a sensor kind (R80). -/
def quietTime (r : SensingSettings) (k : SensorKind) : Nat :=
  match k with
  | .co => r.gasQuiet
  | .no2 => r.gasQuiet
  | .temp => r.otherQuiet
  | .lux => r.otherQuiet

/-- A reading taken in CONFIGURE (R79). -/
def Sensor.read (v : Int) (n : Sensor) : Sensor := { n with state := .fresh, value := some v }

/-- A reading taken in RUN: the quiet timer restarts, and a due cycle in progress ends (R79). -/
def Sensor.readInRun (quiet : Nat) (v : Int) (n : Sensor) : Sensor :=
  { n.read v with quiet := Timer.start quiet, due := none, dueCount := 0 }

/-- A reading's value clamped to the range of the sensor's kind (R78). -/
def clampReading (k : SensorKind) (v : Int) : Int := clampTo k.range.1 k.range.2 v

/-- READING (R78, R79). -/
def execReading (sensor : Nat) (value : Int) (s : State) : Result :=
  request (.reading sensor value) (fun s =>
    match number? 40 sensor with
    | none => refuse .notFound s
    | some n =>
      match (s.readings.sensors.get n).defn with
      | none => refuse .notFound s
      | some d =>
        let v := clampReading d.kind value
        let a := Answer.bare (if v = value then .ok else .clamped)
        if s.running then (s.readingEvent n (Sensor.readInRun (quietTime s.readings.settings d.kind) v), a)
        else (s.onSensor n (Sensor.read v), a)) s

/-- SENSOR_STATUS (R87). -/
def execSensorStatus (sensor : Nat) (s : State) : Result :=
  request (.sensorStatus sensor) (fun s =>
    match number? 40 sensor with
    | none => refuse .notFound s
    | some n => report (sensorRecord s n) s) s

/-! ### Ageing (R81 to R83) -/

/-- A sensor is passed over for its reading: another DUE is queued, and the due timer starts again (R82). -/
def Sensor.ask (interval : Nat) (n : Sensor) : Sensor :=
  { n with due := Timer.start interval, dueCount := n.dueCount + 1 }

/-- The quiet timer expires (R81). -/
def Sensor.quiets (interval : Nat) (n : Sensor) : Sensor :=
  { n with
    state := if n.state = .fresh then .quiet else n.state
    quiet := none, due := Timer.start interval, dueCount := 1 }

/-- The sensor is given up (R82). -/
def Sensor.lose (n : Sensor) : Sensor := { n with state := .lost, value := none, due := none, dueCount := 0 }

/-- The DUE report of a sensor (R83). -/
def dueReport (n : SensorNo) (r : Sensor) : List Body :=
  match r.defn with
  | some d => [.due n d r.state r.dueCount]
  | none => []

/-- The SENSOR-LOST report of a sensor in the state it leaves (R83). -/
def lostReport (n : SensorNo) (r : Sensor) : List Body :=
  match r.defn with
  | some d => [.sensorLost n d r.state]
  | none => []

/-- QUIET_TIMER_EXPIRY (R81). -/
def execQuietTimerExpiry (n : SensorNo) (s : State) : Result :=
  runEvent (fun s =>
    let r := s.readings.sensors.get n
    if r.quiet.isSome then
      let after := r.quiets s.readings.settings.dueInterval
      State.raiseAll (dueReport n after) (s.onSensor n fun _ => after)
    else s) s

/-- DUE_TIMER_EXPIRY (R82). -/
def execDueTimerExpiry (n : SensorNo) (s : State) : Result :=
  runEvent (fun s =>
    let r := s.readings.sensors.get n
    if r.due.isNone then s
    else if r.dueCount < s.readings.settings.dueCount then
      let after := r.ask s.readings.settings.dueInterval
      State.raiseAll (dueReport n after) (s.onSensor n fun _ => after)
    else (State.raiseAll (lostReport n r) s).readingEvent n Sensor.lose) s

/-! ### START and STOP (R89) -/

/-- A sensor at START. -/
def Sensor.start (settings : SensingSettings) (n : Sensor) : Sensor :=
  { Sensor.atRest n.defn with
    quiet := match n.defn with | some d => Timer.start (quietTime settings d.kind) | none => none }

/-- The Reading Unit at START: every figure of every defined zone is given (R89). -/
def State.startReadings (s : State) : State :=
  let new : Readings := { s.readings with sensors := s.readings.sensors.map (Sensor.start s.readings.settings) }
  State.give (s.definedZones.flatMap (zoneFigures (fun _ => true) s.readings new)) { s with readings := new }

/-- The Reading Unit at STOP (R89). -/
def Readings.stop (r : Readings) : Readings := { r with sensors := r.sensors.map fun n => Sensor.atRest n.defn }

end Sys2Proof.Machine
end

