-- ==== Sys2Proof/Machine/Shed.lean ====
section
/-! DEFINITION. The Shed Layout (chapter 1): zone records, load definitions and drive lines, with the commands that act
on them. -/

namespace Sys2Proof.Machine

/-! ### Zones (R2 to R4) -/

/-- A zone has a member: a door, a sensor or a load. -/
def State.hasMember (s : State) (z : Zone) : Bool :=
  s.doors.doors.entries.any (·.inZone z) || s.readings.sensors.entries.any (·.inZone z)
    || s.loads.entries.any (·.inZone z)

/-- DEF_ZONE (R2). -/
def execDefZone (zone kind : Nat) (s : State) : Result :=
  request (.defZone zone kind) (fun s =>
    match number? 12 zone, zoneKind? kind with
    | some z, some k =>
      if s.running then refuse .wrongState s
      else if k = .undefined ∧ s.hasMember z then refuse .inUse s
      else if k = .floor ∧ s.doors.doors.entries.any (·.inZone z) then refuse .inUse s
      else accept { s with zones := s.zones.set z k }
    | _, _ => refuse .badField s) s

/-- ZONE_STATUS (R4). -/
def execZoneStatus (zone : Nat) (s : State) : Result :=
  request (.zoneStatus zone) (fun s =>
    match s.zone? zone with
    | none => refuse .notFound s
    | some z => report (zoneRecord s z) s) s

/-! ### Load definitions (R10, R11) -/

/-- The field that a door binding has in a request: 0xFF for none (R164). -/
def bindingField (d : Option DoorNo) : Nat :=
  match d with
  | some d => d.val
  | none => 255

/-- Every field of a request other than the base priority equals a definition (R11). -/
def matchesDef (f : LoadFields) (t : LoadType) (d : LoadDef) : Bool :=
  d.type == t && d.zone.val == f.zone && d.maxLevel == f.maxLevel && d.draws == LoadFields.draws f
    && bindingField d.door == f.door && restartClass? f.cls == some d.cls && d.minOff == f.minOff

/-- The conditions under which DEF-LOAD is taken in RUN (R11); the type NONE meets them for no load. -/
def State.loadAllowed (s : State) (n : LoadNo) (f : LoadFields) (t : LoadType) : Bool :=
  !s.running || (s.loads.get n).defn.any (matchesDef f t)

/-- The door that a binding names, none when it names no defined door; the outer option is that refusal (R10). -/
def State.binding? (s : State) (f : LoadFields) : Option (Option DoorNo) :=
  if LoadFields.bound f then
    match number? 32 f.door with
    | none => none
    | some d => if (s.doors.doors.get d).defn.isSome then some (some d) else none
  else some none

/-- A bound door belongs to a zone (R10, check 5). -/
def State.bindingInZone (s : State) (d : Option DoorNo) (z : Zone) : Bool :=
  match d with
  | none => true
  | some d => (s.doors.doors.get d).inZone z

/-- The definition that DEF-LOAD gives. -/
def loadDef (f : LoadFields) (t : LoadType) (z : Zone) (d : Option DoorNo) : LoadDef :=
  { type := t, zone := z, maxLevel := f.maxLevel, draws := LoadFields.draws f, door := d, base := f.base,
    cls := (restartClass? f.cls).getD .short, minOff := f.minOff }

/-- A load's base priority changed in RUN, with its pass (R11). -/
def State.changeBase (n : LoadNo) (base : Nat) (s : State) : State :=
  if (s.loads.get n).defn.any (fun d => d.base == base) then s
  else
    State.pass
      { s with loads := s.loads.modify n fun l => { l with defn := l.defn.map fun d => { d with base := base } } }

/-- A DEF-LOAD that passes R10 is taken (R10, R11). -/
def State.defineLoad (n : LoadNo) (d : LoadDef) (s : State) : State :=
  if s.running then s.changeBase n d.base else { s with loads := s.loads.set n (Load.atRest (some d)) }

/-- Checks 3 to 5 of R10 for a type other than NONE, and the definition. -/
def State.placeLoad (n : LoadNo) (f : LoadFields) (t : LoadType) (s : State) : State × Answer :=
  if !s.loadAllowed n f t then refuse .wrongState s
  else
    match s.zone? f.zone, s.binding? f with
    | some z, some d =>
      if s.bindingInZone d z then accept (s.defineLoad n (loadDef f t z d)) else refuse .badField s
    | _, _ => refuse .notFound s

/-- The removal of a load, in CONFIGURE (R10). A pulse period in progress on its line runs out at its duty, although R14
gives an undefined load's line duty 0: the model's choice (assumption log, entry 28). -/
def State.removeLoad (n : LoadNo) (s : State) : State × Answer :=
  if s.running then refuse .wrongState s else accept { s with loads := s.loads.set n (Load.atRest none) }

/-- DEF_LOAD (R10, R11, R12). -/
def execDefLoad (f : LoadFields) (s : State) : Result :=
  request (.defLoad f) (fun s =>
    match number? 64 f.load with
    | none => refuse .badField s
    | some n =>
      if f.type = 0 then s.removeLoad n
      else
        match loadType? f.type with
        | none => refuse .badField s
        | some t => if LoadFields.inRange f t then s.placeLoad n f t else refuse .badField s) s

/-- LOAD_STATUS (R13). -/
def execLoadStatus (load : Nat) (s : State) : Result :=
  request (.loadStatus load) (fun s =>
    match number? 64 load with
    | none => refuse .notFound s
    | some n => report (loadRecord s n) s) s

/-! ### Drive lines (R14, R15) -/

/-- PULSE_PERIOD_START (R14, R15): outside RUN every line stays at duty 0. -/
def execPulsePeriodStart (n : LoadNo) (s : State) : Result :=
  finish { s with duty := s.duty.set n (if s.running then (s.loads.get n).dutyOf else 0) }

end Sys2Proof.Machine
end

