-- ==== Sys2Proof/Machine/Part.lean ====
section
/-! DEFINITION. Operating states and the Settings Store (chapter 10): reset and STARTING, START and STOP, the stored
image, with the commands that act on them. -/

namespace Sys2Proof.Machine

/-! ### The stored image (R159, R163) -/

/-- The check value of an image's contents (R159). -/
def imageCheck (c : Stored) : BitVec 16 := crc (Config.imageBytes c)

/-- The contents of a valid image (R159). -/
def Image.contents? (i : Image) : Option Stored :=
  match i with
  | .broken => none
  | .written c check => if imageCheck c = check then some c else none

/-- The configuration as it stands: the contents of Table 10-3. -/
def State.snapshot (s : State) : Stored :=
  { zones := s.zones
    loads := s.loads.map fun l => l.defn
    profiles := s.calendar.profiles
    defaultProfile := s.calendar.defaultProfile
    active := s.calendar.active
    anchor := s.calendar.anchor
    doors := s.doors.doors.map fun d => d.defn
    filter := s.doors.filter
    sensors := s.readings.sensors.map fun n => n.defn
    sensing := s.readings.settings
    air := s.air.settings
    heat := s.heat.settings
    rotationPeriod := s.budget.period
    mask := s.link.mask
    link := s.link.settings
    autorun := s.part.autorun }

/-- STORE (R163): the snapshot is taken, the mark becomes invalid and the single copy begins to be overwritten; the
reply is formed when the write ends. -/
def execStore (s : State) : Result :=
  finish
    (if s.takesRequests then
       let s' := s.takeHanded .store
       { s' with
         part := { s'.part with imageValid := false }
         store := { image := .broken, write := some { snapshot := s.snapshot, answers := s.inService .store } } }
     else s)

/-- What the read-back of a write leaves: the image when it matches, and a copy that fails the check when not. -/
def writtenImage (verified : Bool) (c : Stored) : Image := if verified then .written c (imageCheck c) else .broken

/-- STORE_WRITE_END (R163). -/
def execStoreWriteEnd (verified : Bool) (s : State) : Result :=
  finish
    (match s.store.write with
     | none => s
     | some w =>
       { s with
         part := { s.part with imageValid := verified }
         store := { image := writtenImage verified w.snapshot, write := none }
         link := s.link.formReply 0x04 (Answer.bare (if verified then .ok else .storeFailed)) w.answers })

/-! ### Reset and STARTING (R18, R51, R72, R88, R109, R123, R131, R147, R157 to R159) -/

/-- The blocks take their reset values with the definitions and settings of a configuration; the clock, the lines'
levels and the Settings Store are not among them. -/
def State.withStored (c : Stored) (s : State) : State :=
  { s with
    zones := c.zones
    loads := c.loads.map Load.atRest
    calendar := { Calendar.atReset c with day := s.calendar.day, second := s.calendar.second, tenth := s.calendar.tenth }
    doors := { doors := c.doors.map Door.atRest, lines := s.doors.lines, filter := c.filter }
    readings := { sensors := c.sensors.map Sensor.atRest, settings := c.sensing }
    air := Air.atRest c.air
    heat := Heat.atRest c.heat c.defaultProfile
    light := Light.atRest c.defaultProfile
    budget := Budget.atRest (c.profiles.get c.defaultProfile) c.rotationPeriod
    link := Link.atReset c.mask c.link
    drafts := []
    inFlight := [] }

/-- The image that a reset leaves: a write in progress is abandoned, and its copy fails the check (R163). -/
def Store.abandoned (t : Store) : Store :=
  match t.write with
  | some _ => { image := .broken, write := none }
  | none => t

/-- The part during STARTING, before the image and the straps have been read. That the image-valid mark is clear until the
check of STARTING has been made is the model's choice (assumption log, entry 8). -/
def Part.starting (strap1 strap0 : Bool) (p : Part) : Part :=
  { p with op := .starting, autorun := false, imageValid := false, strap1 := strap1, strap0 := strap0 }

/-- RESET (R18, R158): both straps have levels, and the lines of the doors keep theirs. -/
def execReset (strap1 strap0 : Bool) (s : State) : Result :=
  let s' := s.withStored Stored.builtIn
  finish
    { s' with
      part := s.part.starting strap1 strap0
      store := s.store.abandoned
      duty := Table.fill 64 0
      calendar := Calendar.atReset Stored.builtIn
      doors := { s'.doors with lines := s.doors.lines.map fun l => { l with timing := none } } }

/-- The bit rate that the straps choose (Table 10-2). -/
def strapRate (strap1 strap0 : Bool) : BitRate :=
  match strap1, strap0 with
  | false, false => .b19200
  | false, true => .b57600
  | true, false => .b115200
  | true, true => .b230400

/-! ### START and STOP (R19, R160, R161) -/

/-- The Budget Unit at START (R148). -/
def Budget.start (b : Budget) : Budget := { b with rotation := Timer.start b.period, stagger := none }

/-- Every block takes START, the part being in RUN (R160). -/
def State.startBlocks (s : State) : State :=
  let s := s.startCalendar
  let s := { s with budget := s.budget.start }
  s.startReadings.startDoors.startAir.startHeat.startLight

/-- START (R160). -/
def execStart (s : State) : Result :=
  request .start (fun s =>
    if s.running then refuse .wrongState s
    else accept (State.startBlocks { s with part := { s.part with op := .run } })) s

/-- Every block takes STOP; notices and BOUNDARY reports on the way are dropped (R161). -/
def State.stopBlocks (s : State) : State :=
  let p := s.calendar.defaultProfile
  { s with
    loads := s.loads.map fun l => Load.atRest l.defn
    calendar := s.calendar.stop
    doors := s.doors.stop
    readings := s.readings.stop
    air := s.air.stop
    heat := s.heat.stop p
    light := Light.atRest p
    budget := Budget.atRest (s.calendar.profiles.get p) s.budget.period
    drafts := []
    inFlight := [] }

/-- STOP (R161). -/
def execStop (s : State) : Result :=
  request .stop (fun s =>
    if s.running then accept (State.stopBlocks { s with part := { s.part with op := .configure } })
    else refuse .wrongState s) s

/-- The part at the end of STARTING (R158). -/
def Part.started (image : Option Stored) (p : Part) : Part :=
  let autorun := (image.map fun c => c.autorun).getD Stored.builtIn.autorun
  { p with
    op := if autorun then .run else .configure
    bitRate := strapRate p.strap1 p.strap0
    autorun := autorun
    imageValid := image.isSome }

/-- Supervision starts (R154, R157). -/
def Link.supervise (l : Link) : Link := { l with supervision := .up, idle := Timer.start l.settings.idle, probes := 0 }

/-- STARTING ends: image and straps have been read, and the part enters CONFIGURE or RUN (R158). -/
def State.started (s : State) : State :=
  let image := s.store.image.contents?
  let s := s.withStored (image.getD Stored.builtIn)
  { s with part := s.part.started image, doors := s.doors.takeLines, link := s.link.supervise }

/-- The blocks take their start where the part has entered RUN. -/
def State.startIfRunning (s : State) : State := if s.running then s.startBlocks else s

/-- The READY report (R158). -/
def State.readyReport (s : State) : Body := .ready Config.revision s.part.imageValid s.part.op

/-- STARTING_END (R158). -/
def execStartingEnd (s : State) : Result :=
  finish
    (if s.part.op = .starting then
       let s' := s.started.startIfRunning
       s'.raise s'.readyReport
     else s)

/-! ### Part-wide settings (R162) -/

/-- SET_AUTORUN (R162). -/
def execSetAutorun (value : Nat) (s : State) : Result :=
  request (.setAutorun value) (fun s =>
    match flag? value with
    | none => refuse .badField s
    | some b => accept { s with part := { s.part with autorun := b } }) s

/-- PART_STATUS (R162). -/
def execPartStatus (s : State) : Result := request .partStatus (fun s => report (partRecord s.part) s) s

end Sys2Proof.Machine
end

