-- ==== Sys2Proof/Machine/Time.lean ====
section
/-! DEFINITION. What an idle part does (assumption log, entry 5): the expiries that are due, and the passing of a tenth
of a second at the clock, the timers and the timed door input lines. -/

namespace Sys2Proof.Machine

/-! ### What is due -/

/-- The first of some identifiers that passes a test, as the command made of it. -/
def firstDue {n : Nat} (test : Fin n → Bool) (c : Fin n → Instr) : Option Instr := ((List.finRange n).find? test).map c

/-- A command, where a test holds. -/
def dueIf (b : Bool) (c : Instr) : Option Instr := if b then some c else none

/-- A timed cap's minutes have reached 0 (R135). -/
def Budget.capDue (b : Budget) : Bool :=
  match b.cap with
  | some ⟨_, .minutes 0⟩ => true
  | _ => false

/-- The sample clock has run its 10 seconds (R90). -/
def Air.sampleDue (a : Air) : Bool := a.clock.any fun c => Timer.due c.left

/-- The expiries that are due at the Door, Reading, Air and Heat Units, in that order. -/
def State.unitsDue (s : State) : List (Option Instr) :=
  [firstDue (fun n => (s.doors.lines.get n).settlesAt s.doors.filter) .settledChange,
   firstDue (fun n => Timer.due (s.doors.doors.get n).dwell) .dwellTimerExpiry,
   firstDue (fun n => Timer.due (s.readings.sensors.get n).quiet) .quietTimerExpiry,
   firstDue (fun n => Timer.due (s.readings.sensors.get n).due) .dueTimerExpiry,
   dueIf s.air.sampleDue .sampleExpiry,
   firstDue (fun z => Timer.due (s.air.zones.get z).hold) .exhaustStageHoldExpiry,
   firstDue (fun z => Timer.due (s.heat.zones.get z).hold) .heatStageHoldExpiry]

/-- The expiries that are due at the Budget and Link Units. -/
def State.siteDue (s : State) : List (Option Instr) :=
  [dueIf s.budget.capDue .capExpiry,
   dueIf (Timer.due s.budget.rotation) .shedRotationExpiry,
   dueIf (Timer.due s.budget.stagger) .staggerExpiry,
   firstDue (fun n => Timer.due (s.loads.get n).minOff) .minOffExpiry,
   dueIf (Timer.due s.link.idle) .idleTimerExpiry,
   dueIf (Timer.due s.link.interval) .intervalTimerExpiry]

/-- The request handed to its block, where requests are taken. -/
def State.handedDue (s : State) : Option Instr := if s.takesRequests then s.link.handed else none

/-- What the part does next of its own accord: the request handed to a block, else the notice given first, else an
expiry that is due. -/
def State.waiting (s : State) : Option Instr :=
  ([s.handedDue, s.inFlight.head?.map fun f => f.notice] ++ s.unitsDue ++ s.siteDue).findSome? fun o => o

/-! ### A tenth of a second passes -/

/-- A timed line has differed for another tenth. -/
def Line.tenth (l : Line) : Line := { l with timing := l.timing.map (· + 1) }

/-- A tenth passes at the Door Unit (R54, R63). -/
def Doors.tenth (ds : Doors) : Doors :=
  { ds with
    doors := ds.doors.map fun d => { d with dwell := Timer.countDown d.dwell }
    lines := ds.lines.map Line.tenth }

/-- A tenth passes at the Reading Unit (R80, R82). -/
def Readings.tenth (r : Readings) : Readings :=
  { r with sensors := r.sensors.map fun n =>
      { n with quiet := Timer.countDown n.quiet, due := Timer.countDown n.due } }

/-- A tenth passes at the Air Unit (R90, R100). -/
def Air.tenth (a : Air) : Air :=
  { a with
    zones := a.zones.map fun z => { z with hold := Timer.countDown z.hold }
    clock := a.clock.map fun c => { c with left := Timer.countDown c.left } }

/-- A tenth passes at the Heat Unit (R119). -/
def Heat.tenth (h : Heat) : Heat :=
  { h with zones := h.zones.map fun z => { z with hold := Timer.countDown z.hold } }

/-- A tenth passes at the Budget Unit (R142, R144). -/
def Budget.tenth (b : Budget) : Budget :=
  { b with rotation := Timer.countDown b.rotation, stagger := Timer.countDown b.stagger }

/-- A tenth passes at the Link Unit (R154). -/
def Link.tenth (l : Link) : Link := { l with idle := Timer.countDown l.idle, interval := Timer.countDown l.interval }

/-- A tenth passes at every timer of the part. -/
def State.timersTenth (s : State) : State :=
  { s with
    loads := s.loads.map fun l => { l with minOff := Timer.countDown l.minOff }
    doors := s.doors.tenth
    readings := s.readings.tenth
    air := s.air.tenth
    heat := s.heat.tenth
    budget := s.budget.tenth
    link := s.link.tenth }

/-- A tenth passes at the clock, which may thereby reach a new minute (R20). -/
def State.clockTenth (s : State) : State :=
  let c := s.calendar
  if c.tenth < 9 then s.withCalendar { c with tenth := c.tenth + 1 }
  else if (c.second + 1) % 60 = 0 then s.nextMinute
  else s.withCalendar { c with second := c.second + 1, tenth := 0 }

/-- A tenth of a second passes. -/
def State.tick (s : State) : State := s.timersTenth.clockTenth.settle

end Sys2Proof.Machine
end

