-- ==== Sys2Proof/Machine/Dispatch.lean ====
section
/-! DEFINITION. The dispatch: one arm for each command. -/

namespace Sys2Proof.Machine

def exec (i : Instr) (s : State) : Host.Outcome State Fault Refusal :=
  match i with
  | .reset strap1 strap0 => Sys2Proof.Machine.execReset strap1 strap0 s
  | .startingEnd => Sys2Proof.Machine.execStartingEnd s
  | .frameComplete frame => Sys2Proof.Machine.execFrameComplete frame s
  | .receiveSilence => Sys2Proof.Machine.execReceiveSilence s
  | .noStopBitCharacter => Sys2Proof.Machine.execNoStopBitCharacter s
  | .transmitEnd => Sys2Proof.Machine.execTransmitEnd s
  | .idleTimerExpiry => Sys2Proof.Machine.execIdleTimerExpiry s
  | .intervalTimerExpiry => Sys2Proof.Machine.execIntervalTimerExpiry s
  | .partStatus => Sys2Proof.Machine.execPartStatus s
  | .start => Sys2Proof.Machine.execStart s
  | .stop => Sys2Proof.Machine.execStop s
  | .store => Sys2Proof.Machine.execStore s
  | .storeWriteEnd verified => Sys2Proof.Machine.execStoreWriteEnd verified s
  | .setAutorun value => Sys2Proof.Machine.execSetAutorun value s
  | .mask value => Sys2Proof.Machine.execMask value s
  | .setLink idle interval count retention => Sys2Proof.Machine.execSetLink idle interval count retention s
  | .defZone zone kind => Sys2Proof.Machine.execDefZone zone kind s
  | .zoneStatus zone => Sys2Proof.Machine.execZoneStatus zone s
  | .defLoad fields => Sys2Proof.Machine.execDefLoad fields s
  | .loadStatus load => Sys2Proof.Machine.execLoadStatus load s
  | .setTime day second => Sys2Proof.Machine.execSetTime day second s
  | .defProfile fields => Sys2Proof.Machine.execDefProfile fields s
  | .setCalendar profile => Sys2Proof.Machine.execSetCalendar profile s
  | .planRow row fields => Sys2Proof.Machine.execPlanRow row fields s
  | .planCommit => Sys2Proof.Machine.execPlanCommit s
  | .planWithdraw => Sys2Proof.Machine.execPlanWithdraw s
  | .planAnchor day minute => Sys2Proof.Machine.execPlanAnchor day minute s
  | .override profile duration zones => Sys2Proof.Machine.execOverride profile duration zones s
  | .overrideEnd zones => Sys2Proof.Machine.execOverrideEnd zones s
  | .calendarStatus => Sys2Proof.Machine.execCalendarStatus s
  | .planRead table row => Sys2Proof.Machine.execPlanRead table row s
  | .profileRead profile => Sys2Proof.Machine.execProfileRead profile s
  | .setDoors filter => Sys2Proof.Machine.execSetDoors filter s
  | .defDoor fields => Sys2Proof.Machine.execDefDoor fields s
  | .ackDoor door => Sys2Proof.Machine.execAckDoor door s
  | .doorStatus door => Sys2Proof.Machine.execDoorStatus door s
  | .defSensor sensor kind zone => Sys2Proof.Machine.execDefSensor sensor kind zone s
  | .setSensing gasQuiet otherQuiet dueInterval dueCount => Sys2Proof.Machine.execSetSensing gasQuiet otherQuiet dueInterval dueCount s
  | .reading sensor value => Sys2Proof.Machine.execReading sensor value s
  | .sensorStatus sensor => Sys2Proof.Machine.execSensorStatus sensor s
  | .setAir coShort coShift no2Short no2Shift hold => Sys2Proof.Machine.execSetAir coShort coShift no2Short no2Shift hold s
  | .setHeat floor rate hold => Sys2Proof.Machine.execSetHeat floor rate hold s
  | .cap value duration => Sys2Proof.Machine.execCap value duration s
  | .capEnd => Sys2Proof.Machine.execCapEnd s
  | .setBudget period => Sys2Proof.Machine.execSetBudget period s
  | .budgetStatus => Sys2Proof.Machine.execBudgetStatus s
  | .minuteExpiry => Sys2Proof.Machine.execMinuteExpiry s
  | .shiftEnd => Sys2Proof.Machine.execShiftEnd s
  | .overrideExpiry zone => Sys2Proof.Machine.execOverrideExpiry zone s
  | .doorInputChange line high => Sys2Proof.Machine.execDoorInputChange line high s
  | .settledChange line => Sys2Proof.Machine.execSettledChange line s
  | .dwellTimerExpiry door => Sys2Proof.Machine.execDwellTimerExpiry door s
  | .doorShiftBoundary => Sys2Proof.Machine.execDoorShiftBoundary s
  | .quietTimerExpiry sensor => Sys2Proof.Machine.execQuietTimerExpiry sensor s
  | .dueTimerExpiry sensor => Sys2Proof.Machine.execDueTimerExpiry sensor s
  | .sampleExpiry => Sys2Proof.Machine.execSampleExpiry s
  | .exhaustStageHoldExpiry zone => Sys2Proof.Machine.execExhaustStageHoldExpiry zone s
  | .heldValueNotice zone gas value => Sys2Proof.Machine.execHeldValueNotice zone gas value s
  | .airSubstituteFlagNotice zone gas flag => Sys2Proof.Machine.execAirSubstituteFlagNotice zone gas flag s
  | .airOpenUnsealedCountNotice zone count => Sys2Proof.Machine.execAirOpenUnsealedCountNotice zone count s
  | .airProfileChangeNotice zone profile => Sys2Proof.Machine.execAirProfileChangeNotice zone profile s
  | .airMinuteExpiryNotice => Sys2Proof.Machine.execAirMinuteExpiryNotice s
  | .purgeExpiry zone => Sys2Proof.Machine.execPurgeExpiry zone s
  | .airShiftBoundary => Sys2Proof.Machine.execAirShiftBoundary s
  | .zoneTemperatureNotice zone value => Sys2Proof.Machine.execZoneTemperatureNotice zone value s
  | .holdDownFlagNotice zone flag => Sys2Proof.Machine.execHoldDownFlagNotice zone flag s
  | .heatOpenUnsealedCountNotice zone count => Sys2Proof.Machine.execHeatOpenUnsealedCountNotice zone count s
  | .heatProfileChangeNotice zone profile => Sys2Proof.Machine.execHeatProfileChangeNotice zone profile s
  | .lookaheadNotice lookahead => Sys2Proof.Machine.execLookaheadNotice lookahead s
  | .heatShiftBoundary => Sys2Proof.Machine.execHeatShiftBoundary s
  | .heatStageHoldExpiry zone => Sys2Proof.Machine.execHeatStageHoldExpiry zone s
  | .lightProfileChangeNotice zone profile => Sys2Proof.Machine.execLightProfileChangeNotice zone profile s
  | .zoneLuxNotice zone lux => Sys2Proof.Machine.execZoneLuxNotice zone lux s
  | .dockLightNotice door isSealed => Sys2Proof.Machine.execDockLightNotice door isSealed s
  | .exhaustNotice zone stage requests => Sys2Proof.Machine.execExhaustNotice zone stage requests s
  | .heatNotice zone cold frost requests => Sys2Proof.Machine.execHeatNotice zone cold frost requests s
  | .lightNotice zone floor requests => Sys2Proof.Machine.execLightNotice zone floor requests s
  | .curtainRequestNotice load request => Sys2Proof.Machine.execCurtainRequestNotice load request s
  | .budgetSubstituteFlagNotice zone gas flag => Sys2Proof.Machine.execBudgetSubstituteFlagNotice zone gas flag s
  | .siteProfileNotice budget mode => Sys2Proof.Machine.execSiteProfileNotice budget mode s
  | .capExpiry => Sys2Proof.Machine.execCapExpiry s
  | .shedRotationExpiry => Sys2Proof.Machine.execShedRotationExpiry s
  | .staggerExpiry => Sys2Proof.Machine.execStaggerExpiry s
  | .minOffExpiry load => Sys2Proof.Machine.execMinOffExpiry load s
  | .characterReceived char => Sys2Proof.Machine.execCharacterReceived char s
  | .pulsePeriodStart line => Sys2Proof.Machine.execPulsePeriodStart line s

end Sys2Proof.Machine
end

