-- ==== Sys2Proof/Machine/Step.lean ====
section
/-! DEFINITION. The step: the command at the front of the queue, or what an idle part does. -/

namespace Sys2Proof.Machine

/-- With the queue empty the part goes on by itself: it takes what waits to be taken, or a tenth of a second passes
(DESIGN CHOICE, assumption log, entry 5). -/
def idle (s : State) : Host.Outcome State Fault Refusal :=
  match s.waiting with
  | some c => exec c s
  | none => .next s.tick

/-- The step takes the command at the front of the queue and answers its outcome on the queue's rest. -/
def step (s : State) : Host.Outcome State Fault Refusal :=
  match s.pending with
  | c :: rest => exec c { s with pending := rest }
  | [] => idle s

/-- The command that a table word spells, put at the front of the queue; a word that spells none changes nothing. -/
def State.withFetchWord (s : State) (nbits w : Nat) : State :=
  match decodeTableWord nbits w with
  | some c => { s with pending := c :: s.pending }
  | none => s

end Sys2Proof.Machine
end

