-- ==== Sys2Proof/Safety.lean ====
section
/-! DEFINITION. The words in which claims about the part are made: what a command leaves unchanged, what a reply says,
and the invariants of the units. -/

namespace Sys2Proof.Machine

/-! ### Frames -/

/-- The parts of the state that a frame speaks of. -/
inductive Region where
  | part | store | zones | loads | duty | calendar | doors | readings | air | heat | light | budget | link | drafts
  | inFlight | choices | pending
deriving DecidableEq, Repr

/-- A part of the state is the same in two states. -/
def State.same (s t : State) : Region → Prop
  | .part => t.part = s.part
  | .store => t.store = s.store
  | .zones => t.zones = s.zones
  | .loads => t.loads = s.loads
  | .duty => t.duty = s.duty
  | .calendar => t.calendar = s.calendar
  | .doors => t.doors = s.doors
  | .readings => t.readings = s.readings
  | .air => t.air = s.air
  | .heat => t.heat = s.heat
  | .light => t.light = s.light
  | .budget => t.budget = s.budget
  | .link => t.link = s.link
  | .drafts => t.drafts = s.drafts
  | .inFlight => t.inFlight = s.inFlight
  | .choices => t.choices = s.choices
  | .pending => t.pending = s.pending

/-- From one state to another nothing changes outside some parts of the state. -/
def State.onlyChanges (s t : State) (changed : List Region) : Prop := ∀ r, r ∉ changed → s.same t r

/-- The transmitter has made its choice (R152, R155): outside STARTING a free transmitter stands before no reply, and,
unless it waits for the reply to a request that is handed to its block (assumption log, entry 4), before no PROBE and,
but in LOST, before no report. Every step leaves the part so. -/
def State.settled (s : State) : Prop :=
  s.part.op ≠ .starting → s.link.sending = none →
    s.link.reply = none
    ∧ (s.link.handed = none → s.link.probe = none ∧ (s.link.supervision ≠ .lost → s.link.reports = []))

/-- What a free transmitter chooses (R152, R155): the pending reply, then the pending PROBE, then the oldest report, with
the gap mark, but none in LOST. It waits for a reply that is formed at once (assumption log, entry 4). -/
def Link.chosen (l : Link) : Link :=
  match l.reply, l.handed, l.probe, l.reports with
  | some r, _, _, _ => { l with sending := some (.reply r), reply := none }
  | none, some _, _, _ => l
  | none, none, some p, _ => { l with sending := some (.probe p), probe := none }
  | none, none, none, [] => l
  | none, none, none, r :: rs =>
    if l.supervision = .lost then l
    else { l with sending := some (.report r l.gap), reports := rs, gap := false }

/-! ### Replies (R151, R166) -/

/-- The payload length that a request's kind asks for: a fixed one, or a fixed part that ends with the zone count, and a
byte for each zone. -/
inductive PayloadLength where
  | fixed (n : Nat)
  | counted (n : Nat)
deriving DecidableEq, Repr

/-- The lengths of the requests, kind by kind (Table 11-3). -/
def requestLengths : List (Byte × PayloadLength) :=
  [(0x01, .fixed 0), (0x02, .fixed 0), (0x03, .fixed 0), (0x04, .fixed 0), (0x05, .fixed 1), (0x06, .fixed 1),
    (0x07, .fixed 5), (0x10, .fixed 2), (0x11, .fixed 1), (0x12, .fixed 18), (0x13, .fixed 1), (0x18, .fixed 6),
    (0x19, .fixed 13), (0x1A, .fixed 1), (0x1B, .fixed 7), (0x1C, .fixed 0), (0x1D, .fixed 0), (0x1E, .fixed 4),
    (0x1F, .counted 4), (0x20, .counted 1), (0x21, .fixed 0), (0x22, .fixed 2), (0x23, .fixed 1), (0x28, .fixed 1),
    (0x29, .fixed 8), (0x2A, .fixed 1), (0x2B, .fixed 1), (0x30, .fixed 3), (0x31, .fixed 7), (0x32, .fixed 3),
    (0x33, .fixed 1), (0x38, .fixed 8), (0x39, .fixed 4), (0x3A, .fixed 4), (0x3B, .fixed 0), (0x3C, .fixed 2),
    (0x3D, .fixed 0)]

/-- A payload has the length that its request asks for (R165). -/
def PayloadLength.fits (payload : List Byte) : PayloadLength → Prop
  | .fixed n => payload.length = n
  | .counted n => ∃ count, payload[n - 1]? = some count ∧ payload.length = n + count.toNat

/-- A frame comes into service (R151): it is answered at once, or its request is handed to its block. -/
def Link.takesUp (f : Frame) (l : Link) : Link :=
  match decodeRequest f.kind f.payload with
  | .unknownKind => { l with reply := some ⟨f.kind + 0x40, .unknownKind, l.overrun, [], true⟩, overrun := false }
  | .badLength => { l with reply := some ⟨f.kind + 0x40, .badLength, l.overrun, [], true⟩, overrun := false }
  | .request c => { l with handed := some c }

/-- The reply that is formed: pending, or already being sent. -/
def Link.answered (l : Link) : Option Reply :=
  match l.reply, l.sending with
  | some r, _ => some r
  | none, some (.reply r) => some r
  | none, _ => none

/-- The reply to a request, with the overrun mark as it stood (R150, R166). -/
def replyTo (c : Instr) (st : Status) (fields : List Byte) (b : State) : Reply :=
  { kind := requestKind c + 0x40, status := st, overrun := b.link.overrun, fields := fields, answers := b.inService c }

/-- A request is answered, on top of a state that has its effects: the reply is formed, the overrun mark is carried and
cleared, and the Link Unit is otherwise as it was. The reply waits behind a frame that is being sent, which is sent
whole; a free transmitter sends it at once (R152). -/
structure Replied (c : Instr) (st : Status) (fields : List Byte) (b t : State) : Prop where
  reply : t.link.answered = some (replyTo c st fields b)
  busy : ∀ x, b.link.sending = some x → t.link.sending = some x ∧ t.link.reply = some (replyTo c st fields b)
  free : b.link.sending = none → t.link.sending = some (.reply (replyTo c st fields b)) ∧ t.link.reply = none
  overrun : t.link.overrun = false
  handed : t.link.handed = if b.inService c then none else b.link.handed
  receiver : t.link.receiver = b.link.receiver
  buffer : t.link.buffer = b.link.buffer
  reports : t.link.reports = b.link.reports
  gap : t.link.gap = b.link.gap
  mask : t.link.mask = b.link.mask
  supervision : t.link.supervision = b.link.supervision
  idle : t.link.idle = b.link.idle
  interval : t.link.interval = b.link.interval
  probes : t.link.probes = b.link.probes
  probe : t.link.probe = b.link.probe
  settings : t.link.settings = b.link.settings

/-- A request completes: its effects lead from one state to another, on which its reply is formed. -/
def Completes (c : Instr) (st : Status) (fields : List Byte) (s b : State) : Prop :=
  ∃ t, exec c s = .next t ∧ Replied c st fields b t ∧ b.onlyChanges t [.link]

/-- A request is answered, and nothing else changes. -/
def AnswersOnly (c : Instr) (st : Status) (fields : List Byte) (s : State) : Prop := Completes c st fields s s

/-- A request completes on a state that differs from the one before in some parts alone, and of which some facts hold. -/
def CompletesWith (c : Instr) (st : Status) (fields : List Byte) (s : State) (changed : List Region)
    (facts : State → Prop) : Prop :=
  ∃ b, Completes c st fields s b ∧ s.onlyChanges b changed ∧ facts b

/-- An event leads to a next state: before the transmitter's choice it differs from the one before in some parts alone,
and some facts hold of it. -/
def LeadsTo (c : Instr) (s : State) (changed : List Region) (facts : State → Prop) : Prop :=
  ∃ b, exec c s = .next b.settle ∧ s.onlyChanges b changed ∧ facts b

/-! ### Commands and characters -/

/-- The state that a command leads to. -/
def State.command (s : State) (c : Instr) : State :=
  match exec c s with
  | .next t => t
  | _ => s

/-- A character is received. -/
def State.receive (s : State) (c : Byte) : State := s.command (.characterReceived c)

/-- Characters are received one after the other. -/
def State.receiveAll (s : State) (l : List Byte) : State := l.foldl State.receive s

/-! ### Notices -/

/-- The notices that an event gives, behind those already in flight. -/
def State.given (s t : State) (cs : List Instr) : Prop :=
  t.inFlight.map (·.notice) = s.inFlight.map (·.notice) ++ cs

/-- The same, where the notices of the event stand in no order among themselves. -/
def State.gives (s t : State) (cs : List Instr) : Prop := ∃ ds : List Instr, ds.Perm cs ∧ s.given t ds

/-- Some notices, where a condition holds. -/
def noticeIf (p : Prop) [Decidable p] (cs : List Instr) : List Instr := if p then cs else []

/-- The requests of the loads of a type in a zone, in load order, each as its definition says. -/
def State.requestsIn (s : State) (t : LoadType) (z : Zone) (r : LoadDef → Nat) : List (LoadNo × Nat) :=
  (List.finRange 64).filterMap fun n =>
    match (s.loads.get n).defn with
    | some f => if f.type = t ∧ f.zone = z then some (n, r f) else none
    | none => none

/-- The defined zones. -/
def State.zonesDefined (s : State) : List Zone := (List.finRange 12).filter fun z => s.zones.get z ≠ .undefined

/-! ### An idle part (assumption log, entry 5) -/

/-- A running timer after another tenth of a second. -/
def tenthLater : Timer → Timer
  | some n => some (n - 1)
  | none => none

/-- The commands of those numbers at which something holds, the lowest number first. -/
def whereTrue {n : Nat} (p : Fin n → Prop) [DecidablePred p] (c : Fin n → Instr) : List Instr :=
  ((List.finRange n).filter fun k => p k).map c

/-- The expiries whose time has run out, in the order in which an idle part takes them: settled changes of lines that
have differed for the filter time (R54), dwell (R63), quiet and due timers (R80, R82), the sample clock (R90), stage
holds (R100, R119), the demand cap (R135), shed rotation (R142), stagger and minimum off times (R144), and the timers of
supervision (R154). -/
def State.expiries (s : State) : List Instr :=
  let out (t : Timer) : Prop := t = some 0
  let line (n : LineNo) : Prop :=
    let l := s.doors.lines.get n
    l.high ≠ l.settled ∧ ∃ k ∈ l.timing, s.doors.filter ≤ k
  whereTrue line .settledChange
  ++ whereTrue (fun n => out (s.doors.doors.get n).dwell) .dwellTimerExpiry
  ++ whereTrue (fun n => out (s.readings.sensors.get n).quiet) .quietTimerExpiry
  ++ whereTrue (fun n => out (s.readings.sensors.get n).due) .dueTimerExpiry
  ++ noticeIf (∃ c ∈ s.air.clock, out c.left) [.sampleExpiry]
  ++ whereTrue (fun z => out (s.air.zones.get z).hold) .exhaustStageHoldExpiry
  ++ whereTrue (fun z => out (s.heat.zones.get z).hold) .heatStageHoldExpiry
  ++ noticeIf (∃ c ∈ s.budget.cap, c.span = .minutes 0) [.capExpiry]
  ++ noticeIf (out s.budget.rotation) [.shedRotationExpiry]
  ++ noticeIf (out s.budget.stagger) [.staggerExpiry]
  ++ whereTrue (fun n => out (s.loads.get n).minOff) .minOffExpiry
  ++ noticeIf (out s.link.idle) [.idleTimerExpiry]
  ++ noticeIf (out s.link.interval) [.intervalTimerExpiry]

/-- Every timer of the part has run for another tenth, and every line that differs has differed for one more. -/
def State.timersRun (s : State) : State :=
  { s with
    loads := s.loads.map fun l => { l with minOff := tenthLater l.minOff }
    doors :=
      { doors := s.doors.doors.map fun d => { d with dwell := tenthLater d.dwell }
        lines := s.doors.lines.map fun l => { l with timing := l.timing.map fun k => k + 1 }
        filter := s.doors.filter }
    readings :=
      { sensors := s.readings.sensors.map fun n =>
          { n with quiet := tenthLater n.quiet, due := tenthLater n.due }
        settings := s.readings.settings }
    air :=
      { zones := s.air.zones.map fun z => { z with hold := tenthLater z.hold }
        settings := s.air.settings
        clock := s.air.clock.map fun c => { c with left := tenthLater c.left } }
    heat := { s.heat with zones := s.heat.zones.map fun z => { z with hold := tenthLater z.hold } }
    budget := { s.budget with rotation := tenthLater s.budget.rotation, stagger := tenthLater s.budget.stagger }
    link := { s.link with idle := tenthLater s.link.idle, interval := tenthLater s.link.interval } }

/-! ### Rotation tables (R27, R34, R37) -/

/-- The rows that take part: up to the last that is not EMPTY (R27). -/
def partRows (t : Table 24 Row) : List Row := t.entries.rdropWhile (· = .empty)

/-- How many of some rows are REPEAT rows. -/
def repeats (rows : List Row) : Nat := rows.countP fun r => match r with | .repeatGroup _ => true | _ => false

/-- How many of some rows are END rows. -/
def ends (rows : List Row) : Nat := rows.countP fun r => match r with | .endGroup => true | _ => false

/-- The first `m` rows after row `i`. -/
def rowsAfter (rows : List Row) (i m : Nat) : List Row := (rows.drop (i + 1)).take m

/-- Row `k` stands in the group that row `i` opens: no END between them closes it. -/
def encloses (rows : List Row) (i k : Nat) : Bool :=
  decide (i < k) && (List.range (k - i)).all fun m => decide (ends (rowsAfter rows i m) ≤ repeats (rowsAfter rows i m))

/-- The END at row `j` closes the group that row `i` opens. -/
def closes (rows : List Row) (i j : Nat) : Prop :=
  encloses rows i j = true ∧ rows[j]? = some .endGroup
  ∧ ends (rowsAfter rows i (j - i - 1)) = repeats (rowsAfter rows i (j - i - 1))

/-- The minutes of one unrolled pass (R27): each SHIFT row's length times the counts of the groups that enclose it. -/
def unrolledMinutes (rows : List Row) : Nat :=
  ((List.range rows.length).map fun k =>
    match rows[k]? with
    | some (.shift _ n _) =>
      n * ((List.range rows.length).map fun i =>
        match rows[i]? with
        | some (.repeatGroup c) => if encloses rows i k then c else 1
        | _ => 1).prod
    | _ => 0).sum

/-- From the beginning of a shift, with some minutes still to be used, a placement arrives at a cursor (R37): the first
shift on the walk that is longer than what is then still to be used. -/
inductive Placed (t : Table 24 Row) : Cursor → Nat → Cursor → Prop where
  | stops {row length stack use} : use < length →
      Placed t (.inShift row length stack) use (.inShift row (length - use) stack)
  | uses {row length stack use next x} : length ≤ use → walk t (row + 1) stack = some next →
      Placed t next (use - length) x → Placed t (.inShift row length stack) use x

/-- A table that passes validation, its rows in the ranges of Table 2-2. -/
def ValidTable (t : Table 24 Row) : Prop :=
  planDetail t = none
  ∧ (∀ p n crew, .shift p n crew ∈ t.entries → 1 ≤ n ∧ n ≤ 1440) ∧ ∀ n, .repeatGroup n ∈ t.entries → n ≤ 99

/-! ### The calendar (R33, R37, R38, R40 to R43, R47 to R49) -/

/-- The profiles in force and the site profile are those that overrides and cursor choose (R47, R49). -/
structure ProfilesHold (c : Calendar) : Prop where
  site : c.siteProfile =
    match c.cursor with
    | some (.inShift row _ _) =>
      match c.active.get? row with
      | some (.shift p _ _) => p
      | _ => c.defaultProfile
    | _ => c.defaultProfile
  inForce : ∀ z, c.inForce.get z =
    match c.overrides.get z with
    | some o => o.profile
    | none => c.siteProfile

/-- The site profile notice of a calendar (R49). -/
def siteNotice (c : Calendar) : Instr :=
  .siteProfileNotice (c.profiles.get c.siteProfile).budget (c.profiles.get c.siteProfile).mode

/-- The zones, defined, whose profile in force changes from one state to another. -/
def State.reprofiled (s b : State) : List Zone :=
  s.zonesDefined.filter fun z => s.calendar.inForce.get z ≠ b.calendar.inForce.get z

/-- The profiles in force and the site profile follow overrides and cursor (R47, R49); in RUN an event gives each
change of one, for the defined zones, to the Air, Heat and Light Units, and that of the site profile to the Budget Unit
(R48, R49), beside some other notices. Outside RUN it gives nothing. -/
structure ProfilesFollow (s b : State) (others : List Instr) : Prop where
  hold : ProfilesHold b.calendar
  quiet : s.part.op ≠ .run → b.inFlight = s.inFlight
  given : s.part.op = .run → s.gives b (others
    ++ (s.reprofiled b).flatMap (fun z =>
        let p := b.calendar.inForce.get z
        [.airProfileChangeNotice z p, .heatProfileChangeNotice z p, .lightProfileChangeNotice z p])
    ++ noticeIf (s.calendar.siteProfile ≠ b.calendar.siteProfile) [siteNotice b.calendar])

/-- The clock of a calendar is before an anchor (R37), both in seconds. -/
def Calendar.before (c : Calendar) (a : Anchor) : Prop := c.day * 86400 + c.second < a.day * 86400 + a.minute * 60

/-- A number of minutes is that of the lookahead (R42): until the shift ends, or, rounded up and at most 40320, until the
anchor. -/
def LookaheadMinutes (c : Calendar) (n : Nat) : Prop :=
  match c.cursor, c.anchor with
  | some (.inShift _ left _), _ => n = left
  | some .waiting, some a =>
    let ahead := a.day * 86400 + a.minute * 60 - (c.day * 86400 + c.second)
    if 40320 * 60 < ahead then n = 40320 else ahead ≤ 60 * n ∧ 60 * n < ahead + 60
  | _, _ => True

/-- The lookahead is as it is when taken afresh (R42): none without a cursor, and otherwise the profile of the SHIFT row
that comes next, in a committed table or after the current row, with its minutes. -/
structure LookaheadTaken (c : Calendar) : Prop where
  stopped : c.cursor = none → c.lookahead = none
  committed : c.cursor ≠ none → c.committed = true → ∀ row left stack,
    walk c.pendingTable 0 [] = some (.inShift row left stack) →
      c.lookahead.map (fun l => l.profile) = shiftProfile? c.pendingTable row
  waiting : c.cursor = some .waiting → c.committed = false → ∀ row left stack,
    walk c.active 0 [] = some (.inShift row left stack) →
      c.lookahead.map (fun l => l.profile) = shiftProfile? c.active row
  inShift : ∀ row left stack, c.cursor = some (.inShift row left stack) → c.committed = false →
    ∀ row' left' stack', walk c.active (row + 1) stack = some (.inShift row' left' stack') →
      c.lookahead.map (fun l => l.profile) = shiftProfile? c.active row'
  minutes : ∀ l, c.lookahead = some l → LookaheadMinutes c l.minutes

/-- A shift boundary (R32, R40, R41), from a calendar whose cursor has its new position: "until boundary" overrides end,
a committed table is adopted, with the boundary's day and minute as its anchor and the cursor at its first shift, the
profiles and the lookahead follow, the BOUNDARY report is begun and the other units are told, beside some notices of the
event that brings the boundary. -/
structure ShiftBegins (s : State) (c : Calendar) (b : State) (others : List Instr) : Prop where
  calendar : b.calendar =
    { c with
      active := if c.committed then c.pendingTable else c.active
      committed := false
      anchor := if c.committed then some ⟨c.day, c.second / 60⟩ else c.anchor
      cursor := if c.committed then walk c.pendingTable 0 [] else c.cursor
      overrides := b.calendar.overrides, lookahead := b.calendar.lookahead, inForce := b.calendar.inForce
      siteProfile := b.calendar.siteProfile }
  overrides : ∀ z, b.calendar.overrides.get z =
    match c.overrides.get z with
    | some ⟨p, .minutes n⟩ => some ⟨p, .minutes n⟩
    | _ => none
  profiles : ProfilesFollow s b (others
    ++ [.airShiftBoundary, .heatShiftBoundary, .doorShiftBoundary, .lookaheadNotice b.calendar.lookahead])
  lookahead : LookaheadTaken b.calendar
  report : ∃ d : Draft, b.drafts = s.drafts ++ [d] ∧ d.air = none ∧ d.doors = none
    ∧ d.adopted = (if c.committed then b.calendar.anchor else none)
    ∧ d.head.day = c.day ∧ d.head.minute = c.second / 60 ∧ d.head.profile = b.calendar.siteProfile
    ∧ (∀ row left stack, b.calendar.cursor = some (.inShift row left stack) → d.head.row = some row
        ∧ ∀ p n crew, b.calendar.active.get? row = some (.shift p n crew) → d.head.crew = crew)
    ∧ (b.calendar.cursor = some .waiting → d.head.row = none ∧ d.head.crew = 0)

/-- The cursor that a resync places (R37): waiting before the anchor, and else by the minutes elapsed since it. -/
def PlacedAt (c : Calendar) (x : Cursor) : Prop :=
  ∃ a, c.anchor = some a ∧ (c.before a → x = .waiting)
    ∧ (¬c.before a → place c.active ((c.day * 86400 + c.second - (a.day * 86400 + a.minute * 60)) / 60) = some x)

/-- Two cursors stand at one position (R33): both wait, or row and loop stack are the same. -/
def SamePosition (x y : Cursor) : Prop :=
  (x = .waiting ∧ y = .waiting) ∨ ∃ row left left' stack, x = .inShift row left stack ∧ y = .inShift row left' stack

/-- A resync of a calendar (R38): it starts a rotation or corrects the minutes alone, with the profiles and the
lookahead that follow; or, at another position than the cursor's, it is a shift boundary. -/
def Resynced (s : State) (c : Calendar) (b : State) : Prop :=
  ∀ x, PlacedAt c x →
    let stays : Prop := c.cursor = none ∨ ∃ y, c.cursor = some y ∧ SamePosition y x
    (stays →
      b.calendar =
        { c with
          cursor := some x, lookahead := b.calendar.lookahead, inForce := b.calendar.inForce
          siteProfile := b.calendar.siteProfile }
      ∧ LookaheadTaken b.calendar ∧ ProfilesFollow s b [.lookaheadNotice b.calendar.lookahead] ∧ b.drafts = s.drafts)
    ∧ (¬stays → ShiftBegins s { c with cursor := some x } b [])

/-- A rotation can run in RUN (R33): the time is known, the anchor set, and a row of the active table is not EMPTY. -/
def CanRotate (c : Calendar) : Prop := c.unknown = false ∧ c.anchor ≠ none ∧ ∃ r, c.active.get r ≠ .empty

/-! ### Doors (R68 to R70) -/

/-- The values of the Door Unit are those of R68 and R69: of each zone the number of its doors in OPEN or DWELL, and
whether one is in DWELL; of each CURTAIN load whether its door is in OPEN or DWELL; of each door whether it is in
SEALED. -/
structure DoorValuesHold (d : Doors) : Prop where
  openUnsealed : ∀ z, d.openUnsealed z = ((List.finRange 32).filter fun n =>
    ((d.doors.get n).defn.map fun f => f.zone) = some z
      ∧ ((d.doors.get n).state = .opened ∨ (d.doors.get n).state = .dwell)).length
  holdDown : ∀ z, d.holdDown z = true ↔
    ∃ n f, (d.doors.get n).defn = some f ∧ f.zone = z ∧ (d.doors.get n).state = .dwell
  curtain : ∀ (f : LoadDef) (n : DoorNo), f.type = .curtain → f.door = some n →
    d.curtainRequest (some f) =
      if (d.doors.get n).state = .opened ∨ (d.doors.get n).state = .dwell then 1 else 0
  dock : ∀ n, d.dockSealed n = true ↔ (d.doors.get n).state = .sealed

/-- The notices of the values of the Door Unit that an event changes (R70): hold-down flags to the Heat Unit,
open-unsealed counts to the Heat and Air Units, curtain requests of CURTAIN loads to the Budget Unit, and the dock-light
states of doors that have a LIGHT load to the Light Unit. -/
def State.doorNoticesDue (s b : State) : List Instr :=
  (List.finRange 12).flatMap (fun z =>
    noticeIf (s.doors.holdDown z ≠ b.doors.holdDown z) [.holdDownFlagNotice z (b.doors.holdDown z)]
    ++ noticeIf (s.doors.openUnsealed z ≠ b.doors.openUnsealed z)
        [.heatOpenUnsealedCountNotice z (b.doors.openUnsealed z), .airOpenUnsealedCountNotice z (b.doors.openUnsealed z)])
  ++ (List.finRange 64).flatMap (fun n =>
    let l := (s.loads.get n).defn
    noticeIf ((l.map fun f => f.type) = some .curtain ∧ s.doors.curtainRequest l ≠ b.doors.curtainRequest l)
      [.curtainRequestNotice n (b.doors.curtainRequest l)])
  ++ (List.finRange 32).flatMap fun d =>
    noticeIf ((∃ n, ((s.loads.get n).defn.map fun f => f.type) = some .light
        ∧ ((s.loads.get n).defn.bind fun f => f.door) = some d) ∧ s.doors.dockSealed d ≠ b.doors.dockSealed d)
      [.dockLightNotice d (b.doors.dockSealed d)]

/-- The values of the Door Unit that an event changes are given, each once to each unit that reads it, and nothing else
is (R70). -/
def DoorValuesGiven (s b : State) : Prop := s.gives b (s.doorNoticesDue b)

/-- A door evaluated silently from its contacts (R59, R74): CLOSED, OPEN with its dwell timer started, or SEALED. -/
def evaluatedDoor (ds : Doors) (n : DoorNo) (f : DoorDef) (d : Door) : Door :=
  { d with
    evaluated := true
    state :=
      if ds.openAsserted n = false then .closed else if ds.trailerAsserted n then .sealed else .opened
    dwell := if ds.openAsserted n = true ∧ ds.trailerAsserted n = false then Timer.start f.limit else none }

/-! ### Sensors (R84 to R86) -/

/-- The values of a zone's sensors of a kind that are in FRESH or QUIET. -/
def Readings.trustedValues (r : Readings) (k : SensorKind) (z : Zone) : List Int :=
  (List.finRange 40).filterMap fun n =>
    let x := r.sensors.get n
    if x.defn = some ⟨k, z⟩ ∧ (x.state = .fresh ∨ x.state = .quiet) then x.value else none

/-- A figure is the highest of some values. -/
def IsHighest (n : Nat) (l : List Int) : Prop := (n : Int) ∈ l ∧ ∀ v ∈ l, v ≤ n

/-- The zone figures of the Reading Unit are those of R84 and R85, no value of a gas or LUX sensor being negative: the
temperature the mean rounded down, held values and lux the highest, a gas monitored where it has a sensor, and its
substitute flag set where one is in AWAITING or LOST. -/
structure FiguresHold (r : Readings) : Prop where
  unknown : ∀ z, r.temperature z = none ↔ r.trustedValues .temp z = []
  mean : ∀ z t, r.temperature z = some t →
    let l := r.trustedValues .temp z
    t * l.length ≤ l.sum ∧ l.sum < (t + 1) * l.length
  dark : ∀ z, r.trustedValues .lux z = [] → r.lux z = 0
  lux : ∀ z, r.trustedValues .lux z ≠ [] → (∀ v ∈ r.trustedValues .lux z, 0 ≤ v) →
    IsHighest (r.lux z) (r.trustedValues .lux z)
  none : ∀ z g, r.held z g = none ↔ r.trustedValues (match g with | .co => .co | .no2 => .no2) z = []
  held : ∀ z g n, r.held z g = some n →
    let l := r.trustedValues (match g with | .co => .co | .no2 => .no2) z
    (∀ v ∈ l, 0 ≤ v) → IsHighest n l
  monitors : ∀ z g, r.monitors z g = true ↔
    ∃ n, (r.sensors.get n).defn = some ⟨match g with | .co => .co | .no2 => .no2, z⟩
  substitute : ∀ z g, r.substitute z g = true ↔
    ∃ n, (r.sensors.get n).defn = some ⟨match g with | .co => .co | .no2 => .no2, z⟩
      ∧ ((r.sensors.get n).state = .awaiting ∨ (r.sensors.get n).state = .lost)

/-- The zone figures of the Reading Unit that an event changes are given, each once to each unit that reads it, and
nothing else is (R86). -/
def FiguresGiven (s b : State) : Prop :=
  s.gives b ((List.finRange 12).flatMap fun z =>
    noticeIf (s.readings.temperature z ≠ b.readings.temperature z) [.zoneTemperatureNotice z (b.readings.temperature z)]
    ++ noticeIf (s.readings.lux z ≠ b.readings.lux z) [.zoneLuxNotice z (b.readings.lux z)]
    ++ [Gas.co, Gas.no2].flatMap fun g =>
      noticeIf (s.readings.held z g ≠ b.readings.held z g) [.heldValueNotice z g (b.readings.held z g)]
      ++ noticeIf (s.readings.substitute z g ≠ b.readings.substitute z g)
          [.airSubstituteFlagNotice z g (b.readings.substitute z g),
            .budgetSubstituteFlagNotice z g (b.readings.substitute z g)])

/-! ### Recomputations (R97, R103, R104, R114, R120, R122) -/

/-- Some reports are raised one after the other, in an order that the manual does not give. -/
def State.raised (s b : State) (reports : List Body) : Prop :=
  ∃ bs : List Body, bs.Perm reports ∧ b.link = (bs.foldl (fun t x => t.raise x) s).link

/-- The report of a zone whose stage enters or leaves 4 (R104), a gas that it does not monitor without figures (R167). -/
def airReportsDue (s : State) (z : Zone) (new : AirZone) : List Body :=
  let old := s.air.zones.get z
  let gas (g : Gas) (r : GasAir) : GasReport :=
    if s.readings.monitors z g then ⟨true, r.index, r.held, r.latch, r.substitute⟩ else ⟨false, 0, none, false, false⟩
  if old.stage < 4 ∧ new.stage = 4 then [.airTrip z new.raw new.effective (gas .co new.co) (gas .no2 new.no2)]
  else if old.stage = 4 ∧ new.stage < 4 then [.airClear z new.stage new.raw new.effective]
  else []

/-- A recomputation of some zones at the Air Unit leaves their new records, and gives what it gives (R97, R103, R104):
AIR-TRIP or AIR-CLEAR for each zone whose stage enters or leaves 4, and an exhaust notice for each whose stage changes. -/
structure AirRecomputed (s b : State) (zs : List Zone) (new : Zone → AirZone) : Prop where
  air : b.air = { s.air with zones := b.air.zones }
  zones : ∀ z, b.air.zones.get z = if z ∈ zs then new z else s.air.zones.get z
  reports : s.raised b (zs.flatMap fun z => airReportsDue s z (new z))
  given : s.gives b (zs.flatMap fun z =>
    noticeIf ((new z).stage ≠ (s.air.zones.get z).stage)
      [.exhaustNotice z (new z).stage (s.requestsIn .exhaust z fun f => min (new z).stage f.maxLevel)])

/-- The report of a zone whose frost state changes at a known temperature (R114). -/
def frostReportsDue (s : State) (z : Zone) (new : HeatZone) : List Body :=
  let old := s.heat.zones.get z
  match new.temp, old.frost, new.frost with
  | some t, false, true => [.frost z t s.heat.settings.floor old.stage new.holdDown new.openCount]
  | some t, true, false => [.frostEnd z t s.heat.settings.floor]
  | _, _, _ => []

/-- A recomputation of some zones at the Heat Unit leaves their new records, and gives what it gives (R114, R120, R122):
FROST or FROST-END for each zone whose frost state changes at a known temperature, and a heat notice for each whose
stage, cold flag or frost state changes. -/
structure HeatRecomputed (s b : State) (zs : List Zone) (new : Zone → HeatZone) : Prop where
  heat : b.heat = { s.heat with zones := b.heat.zones }
  zones : ∀ z, b.heat.zones.get z = if z ∈ zs then new z else s.heat.zones.get z
  reports : s.raised b (zs.flatMap fun z => frostReportsDue s z (new z))
  given : s.gives b (zs.flatMap fun z =>
    let old := s.heat.zones.get z
    noticeIf (¬((new z).stage = old.stage ∧ (new z).cold = old.cold ∧ (new z).frost = old.frost))
      [.heatNotice z (new z).cold (new z).frost (s.requestsIn .heater z fun f => min (new z).stage f.maxLevel)])

/-! ### START (R19, R52, R74, R89, R90, R110, R124, R132, R148) -/

/-- The light level and the egress floor with which a zone begins RUN, its lux being 0 (R125, R132). -/
def State.firstLight (s b : State) (z : Zone) : Nat × Nat :=
  let p := s.calendar.profiles.get (b.calendar.inForce.get z)
  (max p.egress (match s.zones.get z with | .dock => p.dockLight | _ => p.floorLight), p.egress)

/-- The notices of START: the site profile and changed profiles in force, the lookahead of a rotation that starts, every
zone figure of every defined zone, the changed values of the doors, and of every defined zone an exhaust notice, at stage
0, a heat notice, its stage rising to 1, and, where it has LIGHT loads, a light notice. -/
def State.startNoticesDue (s b : State) (looks : Prop) [Decidable looks] : List Instr :=
  [siteNotice b.calendar]
  ++ (s.reprofiled b).map (fun z => .airProfileChangeNotice z (b.calendar.inForce.get z))
  ++ noticeIf looks [.lookaheadNotice b.calendar.lookahead]
  ++ s.zonesDefined.flatMap (fun z =>
    [.zoneTemperatureNotice z none, .zoneLuxNotice z 0]
    ++ [Gas.co, Gas.no2].flatMap (fun g =>
      let f := s.readings.monitors z g
      [.heldValueNotice z g none, .airSubstituteFlagNotice z g f, .budgetSubstituteFlagNotice z g f])
    ++ [.exhaustNotice z 0 (s.requestsIn .exhaust z fun _ => 0),
      .heatNotice z false false (s.requestsIn .heater z fun f => min 1 f.maxLevel)]
    ++ noticeIf (s.requestsIn .light z (fun _ => 0) ≠ [])
        [.lightNotice z (s.firstLight b z).2 (s.requestsIn .light z fun _ => (s.firstLight b z).1)])
  ++ s.doorNoticesDue b

/-- Every block has taken its entry into RUN. Where a rotation can run a resync has placed its cursor without a
boundary, and elsewhere the default profile is in force (R52). -/
structure BlocksStarted (s b : State) : Prop where
  idle : ¬CanRotate s.calendar →
    b.calendar =
      { s.calendar with
        cursor := none, overrides := Table.fill 12 none, lookahead := none
        inForce := Table.fill 12 s.calendar.defaultProfile, siteProfile := s.calendar.defaultProfile }
    ∧ s.gives b (s.startNoticesDue b False)
  rotates : CanRotate s.calendar → ∀ x, PlacedAt s.calendar x →
    b.calendar =
      { s.calendar with
        cursor := some x, overrides := Table.fill 12 none, lookahead := b.calendar.lookahead
        inForce := b.calendar.inForce, siteProfile := b.calendar.siteProfile }
    ∧ ProfilesHold b.calendar ∧ LookaheadTaken b.calendar ∧ s.gives b (s.startNoticesDue b True)
  doors : b.doors = { s.doors with doors := b.doors.doors }
  evaluated : ∀ n f, (s.doors.doors.get n).defn = some f → f.enabled = true →
    b.doors.doors.get n = evaluatedDoor s.doors n f (s.doors.doors.get n)
  disabled : ∀ n, (∀ f, (s.doors.doors.get n).defn = some f → f.enabled = false) →
    b.doors.doors.get n = s.doors.doors.get n
  readings : b.readings = { s.readings with sensors := b.readings.sensors }
  sensors : ∀ n, b.readings.sensors.get n =
    { defn := (s.readings.sensors.get n).defn, state := .awaiting, value := none, due := none, dueCount := 0
      quiet :=
        match (s.readings.sensors.get n).defn with
        | none => none
        | some d =>
          match d.kind with
          | .co | .no2 => Timer.start s.readings.settings.gasQuiet
          | .temp | .lux => Timer.start s.readings.settings.otherQuiet }
  air : b.air = { Air.atRest s.air.settings with clock := some ⟨Timer.start 10, 0⟩ }
  heat : b.heat = { zones := b.heat.zones, settings := s.heat.settings, lookahead := none, bar := false }
  heated : ∀ z, b.heat.zones.get z =
    if s.zones.get z = .undefined then HeatZone.atRest s.calendar.defaultProfile
    else
      (let p := b.calendar.inForce.get z
       let own := match s.zones.get z with
         | .dock => (s.calendar.profiles.get p).dockSetpoint
         | _ => (s.calendar.profiles.get p).floorSetpoint
       { HeatZone.atRest p with
         stage := 1, hold := Timer.start s.heat.settings.hold, setpoint := max (s.heat.settings.floor : Int) own })
  dock : b.light.dock = Table.fill 32 false
  lit : ∀ z, b.light.zones.get z =
    if s.zones.get z = .undefined then LightZone.atRest s.calendar.defaultProfile
    else ⟨(s.firstLight b z).1, (s.firstLight b z).2, b.calendar.inForce.get z, 0⟩
  requests : ∀ n, b.light.requests.get n =
    match (s.loads.get n).defn with
    | some f => if f.type = .light ∧ s.zones.get f.zone ≠ .undefined then (s.firstLight b f.zone).1 else 0
    | none => 0
  budget : b.budget = { s.budget with rotation := Timer.start s.budget.period, stagger := none }

/-! ### Loads -/

/-- Check 2 of DEF-LOAD for a type other than NONE (R6 to R8, R10, Table 1-3). -/
def DefLoadInRange (f : LoadFields) : Prop :=
  let draws := [f.draw1, f.draw2, f.draw3, f.draw4].take f.drawCount
  (∀ x ∈ draws, x ≤ 2000) ∧ f.base ≤ 3 ∧ f.cls ≤ 1 ∧ f.minOff ≤ 900
  ∧ ((f.type = 1 ∧ 1 ≤ f.maxLevel ∧ f.maxLevel ≤ 3 ∧ f.drawCount = f.maxLevel ∧ draws.Pairwise (· ≤ ·) ∧ f.door = 255)
     ∨ (f.type = 2 ∧ 1 ≤ f.maxLevel ∧ f.maxLevel ≤ 4 ∧ f.drawCount = f.maxLevel ∧ draws.Pairwise (· ≤ ·)
        ∧ f.door = 255)
     ∨ (f.type = 3 ∧ f.maxLevel = 1 ∧ f.drawCount = 1 ∧ f.door ≠ 255)
     ∨ (f.type = 4 ∧ f.maxLevel = 100 ∧ f.drawCount = 1))

/-! ### Layouts (R149, R164, R166 to R168) -/

/-- The number that the `w` bytes from an offset carry, high byte first (R164). -/
def fieldAt (l : List Byte) (offset w : Nat) : Nat := ((l.drop offset).take w).foldl (fun n b => 256 * n + b.toNat) 0

/-- A field of a layout: its offset, its width in bytes and its value. -/
structure Field where
  offset : Nat
  width : Nat
  value : Int

/-- Some bytes have a length and carry some fields, a signed one in two's complement (R164). -/
def HasLayout (l : List Byte) (length : Nat) (fields : List Field) : Prop :=
  l.length = length ∧ ∀ f ∈ fields, (fieldAt l f.offset f.width : Int) = f.value % 256 ^ f.width

/-- A flag byte, bit 0 first. -/
def bitsValue (bits : List Bool) : Nat := bits.foldr (fun b n => b.toNat + 2 * n) 0

/-- A value that may be absent, with its marker. -/
def orMark (mark : Int) (o : Option Int) : Int := o.getD mark

/-- A number that may be absent in a one-byte field. -/
def orByte (o : Option Nat) : Int := orMark 0xFF (o.map Int.ofNat)

/-- A number that may be absent in a two-byte field. -/
def orWord (o : Option Nat) : Int := orMark 0xFFFF (o.map Int.ofNat)

/-- The codes of Tables 11-2 and 11-4. -/
def CodesHold : Prop :=
  ([.undefined, .dock, .floor] : List ZoneKind).map ZoneKind.code = [0, 1, 2]
  ∧ ([.heater, .exhaust, .curtain, .light] : List LoadType).map LoadType.code = [1, 2, 3, 4]
  ∧ ([.temp, .co, .no2, .lux] : List SensorKind).map SensorKind.code = [1, 2, 3, 4]
  ∧ ([.awaiting, .fresh, .quiet, .lost] : List SensorState).map SensorState.code = [0, 1, 2, 3]
  ∧ ([.disabled, .closed, .opened, .dwell, .sealed] : List DoorState).map DoorState.code = [0, 1, 2, 3, 4]
  ∧ ([.high, .low] : List Polarity).map Polarity.code = [0, 1]
  ∧ ([.edge, .level] : List AlertMode).map AlertMode.code = [0, 1]
  ∧ ([.static, .dynamic] : List ArbMode).map ArbMode.code = [0, 1]
  ∧ ([.short, .long] : List RestartClass).map RestartClass.code = [0, 1]
  ∧ ([.starting, .configure, .run] : List OpState).map OpState.code = [0, 1, 2]
  ∧ ([.up, .quiet, .lost] : List Supervision).map Supervision.code = [0, 1, 2]
  ∧ ([.b19200, .b57600, .b115200, .b230400] : List BitRate).map BitRate.code = [0, 1, 2, 3]
  ∧ ([.ok, .clamped, .unknownKind, .badLength, .badField, .notFound, .wrongState, .inUse, .frozen, .planInvalid,
      .stillActive, .storeFailed] : List Status).map Status.code
    = [0x00, 0x01, 0x10, 0x11, 0x12, 0x13, 0x14, 0x15, 0x16, 0x17, 0x18, 0x19]

/-- The minutes of a span in a record: 0 until it is ended. -/
def spanMinutes : Span → Nat
  | .untilEnded => 0
  | .minutes n => n

/-- The fields of a zone status record (R4, Table 11-7). -/
def zoneFields (s : State) (z : Zone) : List Field :=
  let a := s.air.zones.get z
  let h := s.heat.zones.get z
  let o := s.calendar.overrides.get z
  let doors := (List.finRange 32).filter fun n => ((s.doors.doors.get n).defn.map fun f => f.zone) = some z
  let sensors := (List.finRange 40).filter fun n => ((s.readings.sensors.get n).defn.map fun f => f.zone) = some z
  let loads := (List.finRange 64).filter fun n => ((s.loads.get n).defn.map fun f => f.zone) = some z
  [⟨0, 1, z.val⟩, ⟨1, 1, (s.zones.get z).code⟩, ⟨2, 1, doors.length⟩, ⟨3, 1, sensors.length⟩, ⟨4, 1, loads.length⟩,
    ⟨5, 1, (s.calendar.inForce.get z).val⟩, ⟨6, 1, orByte (o.map fun o => o.profile.val)⟩,
    ⟨7, 2, match o with | some o => spanMinutes o.span | none => 0⟩, ⟨9, 1, s.doors.openUnsealed z⟩,
    ⟨10, 2, orMark 0x8000 (s.readings.temperature z)⟩, ⟨12, 2, orWord (s.readings.held z .co)⟩,
    ⟨14, 1, orByte (s.readings.held z .no2)⟩, ⟨15, 2, s.readings.lux z⟩, ⟨17, 2, orWord a.co.sta⟩,
    ⟨19, 2, orWord a.co.swa⟩, ⟨21, 1, orByte a.no2.sta⟩, ⟨22, 1, orByte a.no2.swa⟩, ⟨23, 1, a.raw⟩,
    ⟨24, 1, a.effective⟩, ⟨25, 1, a.stage⟩, ⟨26, 1, match a.purge with | some p => p.minutes | none => 0⟩,
    ⟨27, 1, bitsValue
      [s.readings.substitute z .co, s.readings.substitute z .no2, a.co.latch, a.no2.latch, a.hold.isSome, a.exceeded,
        s.doors.holdDown z]⟩,
    ⟨28, 1, h.stage⟩, ⟨29, 1, bitsValue [h.frost, h.preheat, h.cold]⟩, ⟨30, 1, (s.light.zones.get z).level⟩,
    ⟨31, 1, a.highest⟩]

/-- The fields of a load status record (R13, Table 11-8); of an undefined load every one but its number is 0, its zone
and its binding 0xFF. -/
def loadFields (s : State) (n : LoadNo) : List Field :=
  let l := s.loads.get n
  match l.defn with
  | none =>
    [⟨0, 1, n.val⟩, ⟨1, 1, 0⟩, ⟨2, 1, 0xFF⟩, ⟨3, 1, 0⟩, ⟨4, 1, 0⟩, ⟨5, 8, 0⟩, ⟨13, 1, 0xFF⟩, ⟨14, 13, 0⟩]
  | some f =>
    [⟨0, 1, n.val⟩, ⟨1, 1, f.type.code⟩, ⟨2, 1, f.zone.val⟩, ⟨3, 1, f.maxLevel⟩, ⟨4, 1, f.draws.length⟩,
      ⟨5, 2, f.draws.getD 0 0⟩, ⟨7, 2, f.draws.getD 1 0⟩, ⟨9, 2, f.draws.getD 2 0⟩, ⟨11, 2, f.draws.getD 3 0⟩,
      ⟨13, 1, orByte (f.door.map fun d => d.val)⟩, ⟨14, 1, f.base⟩, ⟨15, 1, f.cls.code⟩, ⟨16, 2, f.minOff⟩,
      ⟨18, 1, l.request⟩, ⟨19, 1, l.grant⟩, ⟨20, 1, l.drive⟩, ⟨21, 1, (100 * l.drive / f.maxLevel : Nat)⟩,
      ⟨22, 2, Timer.seconds l.minOff⟩, ⟨24, 1, l.priority⟩, ⟨25, 1, if n ∈ s.budget.shed then 1 else 0⟩,
      ⟨26, 1, if n ∈ s.budget.queue then s.budget.queue.idxOf n + 1 else 0⟩]

/-- The byte of a contact in a door record: settled level high, asserted, change being timed. -/
def contactValue (l : Line) (p : Polarity) : Nat :=
  bitsValue [l.settled, match p with | .high => l.settled | .low => !l.settled, l.timing.isSome]

/-- The fields of a door status record (R71, Table 11-9); an undefined door reads as in Table 3-1. -/
def doorFields (s : State) (n : DoorNo) : List Field :=
  let d := s.doors.doors.get n
  let f : DoorDef := d.defn.getD ⟨0, .high, .high, 60, .edge, false⟩
  [⟨0, 1, n.val⟩, ⟨1, 1, if d.defn = none then 0 else 1⟩, ⟨2, 1, orByte (d.defn.map fun f => f.zone.val)⟩,
    ⟨3, 1, f.openPolarity.code⟩, ⟨4, 1, f.trailerPolarity.code⟩, ⟨5, 2, f.limit⟩, ⟨7, 1, f.mode.code⟩,
    ⟨8, 1, f.enabled.toNat⟩, ⟨9, 1, d.state.code⟩, ⟨10, 1, d.evaluated.toNat⟩, ⟨11, 2, Timer.seconds d.dwell⟩,
    ⟨13, 1, d.alert.toNat⟩, ⟨14, 1, d.opens⟩, ⟨15, 1, d.entries⟩,
    ⟨16, 1, contactValue (s.doors.lines.get (openLine n)) f.openPolarity⟩,
    ⟨17, 1, contactValue (s.doors.lines.get (trailerLine n)) f.trailerPolarity⟩]

/-- The fields of the plan row record of a row (Table 11-9), behind the table selector and the row number. -/
def rowFields (table row : Nat) (r : Row) : List Field :=
  let fields (kind profile length crew count : Nat) : List Field :=
    [⟨0, 1, table⟩, ⟨1, 1, row⟩, ⟨2, 1, kind⟩, ⟨3, 1, profile⟩, ⟨4, 2, length⟩, ⟨6, 1, crew⟩, ⟨7, 1, count⟩]
  match r with
  | .empty => fields 0 0 0 0 0
  | .shift p n crew => fields 1 p.val n crew 0
  | .repeatGroup n => fields 2 0 0 0 n
  | .endGroup => fields 3 0 0 0 0

/-- The fields of the calendar status record (R50, Table 11-12). -/
def calendarFields (c : Calendar) : List Field :=
  let holds : Bool := c.active.entries.any fun r => decide (r ≠ .empty)
  let cursor (condition : Nat) (row profile : Int) (crew left : Nat) (stack : List LoopFrame) : List Field :=
    let slot (k : Nat) : LoopFrame := stack.reverse.getD k ⟨0, 0⟩
    [⟨15, 1, condition⟩, ⟨16, 1, row⟩, ⟨17, 1, profile⟩, ⟨18, 1, crew⟩, ⟨19, 2, left⟩, ⟨21, 1, stack.length⟩,
      ⟨22, 1, (slot 0).row⟩, ⟨23, 1, (slot 0).passes⟩, ⟨24, 1, (slot 1).row⟩, ⟨25, 1, (slot 1).passes⟩,
      ⟨26, 1, (slot 2).row⟩, ⟨27, 1, (slot 2).passes⟩]
  [⟨0, 2, c.day⟩, ⟨2, 4, c.second⟩, ⟨6, 1, bitsValue [c.unknown, c.anchor.isSome, holds, c.committed]⟩,
    ⟨7, 2, match c.anchor with | some a => a.day | none => 0⟩,
    ⟨9, 2, match c.anchor with | some a => a.minute | none => 0⟩, ⟨11, 1, c.defaultProfile.val⟩,
    ⟨12, 2, if holds then cycleLength c.active else 0⟩, ⟨14, 1, c.siteProfile.val⟩,
    ⟨28, 1, orByte (c.lookahead.map fun l => l.profile.val)⟩,
    ⟨29, 2, match c.lookahead with | some l => l.minutes | none => 0⟩]
  ++ match c.cursor with
    | none => cursor 0 0xFF 0xFF 0 0 []
    | some .waiting => cursor 1 0xFF 0xFF 0 0 []
    | some (.inShift row left stack) =>
      match c.active.get? row with
      | some (.shift p _ crew) => cursor 2 row p.val crew left stack
      | _ => cursor 2 row 0xFF 0 left stack

/-- The fields of a sensor status record (R87, Table 11-13). -/
def sensorFields (s : State) (n : SensorNo) : List Field :=
  let r := s.readings.sensors.get n
  [⟨0, 1, n.val⟩, ⟨1, 1, match r.defn with | some f => f.kind.code | none => 0⟩,
    ⟨2, 1, orByte (r.defn.map fun f => f.zone.val)⟩, ⟨3, 1, r.state.code⟩, ⟨4, 2, orMark 0x8000 r.value⟩,
    ⟨6, 2, Timer.seconds r.quiet⟩, ⟨8, 2, Timer.seconds r.due⟩, ⟨10, 1, r.dueCount⟩]

/-- The fields of a profile record (R50, Table 11-14). -/
def profileFields (n : ProfileNo) (p : Profile) : List Field :=
  [⟨0, 1, n.val⟩, ⟨1, 2, p.dockSetpoint⟩, ⟨3, 2, p.floorSetpoint⟩, ⟨5, 1, p.dockLight⟩, ⟨6, 1, p.floorLight⟩,
    ⟨7, 1, p.egress⟩, ⟨8, 2, p.budget⟩, ⟨10, 1, p.mode.code⟩, ⟨11, 1, p.purge⟩, ⟨12, 1, p.preheat.toNat⟩]

/-- The fields of the part status record (R162, Table 11-14). -/
def partFields (p : Part) : List Field :=
  [⟨0, 1, p.op.code⟩, ⟨1, 1, Config.revision.toNat⟩, ⟨2, 1, p.bitRate.code⟩, ⟨3, 1, p.autorun.toNat⟩,
    ⟨4, 1, p.imageValid.toNat⟩]

/-- The load numbers of a list, one byte each from an offset. -/
def listFields (offset : Nat) (l : List LoadNo) : List Field := l.mapIdx fun k n => ⟨offset + k, 1, n.val⟩

/-- How many entries of the restart queue a budget status record carries beside its shed list (R166). -/
def queueSent (b : Budget) : Nat := min b.queue.length (94 - b.shed.length)

/-- The fields of the budget status record (R146, R166, Table 11-15). -/
def budgetFields (b : Budget) : List Field :=
  [⟨0, 2, b.site⟩, ⟨2, 1, b.mode.code⟩, ⟨3, 2, orWord (b.cap.map fun c => c.value)⟩,
    ⟨5, 2, match b.cap with | some c => spanMinutes c.span | none => 0⟩, ⟨7, 2, b.inForce⟩, ⟨9, 4, b.protectedDraw⟩,
    ⟨13, 4, b.committedDraw⟩, ⟨17, 1, b.tie.val⟩, ⟨18, 2, Timer.seconds b.rotation⟩, ⟨20, 2, Timer.seconds b.stagger⟩,
    ⟨22, 1, b.shed.length⟩]
  ++ listFields 23 b.shed ++ [⟨23 + b.shed.length, 1, queueSent b⟩]
  ++ listFields (24 + b.shed.length) (b.queue.take (queueSent b))

/-- The length and the fields of a report's body, its offsets counted from the beginning of the payload (Tables 11-6,
11-10, 11-11). -/
def bodyFields : Body → Nat × List Field
  | .ready rev valid entered => (3, [⟨7, 1, rev.toNat⟩, ⟨8, 1, valid.toNat⟩, ⟨9, 1, entered.code⟩])
  | .boundary h air doors =>
    (7 + 8 * min air.length doors.length,
      [⟨7, 2, h.day⟩, ⟨9, 2, h.minute⟩, ⟨11, 1, orByte h.row⟩, ⟨12, 1, h.profile.val⟩, ⟨13, 1, h.crew⟩]
      ++ ((air.zip doors).mapIdx fun z (x : AirFigures × DoorFigures) =>
        ([⟨14 + 8 * z, 2, orWord x.1.co⟩, ⟨16 + 8 * z, 1, orByte x.1.no2⟩, ⟨17 + 8 * z, 1, x.1.highest⟩,
          ⟨18 + 8 * z, 2, 32768 * x.1.exceeded.toNat + x.2.opens⟩, ⟨20 + 8 * z, 2, x.2.entries⟩] : List Field)).flatten)
  | .adopted a => (4, [⟨7, 2, a.day⟩, ⟨9, 2, a.minute⟩])
  | .doorAlert d z limit entries mode =>
    (6, [⟨7, 1, d.val⟩, ⟨8, 1, z.val⟩, ⟨9, 2, limit⟩, ⟨11, 1, entries⟩, ⟨12, 1, mode.code⟩])
  | .due n f state count =>
    (5, [⟨7, 1, n.val⟩, ⟨8, 1, f.kind.code⟩, ⟨9, 1, f.zone.val⟩, ⟨10, 1, state.code⟩, ⟨11, 1, count⟩])
  | .sensorLost n f left => (4, [⟨7, 1, n.val⟩, ⟨8, 1, f.kind.code⟩, ⟨9, 1, f.zone.val⟩, ⟨10, 1, left.code⟩])
  | .airTrip z raw eff co no2 =>
    (9, [⟨7, 1, z.val⟩, ⟨8, 1, raw⟩, ⟨9, 1, eff⟩, ⟨10, 1, co.index⟩, ⟨11, 2, orWord co.held⟩, ⟨13, 1, no2.index⟩,
      ⟨14, 1, orByte no2.held⟩,
      ⟨15, 1, bitsValue [co.monitored, no2.monitored, co.latch, no2.latch, co.substitute, no2.substitute]⟩])
  | .airClear z stage raw eff => (4, [⟨7, 1, z.val⟩, ⟨8, 1, stage⟩, ⟨9, 1, raw⟩, ⟨10, 1, eff⟩])
  | .frost z t floor stage holdDown count =>
    (7, [⟨7, 1, z.val⟩, ⟨8, 2, t⟩, ⟨10, 1, floor⟩, ⟨11, 1, stage⟩, ⟨12, 1, holdDown.toNat⟩, ⟨13, 1, count⟩])
  | .frostEnd z t floor => (4, [⟨7, 1, z.val⟩, ⟨8, 2, t⟩, ⟨10, 1, floor⟩])
  | .shedBegin budget p c shed =>
    (11 + shed.length, [⟨7, 2, budget⟩, ⟨9, 4, p⟩, ⟨13, 4, c⟩, ⟨17, 1, shed.length⟩] ++ listFields 18 shed)
  | .shedEnd budget c => (6, [⟨7, 2, budget⟩, ⟨9, 4, c⟩])
  | .linkBack left probes => (2, [⟨7, 1, left.code⟩, ⟨8, 1, probes⟩])

/-- The kind of a report (Table 11-6). -/
def reportKind : Body → Byte
  | .ready .. => 0xC0 | .boundary .. => 0xC1 | .adopted .. => 0xC2 | .doorAlert .. => 0xC3 | .due .. => 0xC4
  | .sensorLost .. => 0xC5 | .airTrip .. => 0xC6 | .airClear .. => 0xC7 | .frost .. => 0xC8 | .frostEnd .. => 0xC9
  | .shedBegin .. => 0xCA | .shedEnd .. => 0xCB | .linkBack .. => 0xCC

/-- The priority of a report (Table 9-3). -/
def reportPriority : Body → Nat
  | .ready .. | .airTrip .. => 3
  | .airClear .. | .frost .. | .sensorLost .. | .boundary .. | .linkBack .. => 2
  | .frostEnd .. | .due .. | .doorAlert .. | .shedBegin .. | .shedEnd .. | .adopted .. => 1

/-- Kind and payload of a frame that is transmitted are as the manual lays them out: a reply with its status, its flag
byte and its own fields (R166), a PROBE (R167), or a report with its header and its body (R167). -/
def SentLayout (kind : Byte) (payload : List Byte) : Sent → Prop
  | .reply r =>
    kind = r.kind ∧ HasLayout (payload.take 2) 2 [⟨0, 1, r.status.code⟩, ⟨1, 1, r.overrun.toNat⟩]
      ∧ payload.drop 2 = r.fields
  | .probe p =>
    kind = 0xBF ∧ HasLayout payload 9
      [⟨0, 2, p.day⟩, ⟨2, 4, p.second⟩, ⟨6, 1, p.unknown.toNat⟩, ⟨7, 1, p.state.code⟩, ⟨8, 1, p.queued⟩]
  | .report r gap =>
    kind = reportKind r.body ∧ HasLayout payload (7 + (bodyFields r.body).1)
      ([⟨0, 2, r.day⟩, ⟨2, 4, r.second⟩, ⟨6, 1, bitsValue [r.unknown, gap]⟩] ++ (bodyFields r.body).2)

/-- A status read answers OK with a record of a length and some fields, and changes nothing. -/
def Reads (c : Instr) (s : State) (length : Nat) (fields : List Field) : Prop :=
  ∃ l, HasLayout l length fields ∧ AnswersOnly c .ok l s

/-! ### The stored image -/

/-- Some contents of the image are the configuration of a state, item by item (Table 10-3). -/
structure IsConfiguration (c : Stored) (s : State) : Prop where
  zones : ∀ z, c.zones.get z = s.zones.get z
  loads : ∀ n, c.loads.get n = (s.loads.get n).defn
  profiles : ∀ p, c.profiles.get p = s.calendar.profiles.get p
  defaultProfile : c.defaultProfile = s.calendar.defaultProfile
  active : ∀ r, c.active.get r = s.calendar.active.get r
  anchor : c.anchor = s.calendar.anchor
  doors : ∀ d, c.doors.get d = (s.doors.doors.get d).defn
  filter : c.filter = s.doors.filter
  sensors : ∀ n, c.sensors.get n = (s.readings.sensors.get n).defn
  sensing : c.sensing = s.readings.settings
  air : c.air = s.air.settings
  heat : c.heat = s.heat.settings
  rotationPeriod : c.rotationPeriod = s.budget.period
  mask : c.mask = s.link.mask
  link : c.link = s.link.settings
  autorun : c.autorun = s.part.autorun

/-! ### Invariants -/

/-- A load's levels and its places on the two lists agree (R5, R141, R143, R144): the drive level is 0 or the grant,
the grant is at most the request and that at most the maximum level, the load is on the shed list exactly when its
grant is below its request, and in the restart queue exactly when it is granted a level and stands still. -/
structure LoadSound (b : Budget) (n : LoadNo) (l : Load) : Prop where
  drive : l.drive = 0 ∨ l.drive = l.grant
  grant : l.grant ≤ l.request
  request : l.request ≤ l.maxLevel
  shed : n ∈ b.shed ↔ l.grant < l.request
  queue : n ∈ b.queue ↔ 0 < l.grant ∧ l.drive = 0

/-- The Budget Unit is sound (chapter 8): the lists and levels of every load agree, neither list holds a load twice, the
committed draw is that of the grants, it is above the budget in force only where the protected draw is, the budget in
force follows site budget and cap, and outside RUN every load is at rest. -/
structure BudgetSound (s : State) : Prop where
  loads : ∀ n, LoadSound s.budget n (s.loads.get n)
  shedOnce : s.budget.shed.Nodup
  queueOnce : s.budget.queue.Nodup
  committed : s.budget.committedDraw = committedSum s.loads
  within : s.budget.committedDraw ≤ max s.budget.inForce s.budget.protectedDraw
  force : s.budget.inForce = s.budget.force
  atRest : s.part.op ≠ .run → ∀ n, s.loads.get n = Load.atRest (s.loads.get n).defn

/-- The Link Unit is sound (chapter 9): at most 32 reports and 2 frames; in UP no interval timer and no probe counted, in
QUIET the interval timer and not the idle timer, in LOST the idle timer alone; in STARTING nothing received, answered or
sent, and no STORE write. -/
structure LinkSound (s : State) : Prop where
  reports : s.link.reports.length ≤ 32
  buffer : s.link.buffer.length ≤ 2
  up : s.link.supervision = .up → s.link.interval = none ∧ s.link.probes = 0
  quiet : s.link.supervision = .quiet → s.link.idle = none ∧ s.link.interval.isSome
  lost : s.link.supervision = .lost → s.link.interval = none ∧ s.link.idle.isSome
  starting : s.part.op = .starting →
    s.link.sending = none ∧ s.link.reply = none ∧ s.link.buffer = [] ∧ s.store.write = none

/-- A door record is sound (Tables 3-1 and 3-2): DISABLED exactly when not enabled, the dwell timer running in OPEN
alone, and no count above 255. -/
structure DoorSound (d : Door) : Prop where
  disabled : d.state = .disabled ↔ d.enabled = false
  dwell : d.dwell.isSome ↔ d.state = .opened
  opens : d.opens ≤ 255
  entries : d.entries ≤ 255

/-- Every door record is sound, and no door is evaluated outside RUN. -/
structure DoorsSound (s : State) : Prop where
  doors : ∀ n, DoorSound (s.doors.doors.get n)
  evaluated : s.part.op ≠ .run → ∀ n, (s.doors.doors.get n).evaluated = false

/-- A zone's air record keeps its ranges (Table 5-1): the stage at most 4 and at 4 while the raw index is 100 or more
(R98), at most 15 buckets in a ring, and no ratio above 255. -/
structure AirZoneSound (a : AirZone) : Prop where
  stage : a.stage ≤ 4
  full : 100 ≤ a.raw → a.stage = 4
  ring : a.co.ring.length ≤ 15 ∧ a.no2.ring.length ≤ 15
  ratios : a.co.shortRatio ≤ 255 ∧ a.co.shiftRatio ≤ 255 ∧ a.no2.shortRatio ≤ 255 ∧ a.no2.shiftRatio ≤ 255

/-- Every zone's records at the Air and Heat Units keep their ranges, and a zone in frost is heated in full (Tables 5-1,
6-1, R118). -/
structure StagesSound (s : State) : Prop where
  air : ∀ z, AirZoneSound (s.air.zones.get z)
  heat : ∀ z, (s.heat.zones.get z).stage ≤ 3
  frost : ∀ z, (s.heat.zones.get z).frost = true → (s.heat.zones.get z).stage = 3

end Sys2Proof.Machine
end

