-- ==== Sys2Proof/Certificates/Slice0/Obligations.lean ====
section
/-! DEFINITION. The statements about the part that are to be proved. -/

open Sys2Proof Sys2Proof.Machine

/-! ### The machine -/

/-- The step takes the command at the front of the queue, and runs it on the state with the queue's rest. With the
queue empty the part goes on by itself, in an order that is the model's choice (assumption log, entry 5): it takes the
request handed to its block, else the notice given first, else the first expiry whose time has run out; else every
running timer runs for a tenth of a second, and the clock with it, which thereby advances by its own second and comes to
its minute expiries (R20). -/
def Obligations.StepRunsFrontCommand : Prop :=
  (∀ (c : Instr) (rest : List Instr) (s : State),
    step { s with pending := c :: rest } = exec c { s with pending := rest })
  ∧ ∀ s : State, s.pending = [] →
      let c := s.calendar
      let passes (d : Calendar) : Prop := step s = .next (State.settle { s.timersRun with calendar := d })
      match if s.part.op ≠ .starting ∧ s.store.write = none then s.link.handed else none, s.inFlight, s.expiries with
      | some request, _, _ => step s = exec request s
      | none, first :: _, _ => step s = exec first.notice s
      | none, [], expiry :: _ => step s = exec expiry s
      | none, [], [] =>
        if c.tenth < 9 then passes { c with tenth := c.tenth + 1 }
        else if (c.second + 1) % 60 = 0 then step s = exec .minuteExpiry s.timersRun
        else passes { c with second := c.second + 1, tenth := 0 }

/-- R152, R155: after every step the transmitter has made its choice: none of the things it may send stands before a free
transmitter, which waits for a reply that is formed at once (the model's choice: assumption log, entry 4). The transmitter
sends one frame at a time, and always whole: outside STARTING only its own end and a reset take a frame from it. The
choice at the end of a command leaves a busy transmitter alone, and is that of the rule for a free one. -/
def Obligations.EveryStepSettlesTransmitter : Prop :=
  (∀ s t : State, step s = .next t → t.settled)
  ∧ (∀ (s t : State) (c : Instr) (x : Sent), s.part.op ≠ .starting → s.link.sending = some x → c ≠ .transmitEnd →
    (∀ strap1 strap0, c ≠ .reset strap1 strap0) → exec c s = .next t → t.link.sending = some x)
  ∧ ∀ s : State, s.settle =
      if s.part.op = .starting ∨ s.link.sending ≠ none then s else { s with link := s.link.chosen }

/-- R70, R86, R103, R112, R122, R129, R136, R160: the notices that one block gives another are taken in the order of
the events that gave them. A notice is in turn where before its first copy in flight, or before its coming where none
is in flight, stands no notice of another event from the same block to the same block. A notice in turn is taken, in
RUN or not: its first copy leaves, and only what it brings about joins behind the rest. One out of turn stays, or
joins behind the rest, and brings about nothing else. That a notice may come that was not in flight, and that one out
of turn waits, is the model's (assumption log, entry 3). -/
def Obligations.NoticesKeepOrder : Prop :=
  ∀ (s : State) (c : Instr) (giver taker : Block), route c = some (giver, taker) →
    let rival (f : Flight) : Prop := route f.notice = some (giver, taker)
    ((∀ f ∈ s.inFlight, f.notice ≠ c) →
      (s.inTurn c = true ↔ ∀ f ∈ s.inFlight, ¬rival f)
      ∧ (s.inTurn c = true → ∃ t new, exec c s = .next t ∧ t.inFlight = s.inFlight ++ new)
      ∧ ∀ first last, s.inFlight = first ++ [last] → s.inTurn c = false →
          exec c s = .next (State.settle { s with inFlight := s.inFlight ++ [⟨last.event + 1, c⟩] }))
    ∧ ∀ before k after, s.inFlight = before ++ ⟨k, c⟩ :: after → (∀ f ∈ before, f.notice ≠ c) →
        (s.inTurn c = true ↔ ∀ f ∈ before, rival f → f.event = k)
        ∧ (s.inTurn c = true → ∃ t new, exec c s = .next t ∧ t.inFlight = before ++ after ++ new)
        ∧ (s.inTurn c = false → exec c s = .next s.settle)

/-! ### Requests and frames (R149 to R151, R164, R165) -/

/-- R164, R165, Table 11-3: a request that fits its field widths is read back from its frame with every field, under
the kind that its reply is worked out from, and a payload that is read as a request fits the field widths and is the
only one that says so. A kind absent from the table is UNKNOWN_KIND, whatever its payload; a payload of a kind of the
table is that request, where it has the length of the table, and BAD_LENGTH, where it has not. -/
def Obligations.RequestsRoundTrip : Prop :=
  (∀ (c : Instr) (kind : Byte) (payload : List Byte),
    encodeRequest c = some (kind, payload) →
      requestKind c = kind ∧ (c.wf = true → decodeRequest kind payload = .request c))
  ∧ (∀ (kind : Byte) (payload : List Byte) (c : Instr),
    payload.length ≤ 120 → decodeRequest kind payload = .request c →
      c.wf = true ∧ encodeRequest c = some (kind, payload))
  ∧ ∀ (kind : Byte) (payload : List Byte),
    ((∀ length, (kind, length) ∉ requestLengths) → decodeRequest kind payload = .unknownKind)
    ∧ ∀ length, (kind, length) ∈ requestLengths →
        (length.fits payload → ∃ c, decodeRequest kind payload = .request c ∧ requestKind c = kind)
        ∧ (¬length.fits payload → decodeRequest kind payload = .badLength)

/-- R149: from HUNT, the characters of a whole frame bring about exactly the completion of that frame. That the
second check byte completes the frame itself, and that FRAME_COMPLETE carries the whole frame, is the model's choice
(assumption log, entry 13). -/
def Obligations.FrameCharactersCompleteFrame : Prop :=
  ∀ (s : State) (kind : Byte) (payload : List Byte),
    s.part.op ≠ .starting → s.settled → s.link.receiver = .hunt → payload.length ≤ 120 →
      exec (.frameComplete ⟨byte payload.length, kind, payload, crc (checkedBytes kind payload)⟩) s
        = .next (s.receiveAll (frameBytes kind payload))

/-- R149: what each character does at the receiver: the second check byte completes the frame, any other moves the
receiver on; silence, a character without stop bit and a bad check return it to HUNT and do nothing else; in STARTING
characters and frames are discarded. That FRAME_COMPLETE carries a whole frame is the model's choice (assumption log,
entry 13). -/
def Obligations.ReceiverFollowsCharacters : Prop :=
  ∀ s : State, s.settled →
    let hunts : State := { s with link := { s.link with receiver := .hunt } }
    exec .receiveSilence s = .next hunts
    ∧ exec .noStopBitCharacter s = .next hunts
    ∧ (s.part.op = .starting →
        (∀ c, exec (.characterReceived c) s = .next s) ∧ ∀ f, exec (.frameComplete f) s = .next s)
    ∧ (s.part.op ≠ .starting → ∀ f : RawFrame, f.check ≠ crc (f.length :: f.kind :: f.payload) →
        exec (.frameComplete f) s = .next hunts)
    ∧ (s.part.op ≠ .starting → ∀ c : Byte,
        let moves (r : Receiver) : Prop :=
          exec (.characterReceived c) s = .next { s with link := { s.link with receiver := r } }
        (s.link.receiver = .hunt → moves (if c = 0xA6 then .sync else .hunt))
        ∧ (s.link.receiver = .sync → moves (if c = 0x59 then .length else if c = 0xA6 then .sync else .hunt))
        ∧ (s.link.receiver = .length → moves (if c.toNat ≤ 120 then .kind c else .hunt))
        ∧ (∀ n, s.link.receiver = .kind n → moves (if n.toNat = 0 then .check n c [] none else .payload n c []))
        ∧ (∀ n k got, s.link.receiver = .payload n k got →
            moves (if got.length + 1 < n.toNat then .payload n k (got ++ [c]) else .check n k (got ++ [c]) none))
        ∧ (∀ n k p, s.link.receiver = .check n k p none → moves (.check n k p (some c)))
        ∧ ∀ n k p a, s.link.receiver = .check n k p (some a) →
            exec (.characterReceived c) s = exec (.frameComplete ⟨n, k, p, a ++ c⟩) s
            ∧ (a ++ c ≠ crc (n :: k :: p) → moves .hunt))

/-- R149, R151, R164, R166, R167, Tables 11-1, 11-2, 11-4 to 11-6, 11-10 and 11-11: a frame that is transmitted is sync
pair, length, kind, payload and check; a reply carries its status, its flag byte and its own fields, a PROBE its five
fields, a report its header and the fields of its body, each at its offset; and the check is a register that starts at
0xFFFF and takes the bits most significant first. -/
def Obligations.TransmittedBytesFollowLayouts : Prop :=
  CodesHold
  ∧ (∀ x : Sent, ∃ (kind : Byte) (payload : List Byte),
      let check := crc (byte payload.length :: kind :: payload)
      x.bytes = [0xA6, 0x59, byte payload.length, kind] ++ payload ++ [check.extractLsb' 8 8, check.extractLsb' 0 8]
      ∧ SentLayout kind payload x)
  ∧ crc [] = 0xFFFF
  ∧ ∀ (l : List Byte) (b : Byte), crc (l ++ [b]) =
      (List.range 8).foldl
        (fun (r : BitVec 16) k => if r.getMsbD 0 = b.getMsbD k then r <<< 1 else (r <<< 1) ^^^ 0x1021) (crc l)

/-- R150, R151, R154: a valid frame leads to UP and restarts the idle timer; in QUIET or LOST it stops the interval
timer, drops the pending PROBE, makes the probes sent 0 and raises LINK-BACK with the state left and the probes sent,
the link being UP already; it is buffered, or lost to overrun where the buffer is full, and alone in the buffer it
comes into service. The READY output is asserted outside STARTING while the buffer holds fewer than two frames. -/
def Obligations.ValidFrameIsBuffered : Prop :=
  (∀ s : State, s.readyOutput = true ↔ s.part.op ≠ .starting ∧ s.link.buffer.length < 2)
  ∧ ∀ (s : State) (f : RawFrame),
    s.part.op ≠ .starting → f.payload.length = f.length.toNat → f.length.toNat ≤ 120 →
    f.check = crc (f.length :: f.kind :: f.payload) →
      let frame : Frame := ⟨f.kind, f.payload⟩
      let up : State :=
        { s with
          link :=
            { s.link with
              receiver := .hunt, supervision := .up, idle := Timer.start s.link.settings.idle } }
      let back : State :=
        if s.link.supervision = .up then up
        else
          State.raise (.linkBack s.link.supervision s.link.probes)
            { up with link := { up.link with interval := none, probe := none, probes := 0 } }
      exec (.frameComplete f) s = .next (State.settle
        { s with
          link :=
            match s.link.buffer with
            | [] => Link.takesUp frame { back.link with buffer := [frame] }
            | [g] => { back.link with buffer := [g, frame] }
            | _ => { back.link with overrun := true } })

/-- R150 to R152, R155: the transmitter that becomes free takes the pending reply, then the pending PROBE, then the
oldest report, with the gap mark, and no report in LOST; it waits for a reply that is formed at once (this the model's
choice: assumption log, entry 4). The end of the reply to the frame in service frees that frame, and the next comes into
service before the transmitter chooses. -/
def Obligations.TransmitterChoosesInOrder : Prop :=
  ∀ (s : State) (x : Sent), s.part.op ≠ .starting → s.link.sending = some x →
    let free : Link := { s.link with sending := none }
    let served : Link := { free with buffer := s.link.buffer.tail }
    let becomes (l : Link) : Prop := exec .transmitEnd s = .next { s with link := l.chosen }
    ((∀ r, x = .reply r → r.answers = false) → becomes free)
    ∧ ∀ r, x = .reply r → r.answers = true →
        match s.link.buffer.tail with
        | [] => becomes served
        | next :: _ => becomes (Link.takesUp next served)

/-- R154, R155: what the idle and the interval timer do at their expiries. That an expiry is taken at whatever time is
left of its timer is the model's choice (assumption log, entry 2). That a PROBE carries the values of the moment it
becomes pending is read from the manual (entry 10), and so is that the idle timer does not run in QUIET (entry 21). -/
def Obligations.SupervisionTimersExpire : Prop :=
  ∀ s : State,
    let probe (st : Supervision) : Option Probe :=
      some (s.link.probe.getD
        ⟨s.calendar.day, s.calendar.second, s.calendar.unknown, st, s.link.reports.length⟩)
    let becomes (c : Instr) (l : Link) : Prop := exec c s = .next (State.settle { s with link := l })
    (s.link.supervision = .up → s.link.idle.isSome →
      becomes .idleTimerExpiry
        { s.link with
          supervision := .quiet, idle := none, interval := Timer.start s.link.settings.interval, probes := 1,
          probe := probe .quiet })
    ∧ (s.link.supervision = .lost → s.link.idle.isSome →
      becomes .idleTimerExpiry
        { s.link with idle := Timer.start s.link.settings.idle, probe := probe .lost })
    ∧ (s.link.supervision = .quiet → s.link.interval.isSome →
      if s.link.probes < s.link.settings.count then
        becomes .intervalTimerExpiry
          { s.link with
            interval := Timer.start s.link.settings.interval, probes := s.link.probes + 1, probe := probe .quiet }
      else if s.link.settings.retention = .flush then
        becomes .intervalTimerExpiry
          { s.link with
            supervision := .lost, interval := none, idle := Timer.start s.link.settings.idle, reports := [],
            gap := true }
      else
        becomes .intervalTimerExpiry
          { s.link with supervision := .lost, interval := none, idle := Timer.start s.link.settings.idle })

/-- R153, R155, Table 9-3: a raised report is masked, stamped and offered; a full queue evicts the oldest report of the
lowest priority where that is lower, and every discard sets the gap flag. The priorities are those of the table. -/
def Obligations.RaisedReportIsQueuedOrDiscarded : Prop :=
  ∀ (s : State) (b : Body),
    let r : Report := ⟨s.calendar.day, s.calendar.second, s.calendar.unknown, b⟩
    let queue := s.link.reports
    let becomes (l : Link) : Prop := s.raise b = { s with link := l }
    (reportPriority b < s.link.mask → becomes s.link)
    ∧ (s.link.mask ≤ reportPriority b →
        (s.link.supervision = .lost → s.link.settings.retention = .flush → becomes { s.link with gap := true })
        ∧ (¬(s.link.supervision = .lost ∧ s.link.settings.retention = .flush) →
            (queue.length < 32 → becomes { s.link with reports := queue ++ [r] })
            ∧ (32 ≤ queue.length → (∀ q ∈ queue, reportPriority b ≤ reportPriority q.body) →
                becomes { s.link with gap := true })
            ∧ (32 ≤ queue.length → (∃ q ∈ queue, reportPriority q.body < reportPriority b) →
                ∃ before oldest after, queue = before ++ oldest :: after
                  ∧ (∀ q ∈ queue, reportPriority oldest.body ≤ reportPriority q.body)
                  ∧ (∀ q ∈ before, reportPriority oldest.body < reportPriority q.body)
                  ∧ becomes { s.link with reports := before ++ after ++ [r], gap := true })))

/-- R142, R153, R156, R162: MASK, SET-BUDGET, SET-AUTORUN and SET-LINK take values in range, and refuse any other. -/
def Obligations.PlainSettingsAreTaken : Prop :=
  ∀ (s : State) (v : Nat), s.takesRequests = true →
    (if v ≤ 3 then Completes (.mask v) .ok [] s { s with link := { s.link with mask := v } }
     else AnswersOnly (.mask v) .badField [] s)
    ∧ (if 60 ≤ v ∧ v ≤ 3600 then
         Completes (.setBudget v) .ok [] s { s with budget := { s.budget with period := v } }
       else AnswersOnly (.setBudget v) .badField [] s)
    ∧ (if v ≤ 1 then
         Completes (.setAutorun v) .ok [] s { s with part := { s.part with autorun := decide (v = 1) } }
       else AnswersOnly (.setAutorun v) .badField [] s)
    ∧ ∀ interval count retention : Nat,
        if 5 ≤ v ∧ v ≤ 600 ∧ 2 ≤ interval ∧ interval ≤ 120 ∧ 1 ≤ count ∧ count ≤ 10 ∧ interval < v ∧ retention ≤ 1 then
          Completes (.setLink v interval count retention) .ok [] s
            { s with
              link :=
                { s.link with settings := ⟨v, interval, count, if retention = 0 then .retain else .flush⟩ } }
        else AnswersOnly (.setLink v interval count retention) .badField [] s

/-! ### Operating states and the Settings Store (chapter 10) -/

/-- R18, R51, R72, R88, R109, R123, R131, R147, R157, R158: RESET puts every block at its reset values and abandons
whatever was in progress; the stored image stays, but for one whose write it cuts short, and so do the levels of the
door input lines. That the bit rate stays as it is until the straps are read and the image-valid mark is clear until the
image has been checked, the free orders used up, the queue of commands, and the value 0 of a setpoint in use are the
model's (assumption log, entries 6 to 9). -/
def Obligations.ResetAbandonsEverything : Prop :=
  ∀ (s : State) (strap1 strap0 : Bool),
    exec (.reset strap1 strap0) s = .next
      { State.reset with
        part :=
          { op := .starting, bitRate := s.part.bitRate, autorun := false, imageValid := false, strap1 := strap1,
            strap0 := strap0 }
        store := { image := if s.store.write.isSome then .broken else s.store.image, write := none }
        doors := { State.reset.doors with lines := s.doors.lines.map fun l => { l with timing := none } }
        choices := s.choices
        pending := s.pending }

/-- R19, R54, R157 to R159, R162: at the end of STARTING a valid image is in force, and the built-in defaults on an
invalid one; the straps give the bit rate, the lines their settled levels, auto-run the operating state, and READY is
the first report sent. In CONFIGURE every block is at rest; entry into RUN acts on every block, from rest, as START
does. The value 0 of a setpoint in use at rest is the model's (assumption log, entry 9); that a zone gives its exhaust
and its light notice even where stage, egress floor and requests stay 0 is how it reads R132 and R148 (entry 17). -/
def Obligations.StartingEndEntersOperation : Prop :=
  ∀ (s : State) (image : Option Stored),
    s.part.op = .starting →
    (match image with
     | some c => s.store.image = .written c (crc (Config.imageBytes c)) ∧ c.mask ≤ 3
     | none => ∀ c, s.store.image ≠ .written c (crc (Config.imageBytes c))) →
      let config := image.getD Stored.builtIn
      let autorun := image.any fun c => c.autorun
      let entered : OpState := if autorun then .run else .configure
      let atRest : State :=
        { s with
          part :=
            { op := entered
              bitRate :=
                match s.part.strap1, s.part.strap0 with
                | false, false => .b19200
                | false, true => .b57600
                | true, false => .b115200
                | true, true => .b230400
              autorun := autorun, imageValid := image.isSome, strap1 := s.part.strap1, strap0 := s.part.strap0 }
          zones := config.zones
          loads := config.loads.map Load.atRest
          calendar :=
            { Calendar.atReset config with
              day := s.calendar.day, second := s.calendar.second, tenth := s.calendar.tenth }
          doors :=
            { doors := config.doors.map Door.atRest, filter := config.filter
              lines := s.doors.lines.map fun l => { l with settled := l.high, timing := none } }
          readings := { sensors := config.sensors.map Sensor.atRest, settings := config.sensing }
          air := Air.atRest config.air
          heat := Heat.atRest config.heat config.defaultProfile
          light := Light.atRest config.defaultProfile
          budget := Budget.atRest (config.profiles.get config.defaultProfile) config.rotationPeriod
          link :=
            { Link.atReset config.mask config.link with
              idle := Timer.start config.link.idle
              sending := some (.report
                ⟨s.calendar.day, s.calendar.second, true, .ready Config.revision image.isSome entered⟩ false) }
          drafts := [], inFlight := [] }
      (autorun = false → exec .startingEnd s = .next atRest)
      ∧ (autorun = true → ∃ t, exec .startingEnd s = .next t ∧ BlocksStarted atRest t
          ∧ atRest.onlyChanges t [.calendar, .doors, .readings, .air, .heat, .light, .budget, .inFlight])

/-- R159, R163, Table 10-3: a configuration stored with success comes back whole, item by item, after a reset, and
auto-run chooses the state that is then entered. -/
def Obligations.StoredConfigurationComesBack : Prop :=
  ∀ (s : State) (strap1 strap0 : Bool), s.takesRequests = true →
    ∃ c t₁ t₂ t₃ t₄, exec .store s = .next t₁ ∧ exec (.storeWriteEnd true) t₁ = .next t₂
      ∧ exec (.reset strap1 strap0) t₂ = .next t₃ ∧ exec .startingEnd t₃ = .next t₄
      ∧ IsConfiguration c s ∧ IsConfiguration c t₄ ∧ t₄.part.imageValid = true
      ∧ t₄.part.op = if s.part.autorun then .run else .configure

/-- R158, R163, Table 10-3: STORE takes a snapshot of every item of the configuration and makes the image invalid; the
end of the write makes it valid or not, and forms the reply. No request is taken between the two, or in STARTING (R158).
That the image counts as broken from the moment the write begins is read from that rule (assumption log, entry 7); that
a request which comes then is passed over, not queued, is the model's choice (entry 4). -/
def Obligations.StoreWritesSnapshot : Prop :=
  (∀ s : State, s.takesRequests = true → ∃ c, IsConfiguration c s ∧
    exec .store s = .next (State.settle
      { s with
        part := { s.part with imageValid := false }
        store :=
          { image := .broken
            write := some { snapshot := c, answers := decide (s.link.handed = some .store) } }
        link := { s.link with handed := if s.link.handed = some .store then none else s.link.handed } }))
  ∧ (∀ (c : Instr) (frame : Byte × List Byte) (s : State),
    encodeRequest c = some frame → s.part.op = .starting ∨ s.store.write ≠ none → exec c s = .next s.settle)
  ∧ ∀ (s : State) (w : StoreWrite) (verified : Bool), s.store.write = some w →
    exec (.storeWriteEnd verified) s = .next (State.settle
      { s with
        part := { s.part with imageValid := verified }
        store :=
          { image := if verified then .written w.snapshot (crc (Config.imageBytes w.snapshot)) else .broken
            write := none }
        link :=
          { s.link with
            reply := some ⟨0x44, if verified then .ok else .storeFailed, s.link.overrun, [], w.answers⟩
            overrun := false } })

/-- R19, R52, R74, R89, R90, R110, R124, R132, R148, R160: START in CONFIGURE enters RUN and starts every block, the
calendar's rotation with them where one can run; in RUN it is refused. That a zone gives its exhaust and its light
notice at START even where stage, egress floor and requests stay 0 is how the model reads R132 and R148 beside R103
and R129 (assumption log, entry 17). -/
def Obligations.StartEntersRun : Prop :=
  ∀ s : State, s.takesRequests = true →
    (s.part.op = .run → AnswersOnly .start .wrongState [] s)
    ∧ (s.part.op = .configure →
        CompletesWith .start .ok [] s
          [.part, .calendar, .doors, .readings, .air, .heat, .light, .budget, .inFlight] fun b =>
            b.part = { s.part with op := .run } ∧ BlocksStarted s b)

/-- R19, R39, R52, R73, R89, R110, R124, R132, R148, R161: STOP in RUN enters CONFIGURE and puts every block at rest; in
CONFIGURE it is refused. That what is on the way, notices and reports being formed, is dropped is the model's choice
(assumption log, entry 24), and so is the value 0 of a setpoint in use at rest (entry 9). -/
def Obligations.StopEntersConfigure : Prop :=
  ∀ s : State, s.takesRequests = true →
    if s.part.op = .run then
      Completes .stop .ok [] s
        { s with
          part := { s.part with op := .configure }
          loads := s.loads.map fun l => Load.atRest l.defn
          calendar :=
            { s.calendar with
              active := if s.calendar.committed then s.calendar.pendingTable else s.calendar.active
              committed := false
              cursor := none
              lookahead := none
              overrides := Table.fill 12 none
              inForce := Table.fill 12 s.calendar.defaultProfile
              siteProfile := s.calendar.defaultProfile }
          doors := { s.doors with doors := s.doors.doors.map fun d => Door.atRest d.defn }
          readings := { s.readings with sensors := s.readings.sensors.map fun n => Sensor.atRest n.defn }
          air := Air.atRest s.air.settings
          heat := Heat.atRest s.heat.settings s.calendar.defaultProfile
          light := Light.atRest s.calendar.defaultProfile
          budget := Budget.atRest (s.calendar.profiles.get s.calendar.defaultProfile) s.budget.period
          drafts := []
          inFlight := [] }
    else AnswersOnly .stop .wrongState [] s

/-! ### Status reads (R4, R13, R50, R71, R87, R146, R162, R166, R168) -/

/-- R4, R13, R50, R71, R87, R146, R162, R164, R166, R168, Tables 11-2 and 11-7 to 11-15: each status read answers OK
with its record, of its length and with every field at its offset, or refuses an item out of range, and changes
nothing. The fields of an undefined load, the duty shown and the rounding up of remaining seconds are read from the
manual by inference (assumption log, entry 11). -/
def Obligations.StatusReadsAnswer : Prop :=
  CodesHold ∧ ∀ s : State, s.takesRequests = true →
    Reads .partStatus s 5 (partFields s.part)
    ∧ Reads .calendarStatus s 31 (calendarFields s.calendar)
    ∧ (s.budget.shed.length ≤ 94 →
        Reads .budgetStatus s (24 + s.budget.shed.length + queueSent s.budget) (budgetFields s.budget))
    ∧ (∀ z : Zone,
        if s.zones.get z = .undefined then AnswersOnly (.zoneStatus z) .notFound [] s
        else Reads (.zoneStatus z) s 32 (zoneFields s z))
    ∧ (∀ n : LoadNo, Reads (.loadStatus n) s 27 (loadFields s n))
    ∧ (∀ d : DoorNo, Reads (.doorStatus d) s 18 (doorFields s d))
    ∧ (∀ n : SensorNo, Reads (.sensorStatus n) s 11 (sensorFields s n))
    ∧ (∀ p : ProfileNo, Reads (.profileRead p) s 13 (profileFields p (s.calendar.profiles.get p)))
    ∧ (∀ r : Fin 24,
        Reads (.planRead 0 r) s 8 (rowFields 0 r (s.calendar.active.get r))
        ∧ Reads (.planRead 1 r) s 8 (rowFields 1 r (s.calendar.pendingTable.get r)))
    ∧ (∀ k, 12 ≤ k → AnswersOnly (.zoneStatus k) .notFound [] s)
    ∧ (∀ k, 64 ≤ k → AnswersOnly (.loadStatus k) .notFound [] s)
    ∧ (∀ k, 32 ≤ k → AnswersOnly (.doorStatus k) .notFound [] s)
    ∧ (∀ k, 40 ≤ k → AnswersOnly (.sensorStatus k) .notFound [] s)
    ∧ (∀ k, 8 ≤ k → AnswersOnly (.profileRead k) .badField [] s)
    ∧ ∀ t r, 2 ≤ t ∨ 24 ≤ r → AnswersOnly (.planRead t r) .badField [] s

/-! ### Zones, loads and drive lines (chapter 1) -/

/-- R2: the checks of DEF-ZONE in their order, and the new kind. -/
def Obligations.DefZoneIsChecked : Prop :=
  ∀ (s : State) (zone kind : Nat), s.takesRequests = true →
    let answers (st : Status) : Prop := AnswersOnly (.defZone zone kind) st [] s
    (12 ≤ zone ∨ 3 ≤ kind → answers .badField)
    ∧ ∀ z : Zone, zone = z → kind ≤ 2 →
        let door : Prop := ∃ d : DoorNo, ((s.doors.doors.get d).defn.map fun f => f.zone) = some z
        let sensor : Prop := ∃ n : SensorNo, ((s.readings.sensors.get n).defn.map fun f => f.zone) = some z
        let load : Prop := ∃ l : LoadNo, ((s.loads.get l).defn.map fun f => f.zone) = some z
        (s.part.op = .run → answers .wrongState)
        ∧ (s.part.op ≠ .run → kind = 0 → door ∨ sensor ∨ load → answers .inUse)
        ∧ (s.part.op ≠ .run → kind = 2 → door → answers .inUse)
        ∧ (s.part.op ≠ .run → ¬(kind = 0 ∧ (door ∨ sensor ∨ load)) → ¬(kind = 2 ∧ door) →
            Completes (.defZone zone kind) .ok [] s
              { s with zones := s.zones.set z (match kind with | 0 => .undefined | 1 => .dock | _ => .floor) })

/-- R6 to R8, R10 to R12, Table 1-3: the checks of DEF-LOAD in their order, what it defines or removes in CONFIGURE,
and in RUN the base priority for a definition that it otherwise repeats, with its pass. One that is refused changes no
field of any load and starts no pass: it changes nothing but the link's reply (R12). The effective priority at rest is
read from the manual by inference (assumption log, entry 12); that the drive line of a load that NONE removes keeps its
duty until its next pulse period starts is the model's choice, against R14's duty 0 at all times (entry 28). -/
def Obligations.DefLoadIsChecked : Prop :=
  (∀ (s : State) (f : LoadFields), s.takesRequests = true →
    let answers (st : Status) : Prop := AnswersOnly (.defLoad f) st [] s
    (64 ≤ f.load ∨ 5 ≤ f.type → answers .badField)
    ∧ (f.type ≠ 0 → ¬DefLoadInRange f → answers .badField)
    ∧ ∀ n : LoadNo, f.load = n →
        (f.type = 0 → s.part.op = .run → answers .wrongState)
        ∧ (f.type = 0 → s.part.op ≠ .run →
            Completes (.defLoad f) .ok [] s { s with loads := s.loads.set n (Load.atRest none) })
        ∧ (DefLoadInRange f → s.part.op ≠ .run →
            ((∀ z : Zone, f.zone = z → s.zones.get z = .undefined) → answers .notFound)
            ∧ (f.door ≠ 255 → (∀ d : DoorNo, f.door = d → (s.doors.doors.get d).defn = none) → answers .notFound)
            ∧ ∀ z : Zone, f.zone = z → s.zones.get z ≠ .undefined →
                let defines (door : Option DoorNo) : Prop :=
                  Completes (.defLoad f) .ok [] s
                    { s with
                      loads := s.loads.set n
                        { defn := some
                            { type := match f.type with | 1 => .heater | 2 => .exhaust | 3 => .curtain | _ => .light
                              zone := z, maxLevel := f.maxLevel
                              draws := [f.draw1, f.draw2, f.draw3, f.draw4].take f.drawCount
                              door := door, base := f.base
                              cls := if f.cls = 0 then .short else .long, minOff := f.minOff }
                          request := 0, grant := 0, drive := 0, minOff := none, priority := f.base } }
                (f.door = 255 → defines none)
                ∧ ∀ (d : DoorNo) (g : DoorDef), f.door = d → (s.doors.doors.get d).defn = some g →
                    if g.zone = z then defines (some d) else answers .badField)
        ∧ (DefLoadInRange f → s.part.op = .run →
            let repeats (d : LoadDef) : Prop :=
              f.type = d.type.code ∧ f.zone = d.zone ∧ f.maxLevel = d.maxLevel
              ∧ [f.draw1, f.draw2, f.draw3, f.draw4].take f.drawCount = d.draws
              ∧ f.door = (match d.door with | some k => k.val | none => 255) ∧ f.cls = d.cls.code
              ∧ f.minOff = d.minOff
            ((∀ d, (s.loads.get n).defn = some d → ¬repeats d) → answers .wrongState)
            ∧ ∀ d, (s.loads.get n).defn = some d → repeats d → s.zones.get d.zone ≠ .undefined →
                (∀ k, d.door = some k → ((s.doors.doors.get k).defn.map fun g => g.zone) = some d.zone) →
                  if f.base = d.base then answers .ok
                  else
                    Completes (.defLoad f) .ok [] s (State.pass
                      { s with
                        loads := s.loads.set n { s.loads.get n with defn := some { d with base := f.base } } })))
  ∧ ∀ (s t : State) (f : LoadFields) (r : Reply), s.takesRequests = true →
      exec (.defLoad f) s = .next t → t.link.answered = some r → r.status ≠ .ok → s.onlyChanges t [.link]

/-- R14, R15: at the start of a pulse period a drive line takes the duty of its load's drive level, and outside RUN, or
for an undefined load, the duty 0. -/
def Obligations.PulsePeriodTakesDuty : Prop :=
  ∀ (s : State) (n : LoadNo),
    exec (.pulsePeriodStart n) s = .next (State.settle
      { s with
        duty := s.duty.set n
          (match s.part.op, (s.loads.get n).defn with
           | .run, some f => 100 * (s.loads.get n).drive / f.maxLevel
           | _, _ => 0) })

/-! ### The shift calendar (chapter 2) -/

/-- R22, R23, R37, R38: SET-TIME out of range is refused; the first after the mark was set, and a move, set the clock
and let a resync place the cursor, which starts the rotation, corrects its minutes or is a shift boundary; a trim sets
the clock, and forward it brings the minute expiries it passes. That the tenth within the second stays is the model's
choice (assumption log, entry 16), and that each minute expiry is taken at its own minute is read from the manual by
inference (entry 16). -/
def Obligations.SetTimeSetsClock : Prop :=
  ∀ (s : State) (day second : Nat), s.takesRequests = true → s.calendar.second < 86400 →
    let old := s.calendar.day * 86400 + s.calendar.second
    let new := day * 86400 + second
    let clock (c : Calendar) : Calendar := { c with day := day, second := second, tenth := s.calendar.tenth }
    let jumps : Prop := s.calendar.unknown = true ∨ old + 120 < new ∨ new + 120 < old
    let rotates : Prop := s.part.op = .run ∧ s.calendar.anchor ≠ none ∧ ∃ r, s.calendar.active.get r ≠ .empty
    (65535 < day ∨ 86399 < second → AnswersOnly (.setTime day second) .badField [] s)
    ∧ (day ≤ 65535 → second ≤ 86399 →
        (jumps → ¬rotates →
          Completes (.setTime day second) .ok [] s { s with calendar := { clock s.calendar with unknown := false } })
        ∧ (jumps → rotates →
            CompletesWith (.setTime day second) .ok [] s [.calendar, .drafts, .inFlight]
              (Resynced s { clock s.calendar with unknown := false }))
        ∧ (¬jumps → s.part.op ≠ .run ∨ new < 60 * (old / 60 + 1) →
            Completes (.setTime day second) .ok [] s { s with calendar := clock s.calendar })
        ∧ (¬jumps → s.part.op = .run → 60 * (old / 60 + 1) ≤ new →
            ∃ b₁ : State, exec .minuteExpiry s = .next b₁.settle ∧ b₁.link = s.link
              ∧ (new < 60 * (old / 60 + 2) →
                  Completes (.setTime day second) .ok [] s { b₁ with calendar := clock b₁.calendar })
              ∧ (60 * (old / 60 + 2) ≤ new →
                  ∃ b₂ : State, exec .minuteExpiry b₁ = .next b₂.settle ∧ b₂.link = s.link
                    ∧ Completes (.setTime day second) .ok [] s { b₂ with calendar := clock b₂.calendar })))

/-- R24, R25, Table 2-1: DEF-PROFILE refuses a field out of range, and in RUN a profile in use; otherwise the record
takes the fields. The default profile counts as in force where a zone has it or where site budget and mode come from it,
which is how the model reads that bullet (assumption log, entry 15). -/
def Obligations.DefProfileIsChecked : Prop :=
  ∀ (s : State) (f : ProfileFields), s.takesRequests = true →
    let fits : Prop :=
      -100 ≤ f.dockSetpoint ∧ f.dockSetpoint ≤ 300 ∧ -100 ≤ f.floorSetpoint ∧ f.floorSetpoint ≤ 300
      ∧ f.dockLight ≤ 100 ∧ f.floorLight ≤ 100 ∧ f.egress ≤ 100 ∧ f.budget ≤ 20000 ∧ f.mode ≤ 1 ∧ f.purge ≤ 60
      ∧ f.preheat ≤ 1 ∧ f.egress ≤ f.dockLight ∧ f.egress ≤ f.floorLight
    (8 ≤ f.profile ∨ ¬fits → AnswersOnly (.defProfile f) .badField [] s)
    ∧ ∀ p : ProfileNo, f.profile = p → fits →
        let c := s.calendar
        let current : Prop :=
          ∃ row left stack length crew, c.cursor = some (.inShift row left stack)
            ∧ c.active.get? row = some (.shift p length crew)
        let used : Prop :=
          current ∨ (∃ z o, c.overrides.get z = some o ∧ o.profile = p) ∨ (∃ l, c.lookahead = some l ∧ l.profile = p)
          ∨ (c.defaultProfile = p ∧ ((∃ z, c.inForce.get z = p) ∨ c.siteProfile = p))
        (s.part.op = .run → used → AnswersOnly (.defProfile f) .inUse [] s)
        ∧ (¬(s.part.op = .run ∧ used) →
            Completes (.defProfile f) .ok [] s
              { s with
                calendar :=
                  { c with
                    profiles := c.profiles.set p
                      { dockSetpoint := f.dockSetpoint, floorSetpoint := f.floorSetpoint, dockLight := f.dockLight
                        floorLight := f.floorLight, egress := f.egress, budget := f.budget
                        mode := if f.mode = 0 then .static else .dynamic, purge := f.purge
                        preheat := decide (f.preheat = 1) } } })

/-- R28, Table 2-2: PLAN-ROW checks the row's fields, then that the pending table is open, and sets one row. -/
def Obligations.PlanRowSetsRow : Prop :=
  ∀ (s : State) (row : Nat) (f : RowFields), s.takesRequests = true →
    let fits : Prop :=
      f.kind = 0 ∨ (f.kind = 1 ∧ f.profile ≤ 7 ∧ 1 ≤ f.length ∧ f.length ≤ 1440 ∧ f.crew ≤ 15)
      ∨ (f.kind = 2 ∧ f.count ≤ 99) ∨ f.kind = 3
    (24 ≤ row ∨ ¬fits → AnswersOnly (.planRow row f) .badField [] s)
    ∧ (row < 24 → fits → s.calendar.committed = true → AnswersOnly (.planRow row f) .frozen [] s)
    ∧ ∀ r : Fin 24, row = r → s.calendar.committed = false →
        let sets (x : Row) : Prop :=
          Completes (.planRow row f) .ok [] s
            { s with calendar := { s.calendar with pendingTable := s.calendar.pendingTable.set r x } }
        (f.kind = 0 → sets .empty)
        ∧ (∀ p : ProfileNo, f.kind = 1 → f.profile = p → 1 ≤ f.length → f.length ≤ 1440 → f.crew ≤ 15 →
            sets (.shift p f.length f.crew))
        ∧ (f.kind = 2 → f.count ≤ 99 → sets (.repeatGroup f.count))
        ∧ (f.kind = 3 → sets .endGroup)

/-- R27, R29, Table 2-3: the validation of a plan, check by check, over the rows up to the last that is not EMPTY, and the
cycle length: of every SHIFT row the length times the counts of the groups that enclose it. -/
def Obligations.PlanValidationFollowsTable : Prop :=
  ∀ t : Table 24 Row,
    let rows := partRows t
    let opened (k : Nat) : Nat := repeats (rows.take k)
    let closed (k : Nat) : Nat := ends (rows.take k)
    let unbalanced : Prop := (∃ k, opened k < closed k) ∨ opened 24 ≠ closed 24
    let tooDeep : Prop := ∃ k, closed k + 3 < opened k
    let minutes := unrolledMinutes rows
    (planDetail t = some 1 ↔ unbalanced)
    ∧ (planDetail t = some 2 ↔ ¬unbalanced ∧ tooDeep)
    ∧ (¬unbalanced → cycleLength t = minutes)
    ∧ (¬unbalanced → ¬tooDeep → (∀ p n c, .shift p n c ∈ rows → 1 ≤ n) →
        (planDetail t = some 3 ↔ minutes = 0)
        ∧ (planDetail t = some 4 ↔ 0 < minutes ∧ minutes < 60)
        ∧ (planDetail t = some 5 ↔ 40320 < minutes)
        ∧ (planDetail t = none ↔ 60 ≤ minutes ∧ minutes ≤ 40320))

/-- R27, R34, R37: the walk over a table goes row by row as the manual says: a SHIFT row ends it, an EMPTY row is passed
over, a REPEAT opens its group, one of count 0 is passed over to its END, an END begins the group's next pass or leaves
the group, and after the last row the table is read again from row 0. The placement of minutes elapsed, reduced modulo the
cycle length, walks from row 0 and takes away the length of each SHIFT row, to the first that is longer than the minutes
still to be used. -/
def Obligations.WalkFollowsRows : Prop :=
  ∀ (t : Table 24 Row),
    let rows := partRows t
    (∀ i stack x, walk t i stack = some x →
      (∀ p n crew, rows[i]? = some (.shift p n crew) → x = .inShift i n stack)
      ∧ (rows[i]? = some .empty → walk t (i + 1) stack = some x)
      ∧ (∀ n, rows[i]? = some (.repeatGroup n) → 0 < n → walk t (i + 1) (⟨i, n⟩ :: stack) = some x)
      ∧ (∀ j, rows[i]? = some (.repeatGroup 0) → closes rows i j → walk t (j + 1) stack = some x)
      ∧ (∀ row passes outer, rows[i]? = some .endGroup → stack = ⟨row, passes⟩ :: outer →
          (2 ≤ passes → walk t (row + 1) (⟨row, passes - 1⟩ :: outer) = some x)
          ∧ (passes ≤ 1 → walk t (i + 1) outer = some x))
      ∧ (rows.length ≤ i → walk t 0 [] = some x))
    ∧ ∀ elapsed x, place t elapsed = some x →
        ∃ first, walk t 0 [] = some first ∧ Placed t first (elapsed % cycleLength t) x

/-- R29, R33, R34, R37: in a valid table the walk from row 0, the placement at any minutes elapsed, and the walk from the
row after any row placed, arrive at a SHIFT row of the table, with the minutes left in it, 1 to its length, and at most
three loop frames. -/
def Obligations.RotationIsPlaced : Prop :=
  ∀ (t : Table 24 Row), ValidTable t →
    let inShift (x : Option Cursor) (whole : Bool) : Prop :=
      ∃ row left stack p n crew, x = some (.inShift row left stack) ∧ t.get? row = some (.shift p n crew)
        ∧ 1 ≤ left ∧ left ≤ n ∧ (whole = true → left = n) ∧ stack.length ≤ 3
    inShift (walk t 0 []) true
    ∧ ∀ e, inShift (place t e) false
      ∧ ∀ row left stack, place t e = some (.inShift row left stack) → inShift (walk t (row + 1) stack) true

/-- R29 to R31, R37, R38, R42, R43: PLAN-COMMIT refuses a committed or an invalid table, adopts a valid one at once where
no rotation runs, which starts the rotation where one can run, and commits it where one does run, the lookahead then taken
from it; PLAN-WITHDRAW opens it again, the lookahead then taken from the active table. That the minutes are worked out
afresh at a commit too, where R43 also says that a commit does not change them, is the model's choice (assumption log,
entry 30). -/
def Obligations.PlansAreCommittedAndWithdrawn : Prop :=
  ∀ s : State, s.takesRequests = true →
    let c := s.calendar
    let valid : Prop := c.committed = false ∧ planDetail c.pendingTable = none
    let taken (d : Calendar) (b : State) : Prop :=
      b.calendar = { d with lookahead := b.calendar.lookahead } ∧ LookaheadTaken b.calendar
      ∧ (s.part.op = .run → s.gives b [.lookaheadNotice b.calendar.lookahead])
    (c.committed = true → AnswersOnly .planCommit .frozen [] s)
    ∧ (∀ d, c.committed = false → planDetail c.pendingTable = some d →
        AnswersOnly .planCommit .planInvalid [byte d] s)
    ∧ (valid → c.cursor = none → (s.part.op ≠ .run ∨ c.unknown = true ∨ c.anchor = none) →
        Completes .planCommit .ok [0] s { s with calendar := { c with active := c.pendingTable } })
    ∧ (valid → c.cursor = none → s.part.op = .run → c.unknown = false → c.anchor ≠ none →
        CompletesWith .planCommit .ok [0] s [.calendar, .drafts, .inFlight]
          (Resynced s { c with active := c.pendingTable }))
    ∧ (valid → c.cursor ≠ none →
        CompletesWith .planCommit .ok [1] s [.calendar, .inFlight] (taken { c with committed := true }))
    ∧ (c.committed = false → AnswersOnly .planWithdraw .notFound [] s)
    ∧ (c.committed = true →
        CompletesWith .planWithdraw .ok [] s [.calendar, .inFlight] (taken { c with committed := false }))

/-- R36 to R38: PLAN-ANCHOR sets the anchor, and in RUN a resync places the cursor where a rotation can run: it starts the
rotation, corrects its minutes, or, at another position, is a shift boundary. -/
def Obligations.PlanAnchorResyncs : Prop :=
  ∀ (s : State) (day minute : Nat), s.takesRequests = true →
    let c : Calendar := { s.calendar with anchor := some ⟨day, minute⟩ }
    (65535 < day ∨ 1439 < minute → AnswersOnly (.planAnchor day minute) .badField [] s)
    ∧ (day ≤ 65535 → minute ≤ 1439 →
        (¬(s.part.op = .run ∧ CanRotate c) → Completes (.planAnchor day minute) .ok [] s { s with calendar := c })
        ∧ (s.part.op = .run → CanRotate c →
            CompletesWith (.planAnchor day minute) .ok [] s [.calendar, .drafts, .inFlight] (Resynced s c)))

/-- R3, R44, R45, R47 to R49: OVERRIDE and OVERRIDE-END are checked in their order, set or remove the records of the
zones named, and the profiles in force follow. -/
def Obligations.OverridesAreSetAndEnded : Prop :=
  ∀ (s : State) (k duration : Nat) (ks : List Nat), s.takesRequests = true →
    let begins := Instr.override k duration ks
    let ends := Instr.overrideEnd ks
    let fitsList : Prop := 1 ≤ ks.length ∧ ks.length ≤ 12
    let fits : Prop := k ≤ 7 ∧ duration ≤ 1440 ∧ fitsList
    let missing : Prop := ∃ j ∈ ks, ∀ z : Zone, z.val = j → s.zones.get z = .undefined
    let becomes (o : Option Override) (b : State) : Prop :=
      ProfilesFollow s b []
      ∧ b.calendar =
        { s.calendar with
          overrides := b.calendar.overrides, inForce := b.calendar.inForce, siteProfile := b.calendar.siteProfile }
      ∧ ∀ z, b.calendar.overrides.get z = if z.val ∈ ks then o else s.calendar.overrides.get z
    (¬fits → AnswersOnly begins .badField [] s)
    ∧ (fits → s.part.op ≠ .run → AnswersOnly begins .wrongState [] s)
    ∧ (fits → s.part.op = .run → missing → AnswersOnly begins .notFound [] s)
    ∧ (∀ p : ProfileNo, k = p → fits → s.part.op = .run → ¬missing →
        CompletesWith begins .ok [] s [.calendar, .inFlight]
          (becomes (some ⟨p, if duration = 0 then .untilEnded else .minutes duration⟩)))
    ∧ (¬fitsList → AnswersOnly ends .badField [] s)
    ∧ (fitsList → s.part.op ≠ .run → AnswersOnly ends .wrongState [] s)
    ∧ (fitsList → s.part.op = .run →
        missing ∨ (∃ z : Zone, z.val ∈ ks ∧ s.calendar.overrides.get z = none) → AnswersOnly ends .notFound [] s)
    ∧ (fitsList → s.part.op = .run → ¬missing →
        (∀ z : Zone, z.val ∈ ks → s.calendar.overrides.get z ≠ none) →
          CompletesWith ends .ok [] s [.calendar, .inFlight] (becomes none))

/-- R26, R46 to R49: SET-CALENDAR names the default profile, and a timed override that expires is removed; the profiles
in force follow. That the expiry is taken at whatever minutes are left is the model's choice (assumption log, entry 2).
That SET-CALENDAR works them out in CONFIGURE too is the model's reading (assumption log, entry 14). -/
def Obligations.DefaultProfileAndExpiryAreFollowed : Prop :=
  ∀ s : State,
    (s.takesRequests = true →
      (∀ k, 8 ≤ k → AnswersOnly (.setCalendar k) .badField [] s)
      ∧ ∀ p : ProfileNo, CompletesWith (.setCalendar p) .ok [] s [.calendar, .inFlight] fun b =>
          ProfilesFollow s b []
          ∧ b.calendar =
            { s.calendar with
              defaultProfile := p, inForce := b.calendar.inForce, siteProfile := b.calendar.siteProfile })
    ∧ ∀ z p n, s.part.op = .run → s.calendar.overrides.get z = some ⟨p, .minutes n⟩ →
        LeadsTo (.overrideExpiry z) s [.calendar, .inFlight] fun b =>
          ProfilesFollow s b []
          ∧ b.calendar =
            { s.calendar with
              overrides := s.calendar.overrides.set z none, inForce := b.calendar.inForce
              siteProfile := b.calendar.siteProfile }

/-- R20, R21, R32, R35, R39, R42, R43, R46, R134: the clock reaches its next minute, day or unknown day 0. In RUN the
timed overrides, the cursor, the lookahead and a timed cap count it, and the Air Unit is told; the last minute of a
shift, and the arrival of a waiting rotation at its anchor, are shift boundaries. That a cap counted down to 0 minutes
is still present until CAP_EXPIRY, and that the wrap stops the rotation before the minute is counted, is read from the
manual (assumption log, entry 18); that MINUTE_EXPIRY comes wherever in its minute the clock stands is the model's
choice (entry 2). -/
def Obligations.MinuteExpiryCounts : Prop :=
  ∀ s : State,
    let c := s.calendar
    let minute := c.second / 60 + 1
    let wraps : Prop := 1440 ≤ minute ∧ 65535 ≤ c.day
    LeadsTo .minuteExpiry s [.calendar, .budget, .drafts, .inFlight] fun b =>
      let clock (d : Calendar) : Calendar :=
        { d with day := b.calendar.day, second := b.calendar.second, tenth := 0, unknown := b.calendar.unknown }
      let stopped (d : Calendar) : Calendar :=
        { d with
          active := if c.committed then c.pendingTable else c.active
          committed := false, cursor := none, lookahead := none }
      let counted (o : Option Override) : Option Override :=
        match o with
        | some ⟨p, .minutes n⟩ => if n ≤ 1 then none else some ⟨p, .minutes (n - 1)⟩
        | o => o
      let now : Calendar := { clock c with overrides := c.overrides.map counted }
      let settles (d : Calendar) : Prop :=
        b.calendar = { d with inForce := b.calendar.inForce, siteProfile := b.calendar.siteProfile }
        ∧ b.drafts = s.drafts
      let looks : Prop := ProfilesFollow s b [.airMinuteExpiryNotice, .lookaheadNotice b.calendar.lookahead]
      let counts (x : Cursor) : Prop :=
        looks ∧ settles { now with cursor := some x, lookahead := b.calendar.lookahead }
        ∧ b.calendar.lookahead.map (fun l => l.profile) = c.lookahead.map (fun l => l.profile)
        ∧ ∀ l, b.calendar.lookahead = some l → LookaheadMinutes b.calendar l.minutes
      (minute < 1440 → b.calendar.day = c.day ∧ b.calendar.second = 60 * minute)
      ∧ (1440 ≤ minute → c.day < 65535 → b.calendar.day = c.day + 1 ∧ b.calendar.second = 0)
      ∧ (wraps → b.calendar.day = 0 ∧ b.calendar.second = 0)
      ∧ (b.calendar.unknown = true ↔ c.unknown = true ∨ wraps)
      ∧ (s.part.op ≠ .run →
          b.budget = s.budget ∧ b.drafts = s.drafts ∧ b.inFlight = s.inFlight
          ∧ b.calendar.cursor = (if wraps then none else c.cursor)
          ∧ (¬wraps ∨ c.cursor = none → b.calendar = clock c))
      ∧ (s.part.op = .run →
          b.budget =
            { s.budget with
              cap := s.budget.cap.map fun x =>
                { x with span := match x.span with | .untilEnded => .untilEnded | .minutes n => .minutes (n - 1) } }
          ∧ (c.cursor = none → settles now ∧ ProfilesFollow s b [.airMinuteExpiryNotice])
          ∧ (c.cursor ≠ none → wraps → settles (stopped now) ∧ looks)
          ∧ (∀ row left stack, c.cursor = some (.inShift row left stack) → ¬wraps →
              (2 ≤ left → counts (.inShift row (left - 1) stack))
              ∧ (left ≤ 1 → ShiftBegins s { now with cursor := walk c.active (row + 1) stack } b [.airMinuteExpiryNotice]))
          ∧ ∀ a, c.cursor = some .waiting → c.anchor = some a → ¬wraps →
              (b.calendar.day = a.day → b.calendar.second = 60 * a.minute →
                ShiftBegins s { now with cursor := walk c.active 0 [] } b [.airMinuteExpiryNotice])
              ∧ (¬(b.calendar.day = a.day ∧ b.calendar.second = 60 * a.minute) → counts .waiting))

/-- R32, R35, R40 to R43, R49: the end of a shift, and the end of a wait at the anchor, is a shift boundary: "until
boundary" overrides end, a committed table is adopted and re-bases the anchor, the cursor walks on, the profiles and the
lookahead follow, the BOUNDARY report is begun and the other units are told. That SHIFT_END is taken at whatever minutes
are left, and at any second of the anchor's minute, is the model's choice (assumption log, entry 2). -/
def Obligations.ShiftEndIsBoundary : Prop :=
  ∀ s : State, s.part.op = .run →
    let c := s.calendar
    let begins (x : Option Cursor) : Prop :=
      LeadsTo .shiftEnd s [.calendar, .drafts, .inFlight] fun b => ShiftBegins s { c with cursor := x } b []
    (∀ row left stack, c.cursor = some (.inShift row left stack) → begins (walk c.active (row + 1) stack))
    ∧ ∀ a, c.cursor = some .waiting → c.anchor = some a →
        (c.day = a.day → c.second / 60 = a.minute → begins (walk c.active 0 []))
        ∧ (¬(c.day = a.day ∧ c.second / 60 = a.minute) → exec .shiftEnd s = .next s.settle)

/-! ### Dock doors (chapter 3) -/

/-- R54, R55, R60 to R62, R70: a change of a door input line is timed against the settled level from the moment it
begins; SET-DOORS sets the filter time, and each line that has differed for that long settles at once: in RUN the
doors change and notices are given as by settled changes of these lines, one after the other. That a level counts from
the tenth in which it begins is the model's choice (assumption log, entry 5), and so is that the order of these
changes is free (entry 6). -/
def Obligations.DoorInputsAreFiltered : Prop :=
  (∀ (s : State) (n : LineNo) (high : Bool),
    let l := s.doors.lines.get n
    let timing : Option Nat :=
      if s.part.op = .starting then l.timing else if high = l.settled then none else some (l.timing.getD 0)
    exec (.doorInputChange n high) s = .next (State.settle
      { s with
        doors :=
          { s.doors with lines := s.doors.lines.set n { high := high, settled := l.settled, timing := timing } } }))
  ∧ ∀ (s : State) (v : Nat), s.takesRequests = true →
      (v < 1 ∨ 20 < v → AnswersOnly (.setDoors v) .badField [] s)
      ∧ (1 ≤ v → v ≤ 20 →
          CompletesWith (.setDoors v) .ok [] s [.doors, .inFlight, .choices] fun b =>
            b.doors.filter = v
            ∧ (s.part.op ≠ .run → b.doors.doors = s.doors.doors ∧ b.inFlight = s.inFlight)
            ∧ (s.part.op = .run → ∃ lines : List LineNo,
                lines.Perm ((List.finRange 64).filter fun n => (s.doors.lines.get n).high ≠ (s.doors.lines.get n).settled
                  ∧ ∃ k, (s.doors.lines.get n).timing = some k ∧ v ≤ k)
                ∧ let chain := lines.foldl (fun t n => t.command (.settledChange n))
                    { s with doors := { s.doors with filter := v } }
                  b.doors.doors = chain.doors.doors ∧ b.inFlight = chain.inFlight)
            ∧ ∀ n, b.doors.lines.get n =
                (let l := s.doors.lines.get n
                 match l.timing with
                 | none => l
                 | some k => if v ≤ k ∧ l.high ≠ l.settled then { l with settled := l.high, timing := none } else l))

/-- R53, R54, R60 to R62: a line settles at its level; in RUN, at an enabled door, that opens or closes the door, or
brings or takes a trailer. That a line settles however long it has differed is the model's choice (assumption log, entry
2). -/
def Obligations.SettledChangeMovesDoor : Prop :=
  ∀ (s : State) (n : LineNo),
    let l := s.doors.lines.get n
    let k : DoorNo := lineDoor n
    let d := s.doors.doors.get k
    l.timing ≠ none → l.high ≠ l.settled →
      LeadsTo (.settledChange n) s [.doors, .inFlight] fun b =>
        b.doors.lines = s.doors.lines.set n { l with settled := l.high, timing := none }
        ∧ b.doors.filter = s.doors.filter
        ∧ (∀ j, j ≠ k → b.doors.doors.get j = s.doors.doors.get j)
        ∧ (s.part.op ≠ .run ∨ d.enabled = false → b.doors.doors.get k = d ∧ b.inFlight = s.inFlight)
        ∧ ∀ f : DoorDef, s.part.op = .run → d.defn = some f → f.enabled = true →
            let asserted (p : Polarity) : Bool := match p with | .high => l.high | .low => !l.high
            b.doors.doors.get k =
              if n.val % 2 = 0 then
                if asserted f.openPolarity then
                  match d.state, s.doors.trailerAsserted k with
                  | .closed, false =>
                    { d with state := .opened, dwell := Timer.start f.limit, opens := min 255 (d.opens + 1) }
                  | .closed, true => { d with state := .sealed, opens := min 255 (d.opens + 1) }
                  | _, _ => d
                else
                  match d.state with
                  | .opened | .dwell | .sealed => { d with state := .closed, dwell := none }
                  | _ => d
              else if asserted f.trailerPolarity then
                match d.state with
                | .opened | .dwell => { d with state := .sealed, dwell := none }
                | _ => d
              else
                match d.state with
                | .sealed => { d with state := .opened, dwell := Timer.start f.limit }
                | _ => d

/-- R64 to R66: at the expiry of the dwell timer a door in OPEN enters DWELL, counts the entry and raises its alert; the
report is queued where the alert was clear. ACK-DOOR clears an alert, or keeps a LEVEL alert whose door is still in DWELL.
That the expiry is taken at whatever time is left of its timer is the model's choice (assumption log, entry 2). -/
def Obligations.DoorAlertsAreRaisedAndCleared : Prop :=
  (∀ (s : State) (n : DoorNo) (f : DoorDef),
    let d := s.doors.doors.get n
    s.part.op = .run → d.defn = some f → d.state = .opened → d.dwell ≠ none →
      let entries := min 255 (d.entries + 1)
      LeadsTo (.dwellTimerExpiry n) s [.doors, .link, .inFlight] fun b =>
        b.doors =
          { s.doors with
            doors := s.doors.doors.set n { d with state := .dwell, dwell := none, entries := entries, alert := true } }
        ∧ b.link =
            if d.alert then s.link else (s.raise (.doorAlert n f.zone f.limit entries f.mode)).link)
  ∧ ∀ (s : State) (k : Nat), s.takesRequests = true →
    (32 ≤ k → AnswersOnly (.ackDoor k) .notFound [] s)
    ∧ ∀ n : DoorNo, k = n →
        let d := s.doors.doors.get n
        (d.defn = none → AnswersOnly (.ackDoor k) .notFound [] s)
        ∧ ∀ f, d.defn = some f →
            if d.alert = false then AnswersOnly (.ackDoor k) .ok [] s
            else if f.mode = .level ∧ d.state = .dwell then AnswersOnly (.ackDoor k) .stillActive [] s
            else
              Completes (.ackDoor k) .ok [] s
                { s with doors := { s.doors with doors := s.doors.doors.set n { d with alert := false } } }

/-- R68 to R70: the values of the Door Unit are those that the door states give, and each event at a door gives one notice
for each value that it changes, to each unit that reads it, and no other. -/
def Obligations.DoorEventsGiveNotices : Prop :=
  (∀ d : Doors, DoorValuesHold d)
  ∧ ∀ (s t : State) (c : Instr),
    s.part.op = .run → (∃ n, c = .settledChange n) ∨ (∃ n, c = .dwellTimerExpiry n) ∨ (∃ f, c = .defDoor f) →
      exec c s = .next t → DoorValuesGiven s t

/-- R9, R56 to R59, R63: the checks of DEF-DOOR in their order; in CONFIGURE the new definition, and in RUN the changes
of dwell limit, alert mode and enabled flag. -/
def Obligations.DefDoorIsChecked : Prop :=
  ∀ (s : State) (f : DoorFields), s.takesRequests = true →
    let answers (st : Status) : Prop := AnswersOnly (.defDoor f) st [] s
    let fits : Prop :=
      f.zone = 255
      ∨ (f.openPolarity ≤ 1 ∧ f.trailerPolarity ≤ 1 ∧ 10 ≤ f.limit ∧ f.limit ≤ 900 ∧ f.mode ≤ 1 ∧ f.enabled ≤ 1)
    let defn (z : Zone) : DoorDef :=
      { zone := z
        openPolarity := if f.openPolarity = 0 then .high else .low
        trailerPolarity := if f.trailerPolarity = 0 then .high else .low
        limit := f.limit
        mode := if f.mode = 0 then .edge else .level
        enabled := decide (f.enabled = 1) }
    (32 ≤ f.door ∨ ¬fits → answers .badField)
    ∧ ∀ n : DoorNo, f.door = n → fits →
        let d := s.doors.doors.get n
        let bound : Prop := ∃ l g, (s.loads.get l).defn = some g ∧ g.door = some n
        let sets (x : Door) : Prop :=
          Completes (.defDoor f) .ok [] s { s with doors := { s.doors with doors := s.doors.doors.set n x } }
        -- in CONFIGURE
        (s.part.op ≠ .run →
          (f.zone = 255 →
            (bound → d.defn ≠ none → answers .inUse)
            ∧ (¬bound ∨ d.defn = none → sets (Door.atRest none)))
          ∧ (f.zone ≠ 255 → (∀ z : Zone, f.zone = z → s.zones.get z = .undefined) → answers .notFound)
          ∧ ∀ z : Zone, f.zone = z →
              let stays : Prop := d.defn.map (fun p => p.zone) = some z
              (s.zones.get z = .floor → answers .badField)
              ∧ (s.zones.get z = .dock →
                  (¬stays → bound ∨ 8 ≤ s.doors.doors.entries.countP (·.inZone z) → answers .inUse)
                  ∧ (stays ∨ (¬bound ∧ s.doors.doors.entries.countP (·.inZone z) < 8) →
                      sets (Door.atRest (some (defn z))))))
        -- in RUN
        ∧ (s.part.op = .run →
            ((∀ p, d.defn = some p → f.zone = p.zone → f.openPolarity = p.openPolarity.code →
                f.trailerPolarity ≠ p.trailerPolarity.code) → answers .wrongState)
            ∧ ∀ p, d.defn = some p → f.zone = p.zone → s.zones.get p.zone = .dock →
                f.openPolarity = p.openPolarity.code → f.trailerPolarity = p.trailerPolarity.code →
                  let d' := { d with defn := some (defn p.zone) }
                  CompletesWith (.defDoor f) .ok [] s [.doors, .inFlight] fun b =>
                    b.doors =
                      { s.doors with
                        doors := s.doors.doors.set n
                          (if p.enabled = true ∧ f.enabled = 0 then
                             { d' with state := .disabled, evaluated := false, dwell := none, alert := false }
                           else if p.enabled = false ∧ f.enabled = 1 then
                             { d' with
                               evaluated := true
                               state :=
                                 if s.doors.openAsserted n = false then .closed
                                 else if s.doors.trailerAsserted n then .sealed else .opened
                               dwell :=
                                 if s.doors.openAsserted n = true ∧ s.doors.trailerAsserted n = false then
                                   Timer.start f.limit
                                 else none }
                           else if d.state = .opened ∧ p.limit ≠ f.limit then { d' with dwell := Timer.start f.limit }
                           else d') })

/-- R41, R67, R97, R103, R104, R107: at a shift boundary the Air and the Door Unit, in either order, enter their
figures in the BOUNDARY report and clear the figures of the shift; the second raises it, with ADOPTED behind it. Each
enters them in the first report being formed that lacks them, and in none where none does; the report of the oldest
boundary is raised once it has both (read from the manual by inference: assumption log, entry 19). The Air Unit then
recomputes every defined zone, with the reports and notices that brings. That a notice in turn is taken
whether or not it is in flight is the model's choice (entry 3), and so is that the order of several zones' reports is
free (entry 6). That BOUNDARY comes before the reports of the recomputation is read from the manual
by inference (entry 19). -/
def Obligations.BoundaryFiguresAreEntered : Prop :=
  ∀ s : State, s.part.op = .run →
    let airFigures : List AirFigures :=
      (List.finRange 12).map fun z =>
        let a := s.air.zones.get z
        let mean (g : Gas) (r : GasAir) : Option Nat :=
          if s.readings.monitors z g = true ∧ 0 < r.count then some (r.dose / r.count) else none
        if s.zones.get z = .undefined then ⟨none, none, 0, false⟩
        else ⟨mean .co a.co, mean .no2 a.no2, a.highest, a.exceeded⟩
    let doorFigures : List DoorFigures :=
      (List.finRange 12).map fun z =>
        let members := (List.finRange 32).filter fun n => ((s.doors.doors.get n).defn.map fun f => f.zone) = some z
        ⟨(members.map fun n => (s.doors.doors.get n).opens).sum,
          (members.map fun n => (s.doors.doors.get n).entries).sum⟩
    let raised (entered : List Draft) : List Draft × Link :=
      match entered with
      | ⟨head, some air, some doors, none⟩ :: rest => (rest, (s.raise (.boundary head air doors)).link)
      | ⟨head, some air, some doors, some a⟩ :: rest =>
        (rest, ((s.raise (.boundary head air doors)).raise (.adopted a)).link)
      | _ => (entered, s.link)
    let cleared (z : Zone) : AirZone :=
      let a := s.air.zones.get z
      let clear (g : Gas) (r : GasAir) : GasAir :=
        if s.readings.monitors z g then { r with dose := 0, count := 0, swa := none, shiftRatio := 0 } else r
      { a with co := clear .co a.co, no2 := clear .no2 a.no2, highest := 0, exceeded := false }
    let airTaken (entered : List Draft) : Prop :=
      s.inTurn .airShiftBoundary = true → LeadsTo .airShiftBoundary s [.air, .link, .drafts, .inFlight, .choices] fun b =>
        b.drafts = (raised entered).1
        ∧ AirRecomputed { s.takeFlight .airShiftBoundary with link := (raised entered).2 } b s.zonesDefined fun z =>
            (cleared z).recompute s.air.settings (s.readings.monitors z)
    let doorsTaken (entered : List Draft) : Prop :=
      s.inTurn .doorShiftBoundary = true → exec .doorShiftBoundary s = .next (State.settle
        { s.takeFlight .doorShiftBoundary with
          doors := { s.doors with doors := s.doors.doors.map fun x => { x with opens := 0, entries := 0 } }
          drafts := (raised entered).1, link := (raised entered).2 })
    (∀ before d after, s.drafts = before ++ d :: after → (∀ x ∈ before, x.air ≠ none) → d.air = none →
      airTaken (before ++ { d with air := some airFigures } :: after))
    ∧ ((∀ x ∈ s.drafts, x.air ≠ none) → airTaken s.drafts)
    ∧ (∀ before d after, s.drafts = before ++ d :: after → (∀ x ∈ before, x.doors ≠ none) → d.doors = none →
      doorsTaken (before ++ { d with doors := some doorFigures } :: after))
    ∧ ((∀ x ∈ s.drafts, x.doors ≠ none) → doorsTaken s.drafts)

/-! ### Sensor readings (chapter 4) -/

/-- R78, R79, R84 to R86: READING is clamped to its kind's range and taken; in RUN it restarts the quiet timer, ends a due
cycle and gives each zone figure that it changes. The figures are those that the sensors' values and states give. -/
def Obligations.ReadingIsTaken : Prop :=
  (∀ r : Readings, FiguresHold r)
  ∧ ∀ (s : State) (k : Nat) (value : Int), s.takesRequests = true →
    (40 ≤ k → AnswersOnly (.reading k value) .notFound [] s)
    ∧ ∀ n : SensorNo, k = n →
        let r := s.readings.sensors.get n
        (r.defn = none → AnswersOnly (.reading k value) .notFound [] s)
        ∧ ∀ d, r.defn = some d →
            let low : Int := match d.kind with | .temp => -400 | _ => 0
            let high : Int := match d.kind with | .temp => 600 | .co => 500 | .no2 => 200 | .lux => 2000
            let v := if value < low then low else if high < value then high else value
            let st : Status := if low ≤ value ∧ value ≤ high then .ok else .clamped
            let sets (x : Sensor) : Readings := { s.readings with sensors := s.readings.sensors.set n x }
            (s.part.op ≠ .run →
              Completes (.reading k value) st [] s { s with readings := sets { r with state := .fresh, value := some v } })
            ∧ (s.part.op = .run →
                CompletesWith (.reading k value) st [] s [.readings, .inFlight] fun b =>
                  FiguresGiven s b
                  ∧ b.readings = sets
                    { r with
                      state := .fresh, value := some v, due := none, dueCount := 0
                      quiet :=
                        match d.kind with
                        | .co | .no2 => Timer.start s.readings.settings.gasQuiet
                        | .temp | .lux => Timer.start s.readings.settings.otherQuiet })

/-- R75, R76: the checks of DEF-SENSOR in their order, and the new definition. -/
def Obligations.DefSensorIsChecked : Prop :=
  ∀ (s : State) (sensor kind zone : Nat), s.takesRequests = true →
    let c := Instr.defSensor sensor kind zone
    (40 ≤ sensor ∨ 5 ≤ kind → AnswersOnly c .badField [] s)
    ∧ ∀ n : SensorNo, sensor = n → kind ≤ 4 →
        let sets (d : Option SensorDef) : Prop :=
          Completes c .ok [] s
            { s with
              readings :=
                { s.readings with
                  sensors := s.readings.sensors.set n
                    { defn := d, state := .awaiting, value := none, quiet := none, due := none, dueCount := 0 } } }
        (s.part.op = .run → AnswersOnly c .wrongState [] s)
        ∧ (s.part.op ≠ .run → kind = 0 → sets none)
        ∧ (s.part.op ≠ .run → kind ≠ 0 → (∀ z : Zone, zone = z → s.zones.get z = .undefined) →
            AnswersOnly c .notFound [] s)
        ∧ ∀ z : Zone, zone = z → s.part.op ≠ .run → kind ≠ 0 → s.zones.get z ≠ .undefined →
            sets (some ⟨match kind with | 1 => .temp | 2 => .co | 3 => .no2 | _ => .lux, z⟩)

/-- R77, R95, R111: SET-SENSING, SET-AIR and SET-HEAT take all their settings or, where one is out of range, none; in RUN
SET-AIR and SET-HEAT recompute every defined zone, with the reports and notices that brings (R97, R103, R104, R114, R120,
R122). That the order of several zones' reports is free is the model's choice (assumption log, entry 6). -/
def Obligations.UnitSettingsAreTaken : Prop :=
  ∀ (s : State) (a b c d e : Nat), s.takesRequests = true →
    (if 10 ≤ a ∧ a ≤ 3600 ∧ 10 ≤ b ∧ b ≤ 3600 ∧ 5 ≤ c ∧ c ≤ 600 ∧ 1 ≤ d ∧ d ≤ 10 then
       Completes (.setSensing a b c d) .ok [] s { s with readings := { s.readings with settings := ⟨a, b, c, d⟩ } }
     else AnswersOnly (.setSensing a b c d) .badField [] s)
    ∧ (if 1 ≤ a ∧ a ≤ 500 ∧ 1 ≤ b ∧ b ≤ 500 ∧ 1 ≤ c ∧ c ≤ 200 ∧ 1 ≤ d ∧ d ≤ 200 ∧ 60 ≤ e ∧ e ≤ 1800 then
         (s.part.op ≠ .run →
           Completes (.setAir a b c d e) .ok [] s { s with air := { s.air with settings := ⟨a, b, c, d, e⟩ } })
         ∧ (s.part.op = .run →
             CompletesWith (.setAir a b c d e) .ok [] s [.air, .link, .inFlight, .choices] fun t =>
               AirRecomputed { s with air := { s.air with settings := ⟨a, b, c, d, e⟩ } } t s.zonesDefined fun z =>
                 let x := s.air.zones.get z
                 let part (v : Option Nat) (limit : Nat) : Nat :=
                   match v with | none => 0 | some n => min 255 (100 * n / limit)
                 let ratios (g : Gas) (short shift : Nat) (r : GasAir) : GasAir :=
                   if s.readings.monitors z g then { r with shortRatio := part r.sta short, shiftRatio := part r.swa shift }
                   else r
                 ({ x with co := ratios .co a b x.co, no2 := ratios .no2 c d x.no2 } : AirZone).recompute
                   ⟨a, b, c, d, e⟩ (s.readings.monitors z))
       else AnswersOnly (.setAir a b c d e) .badField [] s)
    ∧ (if a ≤ 150 ∧ 1 ≤ b ∧ b ≤ 60 ∧ 60 ≤ c ∧ c ≤ 1800 then
         (s.part.op ≠ .run →
           Completes (.setHeat a b c) .ok [] s { s with heat := { s.heat with settings := ⟨a, b, c⟩ } })
         ∧ (s.part.op = .run →
             CompletesWith (.setHeat a b c) .ok [] s [.heat, .link, .inFlight, .choices] fun t =>
               let s' : State := { s with heat := { s.heat with settings := ⟨a, b, c⟩ } }
               HeatRecomputed s' t s.zonesDefined fun z =>
                 (s.heat.zones.get z).recompute (s'.heatInputs z (s.heat.zones.get z)))
       else AnswersOnly (.setHeat a b c) .badField [] s)

/-- R81 to R83, R86: a quiet timer that expires begins a due cycle; a due timer that expires asks again or, at the due
count, gives the sensor up. That an expiry is taken at whatever time is left of its timer is the model's choice
(assumption log, entry 2). -/
def Obligations.SensorsAge : Prop :=
  ∀ (s : State) (n : SensorNo) (d : SensorDef),
    let r := s.readings.sensors.get n
    let sets (x : Sensor) : Readings := { s.readings with sensors := s.readings.sensors.set n x }
    s.part.op = .run → r.defn = some d →
      (r.quiet ≠ none →
        let state : SensorState := if r.state = .fresh then .quiet else r.state
        LeadsTo (.quietTimerExpiry n) s [.readings, .link] fun b =>
          b.readings = sets
            { r with state := state, quiet := none, due := Timer.start s.readings.settings.dueInterval, dueCount := 1 }
          ∧ b.link = (s.raise (.due n d state 1)).link)
      ∧ (r.due ≠ none → r.dueCount < s.readings.settings.dueCount →
          LeadsTo (.dueTimerExpiry n) s [.readings, .link] fun b =>
            b.readings = sets
              { r with due := Timer.start s.readings.settings.dueInterval, dueCount := r.dueCount + 1 }
            ∧ b.link = (s.raise (.due n d r.state (r.dueCount + 1))).link)
      ∧ (r.due ≠ none → s.readings.settings.dueCount ≤ r.dueCount →
          LeadsTo (.dueTimerExpiry n) s [.readings, .link, .inFlight] fun b =>
            b.readings = sets { r with state := .lost, value := none, due := none, dueCount := 0 }
            ∧ b.link = (s.raise (.sensorLost n d r.state)).link
            ∧ FiguresGiven s b)

/-! ### Air quality and exhaust (chapter 5) -/

/-- R86, R90 to R92: at a sample expiry the Air Unit has the notices of the Reading Unit that are in flight behind it,
each taken as an event of its own, so that its copies are the values of the last READINGs; it samples every monitored gas
that has a held value, and every sixth expiry closes the minute: the bucket joins the ring of 15, the averages and ratios
are worked out, and every defined zone is recomputed, with the reports and notices that brings (R97, R103, R104). That the
notices are taken before the sample is read from R86 beside R91 (assumption log, entry 29). That an expiry is taken at
whatever time is left of its timer is the model's choice (entry 2), and so is that the order of several zones' reports is
free (entry 6). -/
def Obligations.SampleExpirySamplesAndCloses : Prop :=
  ∀ (s : State) (k : SampleClock), s.part.op = .run → s.air.clock = some k →
    let readings := (s.inFlight.map fun f => f.notice).filter fun c => route c = some (.reading, .air)
    let t := readings.foldl State.command s
    let sample (r : GasAir) : GasAir :=
      match r.held with
      | none => r
      | some h =>
        { r with acc := ⟨r.acc.sum + h, r.acc.count + 1⟩, dose := r.dose + h, count := r.count + 1 }
    let part (v : Option Nat) (limit : Nat) : Nat := match v with | none => 0 | some n => min 255 (100 * n / limit)
    let mean (sum count : Nat) : Option Nat := if count = 0 then none else some (sum / count)
    let close (short shift : Nat) (r : GasAir) : GasAir :=
      let ring := (r.ring ++ [r.acc]).drop (r.ring.length - 14)
      let sta := mean (ring.map fun b => b.sum).sum (ring.map fun b => b.count).sum
      let swa := mean r.dose r.count
      { r with
        ring := ring, acc := ⟨0, 0⟩, sta := sta, swa := swa, shortRatio := part sta short, shiftRatio := part swa shift }
    let both (z : Zone) (co no2 : GasAir → GasAir) (a : AirZone) : AirZone :=
      { a with
        co := if s.readings.monitors z .co then co a.co else a.co
        no2 := if s.readings.monitors z .no2 then no2 a.no2 else a.no2 }
    let sampled (z : Zone) : AirZone :=
      if s.zones.get z = .undefined then t.air.zones.get z else both z sample sample (t.air.zones.get z)
    let t' : State :=
      { t with air := { t.air with clock := some ⟨Timer.start 10, k.expiries + 1⟩, zones := Table.ofFn sampled } }
    (∀ z before v after, readings = before ++ .heldValueNotice z .co v :: after →
      (∀ w, .heldValueNotice z .co w ∉ after) → s.zones.get z ≠ .undefined → s.readings.monitors z .co = true →
        (t.air.zones.get z).co.held = v)
    ∧ (∀ z before v after, readings = before ++ .heldValueNotice z .no2 v :: after →
      (∀ w, .heldValueNotice z .no2 w ∉ after) → s.zones.get z ≠ .undefined → s.readings.monitors z .no2 = true →
        (t.air.zones.get z).no2.held = v)
    ∧ LeadsTo .sampleExpiry s [.air, .link, .inFlight, .choices] fun b =>
      ((k.expiries + 1) % 6 ≠ 0 → b = t')
      ∧ ((k.expiries + 1) % 6 = 0 → AirRecomputed t' b s.zonesDefined fun z =>
          (both z (close s.air.settings.coShort s.air.settings.coShift)
            (close s.air.settings.no2Short s.air.settings.no2Shift) (sampled z)).recompute
            s.air.settings (s.readings.monitors z))

/-- R93, R96 to R99, R105, Table 5-3: what a recomputation of a zone makes of its figures: indices, door credit, the rise
at once, the fall with its margin of 10 once the hold has run out, stage 4 from an index of 100, and the purge floor. -/
def Obligations.AirStageIsDecided : Prop :=
  ∀ (settings : AirSettings) (monitors : Gas → Bool) (z : AirZone),
    let z' := z.recompute settings monitors
    let index (r : GasAir) : Nat :=
      max (max r.shortRatio r.shiftRatio) (if r.latch then 100 else if r.substitute then 90 else 0)
    let raw := max (if monitors .co then index z.co else 0) (if monitors .no2 then index z.no2 else 0)
    let eff := if raw < 100 then raw - min (5 * z.openCount) 20 else raw
    let band (e : Nat) : Nat := if e ≤ 39 then 0 else if e ≤ 59 then 1 else if e ≤ 79 then 2 else if e ≤ 99 then 3 else 4
    let floored (stage : Nat) : Nat := if z.purge ≠ none ∧ stage < 2 then 2 else stage
    z'.raw = raw ∧ z'.effective = eff
    ∧ z'.co = (if monitors .co then { z.co with index := index z.co } else z.co)
    ∧ z'.no2 = (if monitors .no2 then { z.no2 with index := index z.no2 } else z.no2)
    ∧ z'.openCount = z.openCount ∧ z'.purge = z.purge
    ∧ z'.highest =
        max z.highest (max (if monitors .co then z.co.shortRatio else 0) (if monitors .no2 then z.no2.shortRatio else 0))
    ∧ (z'.exceeded = true ↔ z.exceeded = true ∨ 100 ≤ raw)
    ∧ (100 ≤ raw → z'.stage = 4 ∧ z'.hold = Timer.start settings.hold)
    ∧ (raw < 100 → z.stage < band eff → z'.stage = floored (band eff) ∧ z'.hold = Timer.start settings.hold)
    ∧ (raw < 100 → band eff < z.stage → z.hold ≠ none → z'.stage = floored z.stage ∧ z'.hold = z.hold)
    ∧ (raw < 100 → band eff < z.stage → z.hold = none → z'.stage = floored (band (eff + 10)) ∧ z'.hold = none)
    ∧ (raw < 100 → band eff = z.stage → z'.stage = floored z.stage ∧ z'.hold = z.hold)

/-- R94, R100 to R104, R106: what the Air Unit does in RUN with each notice about a defined zone: the peak latch with a
held value, a substitute flag, a door count, and the purge of a new profile; and with a minute expiry, which counts down
every purge but one that began with it, the end of a purge and that of a stage hold, which recompute nothing. That a gas
which the zone does not monitor is left alone, that a notice in turn is taken whether or not it is in flight, and that a
hold or a purge may end at any count, is the model's (assumption log, entries 2 and 3); that the purge of a profile change
given on a minute expiry is not counted down by that expiry is read from the manual (entry 20). -/
def Obligations.AirNoticesAreTaken : Prop :=
  ∀ (s : State) (z : Zone), s.part.op = .run → s.zones.get z ≠ .undefined →
    let a := s.air.zones.get z
    let recomputed (c : Instr) (x : AirZone) : Prop :=
      s.inTurn c = true → LeadsTo c s [.air, .link, .inFlight] fun b =>
        AirRecomputed (s.takeFlight c) b [z] fun _ => x.recompute s.air.settings (s.readings.monitors z)
    let stores (c : Instr) (x : AirZone) : Prop :=
      s.inTurn c = true →
        exec c s = .next (State.settle { s.takeFlight c with air := { s.air with zones := s.air.zones.set z x } })
    let nothing (c : Instr) : Prop := s.inTurn c = true → exec c s = .next (s.takeFlight c).settle
    let latched (limit : Nat) (v : Option Nat) (old : Bool) : Bool :=
      match v with
      | none => old
      | some h => if 2 * limit ≤ h then true else if h < limit then false else old
    (∀ v, let c := Instr.heldValueNotice z .co v
      let new := latched s.air.settings.coShort v a.co.latch
      let x := { a with co := { a.co with held := v, latch := new } }
      if s.readings.monitors z .co = false then nothing c
      else if new = a.co.latch then stores c x else recomputed c x)
    ∧ (∀ v, let c := Instr.heldValueNotice z .no2 v
        let new := latched s.air.settings.no2Short v a.no2.latch
        let x := { a with no2 := { a.no2 with held := v, latch := new } }
        if s.readings.monitors z .no2 = false then nothing c
        else if new = a.no2.latch then stores c x else recomputed c x)
    ∧ (∀ flag, let c := Instr.airSubstituteFlagNotice z .co flag
        if s.readings.monitors z .co = false then nothing c
        else recomputed c { a with co := { a.co with substitute := flag } })
    ∧ (∀ flag, let c := Instr.airSubstituteFlagNotice z .no2 flag
        if s.readings.monitors z .no2 = false then nothing c
        else recomputed c { a with no2 := { a.no2 with substitute := flag } })
    ∧ (∀ n, recomputed (.airOpenUnsealedCountNotice z n) { a with openCount := n })
    ∧ (∀ p, let c := Instr.airProfileChangeNotice z p
        let minutes := (s.calendar.profiles.get p).purge
        (minutes = 0 → nothing c)
        ∧ (minutes ≠ 0 → ∃ fresh,
            recomputed c { a with purge := some ⟨minutes, fresh⟩ }
            ∧ (fresh = true ↔
                ∃ k, (∃ before after, s.inFlight = before ++ ⟨k, c⟩ :: after ∧ ∀ f ∈ before, f.notice ≠ c)
                  ∧ ⟨k, .airMinuteExpiryNotice⟩ ∈ s.inFlight)))
    ∧ exec (.purgeExpiry z) s = .next (State.settle
        { s with air := { s.air with zones := s.air.zones.set z { a with purge := none } } })
    ∧ exec (.exhaustStageHoldExpiry z) s = .next (State.settle
        { s with air := { s.air with zones := s.air.zones.set z { a with hold := none } } })
    ∧ (s.inTurn .airMinuteExpiryNotice = true → exec .airMinuteExpiryNotice s = .next (State.settle
        { s.takeFlight .airMinuteExpiryNotice with
          air :=
            { s.air with
              zones := s.air.zones.map fun x =>
                { x with
                  purge :=
                    match x.purge with
                    | none => none
                    | some ⟨m, true⟩ => some ⟨m, false⟩
                    | some ⟨m, false⟩ => if m ≤ 1 then none else some ⟨m - 1, false⟩ } } }))

/-! ### Heating (chapter 6) -/

/-- R113 to R121, Tables 6-4 and 6-5: what a recomputation of a zone makes of its figures: preheat and its end, the
setpoint in use, the frost state, the stage with its hold, and the cold flag. -/
def Obligations.HeatStageIsDecided : Prop :=
  ∀ (s : State) (zone : Zone) (z : HeatZone), s.zones.get zone ≠ .undefined →
    let z' := z.recompute (s.heatInputs zone z)
    let matching (p : ProfileNo) : Int :=
      match s.zones.get zone with
      | .dock => (s.calendar.profiles.get p).dockSetpoint
      | _ => (s.calendar.profiles.get p).floorSetpoint
    let floor := s.heat.settings.floor
    let base := max (floor : Int) (matching z.profile)
    let applies (l : Lookahead) (t : Int) : Prop :=
      s.heat.lookahead = some l ∧ (s.calendar.profiles.get l.profile).preheat = true
      ∧ base < max (floor : Int) (matching l.profile) ∧ z.temp = some t
    let leads (l : Lookahead) (t : Int) : Prop :=
      (l.minutes : Int) ≤ 120 ∧
        10 * ((l.minutes : Int) - 1) < (max (floor : Int) (matching l.profile) - t) * s.heat.settings.rate
    let band (e : Int) : Nat := if e ≤ 0 then 0 else if e ≤ 10 then 1 else if e ≤ 25 then 2 else 3
    let hold := if z.preheat = true ∧ z'.preheat = false then Timer.start s.heat.settings.hold else z.hold
    (z'.temp = z.temp ∧ z'.holdDown = z.holdDown ∧ z'.openCount = z.openCount ∧ z'.profile = z.profile)
    ∧ ((∀ l t, ¬applies l t) → z'.preheat = false ∧ z'.setpoint = base)
    ∧ (∀ l t, applies l t → 1 ≤ l.minutes →
        (z'.preheat = true ↔ z.preheat = true ∨ (s.heat.bar = false ∧ leads l t))
        ∧ z'.setpoint = if z'.preheat then max (floor : Int) (matching l.profile) else base)
    ∧ (z'.frost = true ↔
        (z.frost = true ∧ ∀ t, z.temp = some t → t < floor + 10) ∨ ∃ t, z.temp = some t ∧ t < floor)
    ∧ (z'.cold = true ↔ ∃ t, z.temp = some t ∧ t ≤ z'.setpoint - 30)
    ∧ (z'.frost = true → z'.stage = 3)
    ∧ (z'.frost = false → z.temp = none → z'.stage = 1)
    ∧ (∀ t, z'.frost = false → z.temp = some t →
        let e := z'.setpoint - t
        let ruled :=
          if z.stage < band e then band e else if band e < z.stage ∧ hold = none then band (e + 5) else z.stage
        z'.stage = if z.holdDown then min 1 ruled else ruled)
    ∧ z'.hold = if z.stage < z'.stage then Timer.start s.heat.settings.hold else hold

/-- R112, R114, R116, R119, R120, R122: what the Heat Unit does in RUN with each notice and with the expiry of a stage
hold: the copy that changes, the preheats that a boundary or another lookahead profile ends, and the zones recomputed,
with their reports and notices. That a notice in turn is taken whether or not it is in flight, and that a hold may end
at any count, is the model's (assumption log, entries 2 and 3), and so is that the order of several zones' reports is
free (entry 6). -/
def Obligations.HeatNoticesAreTaken : Prop :=
  ∀ (s : State) (z : Zone), s.part.op = .run → s.zones.get z ≠ .undefined →
    let h := s.heat.zones.get z
    let recomputed (c : Instr) (x : HeatZone) : Prop :=
      s.inTurn c = true → LeadsTo c s [.heat, .link, .inFlight] fun b =>
        HeatRecomputed (s.takeFlight c) b [z] fun _ => x.recompute (s.heatInputs z x)
    let ended (x : HeatZone) : HeatZone :=
      if x.preheat then { x with preheat := false, hold := Timer.start s.heat.settings.hold } else x
    (∀ v, recomputed (.zoneTemperatureNotice z v) { h with temp := v })
    ∧ (∀ flag, recomputed (.holdDownFlagNotice z flag) { h with holdDown := flag })
    ∧ (∀ p, recomputed (.heatProfileChangeNotice z p) { h with profile := p })
    ∧ (∀ n, s.inTurn (.heatOpenUnsealedCountNotice z n) = true →
        exec (.heatOpenUnsealedCountNotice z n) s = .next (State.settle
        { s.takeFlight (.heatOpenUnsealedCountNotice z n) with
          heat := { s.heat with zones := s.heat.zones.set z { h with openCount := n } } }))
    ∧ (h.hold ≠ none →
        LeadsTo (.heatStageHoldExpiry z) s [.heat, .link, .inFlight] fun b =>
          HeatRecomputed s b [z] fun _ =>
            HeatZone.recompute (s.heatInputs z { h with hold := none }) { h with hold := none })
    ∧ (∀ l, s.inTurn (.lookaheadNotice l) = true →
        LeadsTo (.lookaheadNotice l) s [.heat, .link, .inFlight, .choices] fun b =>
          let keeps : Bool := (s.heat.lookahead.map fun x => x.profile) == (l.map fun x => x.profile)
          let s' : State := { s.takeFlight (.lookaheadNotice l) with heat := { s.heat with lookahead := l, bar := false } }
          HeatRecomputed s' b s.zonesDefined fun y =>
            let x := if keeps then s.heat.zones.get y else ended (s.heat.zones.get y)
            x.recompute (s'.heatInputs y x))
    ∧ (s.inTurn .heatShiftBoundary = true →
        LeadsTo .heatShiftBoundary s [.heat, .link, .inFlight, .choices] fun b =>
          let s' : State := { s.takeFlight .heatShiftBoundary with heat := { s.heat with bar := true } }
          HeatRecomputed s' b s.zonesDefined fun y =>
            (ended (s.heat.zones.get y)).recompute (s'.heatInputs y (ended (s.heat.zones.get y))))

/-! ### Lighting (chapter 7) -/

/-- R125, R126, R128, R129: each notice of the Light Unit works out the zone's level, egress floor and requests, and
gives a light notice where the floor or a request changes in a zone that has LIGHT loads. That a notice in turn is taken
whether or not it is in flight is the model's choice (assumption log, entry 3). -/
def Obligations.LightNoticesAreTaken : Prop :=
  ∀ (s : State) (z : Zone), s.part.op = .run → s.zones.get z ≠ .undefined →
    let old := s.light.zones.get z
    let recomputed (c : Instr) (x : LightZone) (dock : Table 32 Bool) : Prop :=
      s.inTurn c = true → LeadsTo c s [.light, .inFlight] fun b =>
        let p := s.calendar.profiles.get x.profile
        let base := match s.zones.get z with | .dock => p.dockLight | _ => p.floorLight
        let level := max p.egress (base - x.lux / 20)
        let lamp (n : LoadNo) (f : LoadDef) : Prop := (s.loads.get n).defn = some f ∧ f.type = .light ∧ f.zone = z
        let request (f : LoadDef) : Nat :=
          match f.door with
          | some d => if dock.get d then 100 else level
          | none => level
        let changes : Prop :=
          (∃ n f, lamp n f) ∧ (p.egress ≠ old.floor ∨ ∃ n f, lamp n f ∧ request f ≠ s.light.requests.get n)
        b.light.zones = s.light.zones.set z { x with level := level, floor := p.egress }
        ∧ b.light.dock = dock
        ∧ (∀ n f, lamp n f → b.light.requests.get n = request f)
        ∧ (∀ n, (∀ f, ¬lamp n f) → b.light.requests.get n = s.light.requests.get n)
        ∧ (¬changes → (s.takeFlight c).given b [])
        ∧ (changes → (s.takeFlight c).given b [.lightNotice z p.egress (s.requestsIn .light z request)])
    (∀ p, recomputed (.lightProfileChangeNotice z p) { old with profile := p } s.light.dock)
    ∧ (∀ lux, recomputed (.zoneLuxNotice z lux) { old with lux := lux } s.light.dock)
    ∧ ∀ d isSealed f, (s.doors.doors.get d).defn = some f → f.zone = z →
        recomputed (.dockLightNotice d isSealed) old (s.light.dock.set d isSealed)

/-! ### The power budget (chapter 8) -/

/-- R5, R49, R103, R122, R129, R133, R136, Table 8-2: each notice makes its own change at the Budget Unit, whole, and a
pass follows in the same event. That a notice in turn is taken whether or not it is in flight, and that
a request above its load's maximum level is cut to it, is the model's choice (assumption log, entries 3 and 27). -/
def Obligations.BudgetNoticesRunPass : Prop :=
  ∀ (s : State) (z : Zone), s.part.op = .run → s.zones.get z ≠ .undefined →
    let copies := s.budget.zones.get z
    let runs (c : Instr) (loads : Table 64 Load) (x : Budget) : Prop :=
      s.inTurn c = true →
        exec c s = .next (State.settle (State.pass { s.takeFlight c with loads := loads, budget := x }))
    let copied (x : BudgetZone) : Budget := { s.budget with zones := s.budget.zones.set z x }
    let requested (t : LoadType) (rs : List (LoadNo × Nat)) (loads : Table 64 Load) : Prop :=
      ∀ n, loads.get n =
        match (s.loads.get n).defn, rs.lookup n with
        | some f, some r =>
          if f.type = t ∧ f.zone = z then { s.loads.get n with request := min r f.maxLevel } else s.loads.get n
        | _, _ => s.loads.get n
    (∀ stage rs, ∃ loads, requested .exhaust rs loads
      ∧ runs (.exhaustNotice z stage rs) loads (copied { copies with stage := stage }))
    ∧ (∀ cold frost rs, ∃ loads, requested .heater rs loads
        ∧ runs (.heatNotice z cold frost rs) loads (copied { copies with cold := cold, frost := frost }))
    ∧ (∀ floor rs, ∃ loads, requested .light rs loads
        ∧ runs (.lightNotice z floor rs) loads (copied { copies with floor := floor }))
    ∧ (∀ n r f, (s.loads.get n).defn = some f → f.type = .curtain →
        runs (.curtainRequestNotice n r)
          (s.loads.set n { s.loads.get n with request := min r f.maxLevel }) s.budget)
    ∧ (∀ flag, runs (.budgetSubstituteFlagNotice z .co flag) s.loads (copied { copies with subCo := flag })
        ∧ runs (.budgetSubstituteFlagNotice z .no2 flag) s.loads (copied { copies with subNo2 := flag }))
    ∧ ∀ n mode, runs (.siteProfileNotice n mode) s.loads
        { s.budget with
          site := n, mode := mode
          inForce := match s.budget.cap with | none => n | some c => min n c.value }

/-- R133 to R135: CAP and CAP-END are checked in their order, set or remove the demand cap, and a pass follows; so does
the expiry of a cap that counts minutes. That the expiry is taken at whatever minutes are left is the model's choice
(assumption log, entry 2). -/
def Obligations.DemandCapIsSetAndEnded : Prop :=
  ∀ (s : State) (value : Int) (duration : Nat),
    let capped (c : Option Cap) (force : Nat) : State :=
      State.pass { s with budget := { s.budget with cap := c, inForce := force } }
    let v := (max 0 (min 20000 value)).toNat
    (s.takesRequests = true →
      (1440 < duration → AnswersOnly (.cap value duration) .badField [] s)
      ∧ (duration ≤ 1440 → s.part.op ≠ .run → AnswersOnly (.cap value duration) .wrongState [] s)
      ∧ (duration ≤ 1440 → s.part.op = .run →
          Completes (.cap value duration) (if 0 ≤ value ∧ value ≤ 20000 then .ok else .clamped) [] s
            (capped (some ⟨v, if duration = 0 then .untilEnded else .minutes duration⟩) (min s.budget.site v)))
      ∧ (s.part.op ≠ .run → AnswersOnly .capEnd .wrongState [] s)
      ∧ (s.part.op = .run → s.budget.cap = none → AnswersOnly .capEnd .notFound [] s)
      ∧ (s.part.op = .run → s.budget.cap ≠ none → Completes .capEnd .ok [] s (capped none s.budget.site)))
    ∧ ∀ w n, s.part.op = .run → s.budget.cap = some ⟨w, .minutes n⟩ →
        exec .capExpiry s = .next (capped none s.budget.site).settle

/-- R17, R142, R144, R145: the expiries of the Budget Unit's timers: the shed rotation moves the tie pointer and runs a
pass where loads are cut short; a stagger or min-off expiry releases the first load of the queue that is eligible, where
the stagger timer is idle. That an expiry is taken at whatever time is left of its timer is the model's choice
(assumption log, entry 2). -/
def Obligations.BudgetTimersExpire : Prop :=
  ∀ s : State, s.part.op = .run →
    let b := s.budget
    let rotation := Timer.start b.period
    (b.shed = [] →
      exec .shedRotationExpiry s = .next (State.settle { s with budget := { b with rotation := rotation } }))
    ∧ (b.shed ≠ [] →
        exec .shedRotationExpiry s
          = .next (State.settle (State.pass { s with budget := { b with rotation := rotation, tie := b.tie + 1 } })))
    ∧ (∀ (c : Instr) (loads : Table 64 Load),
        (c = .staggerExpiry ∧ b.stagger ≠ none ∧ loads = s.loads)
        ∨ (∃ m, c = .minOffExpiry m ∧ (s.loads.get m).minOff ≠ none ∧ b.stagger = none
            ∧ loads = s.loads.set m { s.loads.get m with minOff := none }) →
          (∀ before n after f, b.queue = before ++ n :: after → (∀ k ∈ before, (loads.get k).minOff ≠ none) →
              n ∉ before → (loads.get n).minOff = none → (loads.get n).defn = some f →
                exec c s = .next (State.settle
                  { s with
                    loads := loads.set n { loads.get n with drive := (loads.get n).grant }
                    budget :=
                      { b with
                        queue := before ++ after
                        stagger := match f.cls with | .short => Timer.start 2 | .long => Timer.start 20 } }))
          ∧ ((∀ k ∈ b.queue, (loads.get k).minOff ≠ none) →
              exec c s = .next (State.settle { s with loads := loads, budget := { b with stagger := none } })))
    ∧ ∀ m, (s.loads.get m).minOff ≠ none → b.stagger ≠ none →
        exec (.minOffExpiry m) s = .next (State.settle
          { s with loads := s.loads.set m { s.loads.get m with minOff := none } })

/-- R137 to R141, R144: a pass grants every load at least its protected portion, at most its request, keeps the committed
draw within a budget that the protected draw does not exceed, and leaves no load a level short that would have fitted
beside what was granted ahead of it in the order of effective priority and tie pointer. -/
def Obligations.PassServesByPriority : Prop :=
  ∀ s : State,
    (∀ n f, (s.loads.get n).defn = some f →
      f.draws.Pairwise (· ≤ ·) ∧ (f.type ≠ .light → (s.loads.get n).request ≤ f.draws.length)) →
    let t := s.pass
    let b := s.budget
    let copies (f : LoadDef) : BudgetZone := b.zones.get f.zone
    let portion (n : LoadNo) : Nat :=
      match (s.loads.get n).defn with
      | none => 0
      | some f =>
        match f.type with
        | .exhaust => if (copies f).stage = 4 then (s.loads.get n).request else 0
        | .light => min (s.loads.get n).request (copies f).floor
        | _ => 0
    let priority (f : LoadDef) : Nat :=
      if f.type = .heater ∧ (copies f).frost = true then 3
      else if f.type = .exhaust ∧ ((copies f).subCo = true ∨ (copies f).subNo2 = true) then 3
      else if b.mode = .dynamic ∧ ((f.type = .heater ∧ (copies f).cold = true) ∨ (f.type = .exhaust ∧ (copies f).stage = 3))
        then min 3 (f.base + 1)
      else min 3 f.base
    let draw (n : LoadNo) (level : Nat) : Nat := (s.loads.get n).draw level
    let grant (n : LoadNo) : Nat := (t.loads.get n).grant
    let total (f : LoadNo → Nat) : Nat := ((List.finRange 64).map f).sum
    let guarded := total fun n => draw n (portion n)
    let committed := total fun n => draw n (grant n)
    let later (m n : LoadNo) : Bool :=
      decide ((t.loads.get n).priority < (t.loads.get m).priority)
      || (decide ((t.loads.get n).priority = (t.loads.get m).priority)
          && decide ((m.val + 64 - b.tie.val) % 64 < (n.val + 64 - b.tie.val) % 64))
    (∀ n f, (s.loads.get n).defn = some f → (t.loads.get n).priority = priority f)
    ∧ (∀ n, portion n ≤ grant n ∧ grant n ≤ (s.loads.get n).request)
    ∧ t.budget.protectedDraw = guarded ∧ t.budget.committedDraw = committed
    ∧ (b.inForce < guarded → ∀ n, grant n = portion n)
    ∧ (guarded ≤ b.inForce →
        committed ≤ b.inForce
        ∧ ∀ m, (s.loads.get m).defn ≠ none → grant m < (s.loads.get m).request →
            b.inForce - committed + total (fun n => if later m n then draw n (grant n) - draw n (portion n) else 0)
              < draw m (grant m + 1) - draw m (grant m))

/-- R16, R136, R139 to R141, R143, R144: a pass changes of a load its grant, drive level, min-off timer and effective
priority alone, of the Budget Unit its lists, sums and stagger timer alone, and nothing else but the Link Unit's
reports. After it the shed list holds the loads cut short, those that were on it in their places and those that join
in the order R140 takes them; the restart queue likewise those granted a level that stand still, joining at its tail.
A running load runs at its grant, and starts its min-off timer where that is 0. Where the stagger timer is idle the
first load of the queue that is not in min-off is released: it leaves the queue, runs at its grant and starts the
stagger timer of its restart class. The first load cut short, or the last one served in full, gives its report. That
loads which join the queue at one pass join in a free order is the model's choice (assumption log, entry 6). -/
def Obligations.PassMovesDriveLevels : Prop :=
  ∀ s : State,
    let t := s.pass
    let b := s.budget
    let short (n : LoadNo) : Bool := decide ((t.loads.get n).grant < (s.loads.get n).request)
    let waits (n : LoadNo) : Bool := decide (0 < (t.loads.get n).grant) && decide ((s.loads.get n).drive = 0)
    let servedBefore (m n : LoadNo) : Prop :=
      (t.loads.get n).priority < (t.loads.get m).priority
      ∨ ((t.loads.get m).priority = (t.loads.get n).priority
        ∧ (m.val + 64 - b.tie.val) % 64 < (n.val + 64 - b.tie.val) % 64)
    let moved (n : LoadNo) : Nat := if 0 < (s.loads.get n).drive then (t.loads.get n).grant else 0
    s.onlyChanges t [.loads, .budget, .link, .choices]
    ∧ (∀ n, t.loads.get n =
        { s.loads.get n with
          grant := (t.loads.get n).grant, drive := (t.loads.get n).drive, minOff := (t.loads.get n).minOff
          priority := (t.loads.get n).priority })
    ∧ t.budget =
        { b with
          shed := t.budget.shed, queue := t.budget.queue, protectedDraw := t.budget.protectedDraw
          committedDraw := t.budget.committedDraw, stagger := t.budget.stagger }
    ∧ (∀ n, (t.loads.get n).minOff =
      let l := s.loads.get n
      match l.defn with
      | some f => if 0 < l.drive ∧ (t.loads.get n).grant = 0 ∧ f.minOff ≠ 0 then Timer.start f.minOff else l.minOff
      | none => l.minOff)
    ∧ (∃ joins : List LoadNo, t.budget.shed = b.shed.filter short ++ joins ∧ joins.Pairwise servedBefore
        ∧ ∀ n, n ∈ joins ↔ short n = true ∧ n ∉ b.shed)
    ∧ (∃ queue joins : List LoadNo, queue = b.queue.filter waits ++ joins ∧ joins.Nodup
        ∧ (∀ n, n ∈ joins ↔ waits n = true ∧ n ∉ b.queue)
        ∧ (b.stagger ≠ none ∨ (∀ n ∈ queue, (t.loads.get n).minOff ≠ none) →
            t.budget.queue = queue ∧ t.budget.stagger = b.stagger ∧ ∀ n, (t.loads.get n).drive = moved n)
        ∧ ∀ before n after f, b.stagger = none → queue = before ++ n :: after →
            (∀ k ∈ before, (t.loads.get k).minOff ≠ none) → (t.loads.get n).minOff = none →
              (s.loads.get n).defn = some f →
                t.budget.queue = before ++ after
                ∧ t.budget.stagger = (match f.cls with | .short => Timer.start 2 | .long => Timer.start 20)
                ∧ (t.loads.get n).drive = (t.loads.get n).grant ∧ ∀ k, k ≠ n → (t.loads.get k).drive = moved k)
    ∧ t.link =
        match b.shed, t.budget.shed with
        | [], [] => s.link
        | [], _ => (s.raise (.shedBegin b.inForce t.budget.protectedDraw t.budget.committedDraw t.budget.shed)).link
        | _, [] => (s.raise (.shedEnd b.inForce t.budget.committedDraw)).link
        | _, _ => s.link

/-! ### Invariants that every step keeps -/

/-- R5, R133, R139 to R144: every step keeps the Budget Unit sound: drive level at most grant at most request at most
maximum level, the shed list and the restart queue exactly the loads they are for, the committed draw that of the grants
and above the budget in force only where the protected draw is, and every load at rest outside RUN. -/
def Obligations.StepKeepsBudgetSound : Prop := ∀ s t : State, BudgetSound s → step s = .next t → BudgetSound t

/-- R150, R153 to R155, R157, R158: every step keeps the Link Unit sound: at most two frames and 32 reports, the timers
and probes that belong to the supervision state, and nothing under way in STARTING. That the idle timer does not run in
QUIET is read from the manual (assumption log, entry 21). -/
def Obligations.StepKeepsLinkSound : Prop := ∀ s t : State, LinkSound s → step s = .next t → LinkSound t

/-- R57, R60, R63, R64, R67, R73, Table 3-2: every step keeps every door record sound. -/
def Obligations.StepKeepsDoorsSound : Prop := ∀ s t : State, DoorsSound s → step s = .next t → DoorsSound t

/-- R92, R93, R98, R118: every step keeps the zone records of the Air and Heat Units in their ranges, a zone at an index
of 100 or more at stage 4, and a zone in frost at stage 3. -/
def Obligations.StepKeepsStagesSound : Prop := ∀ s t : State, StagesSound s → step s = .next t → StagesSound t

/-- The machine right after reset is sound in every sense that the steps keep. -/
def Obligations.ResetIsSound : Prop :=
  BudgetSound State.reset ∧ LinkSound State.reset ∧ DoorsSound State.reset ∧ StagesSound State.reset
end

