-- ==== Sys2Proof/Laws/State.lean ====
section
/-! SUPPORT. One lemma for each field of the state and each shared operation that leaves it alone, with what the
operations do to the fields they change. -/

namespace Sys2Proof.Machine

/-! ### State.settle -/

@[simp] theorem State.settle_part (s : State) : (s.settle).part = s.part := by unfold State.settle; split <;> rfl
@[simp] theorem State.settle_store (s : State) : (s.settle).store = s.store := by unfold State.settle; split <;> rfl
@[simp] theorem State.settle_zones (s : State) : (s.settle).zones = s.zones := by unfold State.settle; split <;> rfl
@[simp] theorem State.settle_loads (s : State) : (s.settle).loads = s.loads := by unfold State.settle; split <;> rfl
@[simp] theorem State.settle_duty (s : State) : (s.settle).duty = s.duty := by unfold State.settle; split <;> rfl
@[simp] theorem State.settle_calendar (s : State) : (s.settle).calendar = s.calendar := by unfold State.settle; split <;> rfl
@[simp] theorem State.settle_doors (s : State) : (s.settle).doors = s.doors := by unfold State.settle; split <;> rfl
@[simp] theorem State.settle_readings (s : State) : (s.settle).readings = s.readings := by unfold State.settle; split <;> rfl
@[simp] theorem State.settle_air (s : State) : (s.settle).air = s.air := by unfold State.settle; split <;> rfl
@[simp] theorem State.settle_heat (s : State) : (s.settle).heat = s.heat := by unfold State.settle; split <;> rfl
@[simp] theorem State.settle_light (s : State) : (s.settle).light = s.light := by unfold State.settle; split <;> rfl
@[simp] theorem State.settle_budget (s : State) : (s.settle).budget = s.budget := by unfold State.settle; split <;> rfl
@[simp] theorem State.settle_drafts (s : State) : (s.settle).drafts = s.drafts := by unfold State.settle; split <;> rfl
@[simp] theorem State.settle_inFlight (s : State) : (s.settle).inFlight = s.inFlight := by unfold State.settle; split <;> rfl
@[simp] theorem State.settle_choices (s : State) : (s.settle).choices = s.choices := by unfold State.settle; split <;> rfl
@[simp] theorem State.settle_pending (s : State) : (s.settle).pending = s.pending := by unfold State.settle; split <;> rfl

/-! ### State.raise -/

@[simp] theorem State.raise_part (b : Body) (s : State) : (s.raise b).part = s.part := by unfold State.raise; split <;> rfl
@[simp] theorem State.raise_store (b : Body) (s : State) : (s.raise b).store = s.store := by unfold State.raise; split <;> rfl
@[simp] theorem State.raise_zones (b : Body) (s : State) : (s.raise b).zones = s.zones := by unfold State.raise; split <;> rfl
@[simp] theorem State.raise_loads (b : Body) (s : State) : (s.raise b).loads = s.loads := by unfold State.raise; split <;> rfl
@[simp] theorem State.raise_duty (b : Body) (s : State) : (s.raise b).duty = s.duty := by unfold State.raise; split <;> rfl
@[simp] theorem State.raise_calendar (b : Body) (s : State) : (s.raise b).calendar = s.calendar := by unfold State.raise; split <;> rfl
@[simp] theorem State.raise_doors (b : Body) (s : State) : (s.raise b).doors = s.doors := by unfold State.raise; split <;> rfl
@[simp] theorem State.raise_readings (b : Body) (s : State) : (s.raise b).readings = s.readings := by unfold State.raise; split <;> rfl
@[simp] theorem State.raise_air (b : Body) (s : State) : (s.raise b).air = s.air := by unfold State.raise; split <;> rfl
@[simp] theorem State.raise_heat (b : Body) (s : State) : (s.raise b).heat = s.heat := by unfold State.raise; split <;> rfl
@[simp] theorem State.raise_light (b : Body) (s : State) : (s.raise b).light = s.light := by unfold State.raise; split <;> rfl
@[simp] theorem State.raise_budget (b : Body) (s : State) : (s.raise b).budget = s.budget := by unfold State.raise; split <;> rfl
@[simp] theorem State.raise_drafts (b : Body) (s : State) : (s.raise b).drafts = s.drafts := by unfold State.raise; split <;> rfl
@[simp] theorem State.raise_inFlight (b : Body) (s : State) : (s.raise b).inFlight = s.inFlight := by unfold State.raise; split <;> rfl
@[simp] theorem State.raise_choices (b : Body) (s : State) : (s.raise b).choices = s.choices := by unfold State.raise; split <;> rfl
@[simp] theorem State.raise_pending (b : Body) (s : State) : (s.raise b).pending = s.pending := by unfold State.raise; split <;> rfl

/-! ### State.give -/

@[simp] theorem State.give_part (cs : List Instr) (s : State) : (s.give cs).part = s.part := rfl
@[simp] theorem State.give_store (cs : List Instr) (s : State) : (s.give cs).store = s.store := rfl
@[simp] theorem State.give_zones (cs : List Instr) (s : State) : (s.give cs).zones = s.zones := rfl
@[simp] theorem State.give_loads (cs : List Instr) (s : State) : (s.give cs).loads = s.loads := rfl
@[simp] theorem State.give_duty (cs : List Instr) (s : State) : (s.give cs).duty = s.duty := rfl
@[simp] theorem State.give_calendar (cs : List Instr) (s : State) : (s.give cs).calendar = s.calendar := rfl
@[simp] theorem State.give_doors (cs : List Instr) (s : State) : (s.give cs).doors = s.doors := rfl
@[simp] theorem State.give_readings (cs : List Instr) (s : State) : (s.give cs).readings = s.readings := rfl
@[simp] theorem State.give_air (cs : List Instr) (s : State) : (s.give cs).air = s.air := rfl
@[simp] theorem State.give_heat (cs : List Instr) (s : State) : (s.give cs).heat = s.heat := rfl
@[simp] theorem State.give_light (cs : List Instr) (s : State) : (s.give cs).light = s.light := rfl
@[simp] theorem State.give_budget (cs : List Instr) (s : State) : (s.give cs).budget = s.budget := rfl
@[simp] theorem State.give_link (cs : List Instr) (s : State) : (s.give cs).link = s.link := rfl
@[simp] theorem State.give_drafts (cs : List Instr) (s : State) : (s.give cs).drafts = s.drafts := rfl
@[simp] theorem State.give_choices (cs : List Instr) (s : State) : (s.give cs).choices = s.choices := rfl
@[simp] theorem State.give_pending (cs : List Instr) (s : State) : (s.give cs).pending = s.pending := rfl

/-! ### State.takeFlight -/

@[simp] theorem State.takeFlight_part (c : Instr) (s : State) : (s.takeFlight c).part = s.part := rfl
@[simp] theorem State.takeFlight_store (c : Instr) (s : State) : (s.takeFlight c).store = s.store := rfl
@[simp] theorem State.takeFlight_zones (c : Instr) (s : State) : (s.takeFlight c).zones = s.zones := rfl
@[simp] theorem State.takeFlight_loads (c : Instr) (s : State) : (s.takeFlight c).loads = s.loads := rfl
@[simp] theorem State.takeFlight_duty (c : Instr) (s : State) : (s.takeFlight c).duty = s.duty := rfl
@[simp] theorem State.takeFlight_calendar (c : Instr) (s : State) : (s.takeFlight c).calendar = s.calendar := rfl
@[simp] theorem State.takeFlight_doors (c : Instr) (s : State) : (s.takeFlight c).doors = s.doors := rfl
@[simp] theorem State.takeFlight_readings (c : Instr) (s : State) : (s.takeFlight c).readings = s.readings := rfl
@[simp] theorem State.takeFlight_air (c : Instr) (s : State) : (s.takeFlight c).air = s.air := rfl
@[simp] theorem State.takeFlight_heat (c : Instr) (s : State) : (s.takeFlight c).heat = s.heat := rfl
@[simp] theorem State.takeFlight_light (c : Instr) (s : State) : (s.takeFlight c).light = s.light := rfl
@[simp] theorem State.takeFlight_budget (c : Instr) (s : State) : (s.takeFlight c).budget = s.budget := rfl
@[simp] theorem State.takeFlight_link (c : Instr) (s : State) : (s.takeFlight c).link = s.link := rfl
@[simp] theorem State.takeFlight_drafts (c : Instr) (s : State) : (s.takeFlight c).drafts = s.drafts := rfl
@[simp] theorem State.takeFlight_choices (c : Instr) (s : State) : (s.takeFlight c).choices = s.choices := rfl
@[simp] theorem State.takeFlight_pending (c : Instr) (s : State) : (s.takeFlight c).pending = s.pending := rfl

/-! ### State.waitTurn -/

@[simp] theorem State.waitTurn_part (c : Instr) (s : State) : (s.waitTurn c).part = s.part := by unfold State.waitTurn; split <;> rfl
@[simp] theorem State.waitTurn_store (c : Instr) (s : State) : (s.waitTurn c).store = s.store := by unfold State.waitTurn; split <;> rfl
@[simp] theorem State.waitTurn_zones (c : Instr) (s : State) : (s.waitTurn c).zones = s.zones := by unfold State.waitTurn; split <;> rfl
@[simp] theorem State.waitTurn_loads (c : Instr) (s : State) : (s.waitTurn c).loads = s.loads := by unfold State.waitTurn; split <;> rfl
@[simp] theorem State.waitTurn_duty (c : Instr) (s : State) : (s.waitTurn c).duty = s.duty := by unfold State.waitTurn; split <;> rfl
@[simp] theorem State.waitTurn_calendar (c : Instr) (s : State) : (s.waitTurn c).calendar = s.calendar := by unfold State.waitTurn; split <;> rfl
@[simp] theorem State.waitTurn_doors (c : Instr) (s : State) : (s.waitTurn c).doors = s.doors := by unfold State.waitTurn; split <;> rfl
@[simp] theorem State.waitTurn_readings (c : Instr) (s : State) : (s.waitTurn c).readings = s.readings := by unfold State.waitTurn; split <;> rfl
@[simp] theorem State.waitTurn_air (c : Instr) (s : State) : (s.waitTurn c).air = s.air := by unfold State.waitTurn; split <;> rfl
@[simp] theorem State.waitTurn_heat (c : Instr) (s : State) : (s.waitTurn c).heat = s.heat := by unfold State.waitTurn; split <;> rfl
@[simp] theorem State.waitTurn_light (c : Instr) (s : State) : (s.waitTurn c).light = s.light := by unfold State.waitTurn; split <;> rfl
@[simp] theorem State.waitTurn_budget (c : Instr) (s : State) : (s.waitTurn c).budget = s.budget := by unfold State.waitTurn; split <;> rfl
@[simp] theorem State.waitTurn_link (c : Instr) (s : State) : (s.waitTurn c).link = s.link := by unfold State.waitTurn; split <;> rfl
@[simp] theorem State.waitTurn_drafts (c : Instr) (s : State) : (s.waitTurn c).drafts = s.drafts := by unfold State.waitTurn; split <;> rfl
@[simp] theorem State.waitTurn_choices (c : Instr) (s : State) : (s.waitTurn c).choices = s.choices := by unfold State.waitTurn; split <;> rfl
@[simp] theorem State.waitTurn_pending (c : Instr) (s : State) : (s.waitTurn c).pending = s.pending := by unfold State.waitTurn; split <;> rfl

/-! ### State.takeHanded -/

@[simp] theorem State.takeHanded_part (c : Instr) (s : State) : (s.takeHanded c).part = s.part := by unfold State.takeHanded; split <;> rfl
@[simp] theorem State.takeHanded_store (c : Instr) (s : State) : (s.takeHanded c).store = s.store := by unfold State.takeHanded; split <;> rfl
@[simp] theorem State.takeHanded_zones (c : Instr) (s : State) : (s.takeHanded c).zones = s.zones := by unfold State.takeHanded; split <;> rfl
@[simp] theorem State.takeHanded_loads (c : Instr) (s : State) : (s.takeHanded c).loads = s.loads := by unfold State.takeHanded; split <;> rfl
@[simp] theorem State.takeHanded_duty (c : Instr) (s : State) : (s.takeHanded c).duty = s.duty := by unfold State.takeHanded; split <;> rfl
@[simp] theorem State.takeHanded_calendar (c : Instr) (s : State) : (s.takeHanded c).calendar = s.calendar := by unfold State.takeHanded; split <;> rfl
@[simp] theorem State.takeHanded_doors (c : Instr) (s : State) : (s.takeHanded c).doors = s.doors := by unfold State.takeHanded; split <;> rfl
@[simp] theorem State.takeHanded_readings (c : Instr) (s : State) : (s.takeHanded c).readings = s.readings := by unfold State.takeHanded; split <;> rfl
@[simp] theorem State.takeHanded_air (c : Instr) (s : State) : (s.takeHanded c).air = s.air := by unfold State.takeHanded; split <;> rfl
@[simp] theorem State.takeHanded_heat (c : Instr) (s : State) : (s.takeHanded c).heat = s.heat := by unfold State.takeHanded; split <;> rfl
@[simp] theorem State.takeHanded_light (c : Instr) (s : State) : (s.takeHanded c).light = s.light := by unfold State.takeHanded; split <;> rfl
@[simp] theorem State.takeHanded_budget (c : Instr) (s : State) : (s.takeHanded c).budget = s.budget := by unfold State.takeHanded; split <;> rfl
@[simp] theorem State.takeHanded_drafts (c : Instr) (s : State) : (s.takeHanded c).drafts = s.drafts := by unfold State.takeHanded; split <;> rfl
@[simp] theorem State.takeHanded_inFlight (c : Instr) (s : State) : (s.takeHanded c).inFlight = s.inFlight := by unfold State.takeHanded; split <;> rfl
@[simp] theorem State.takeHanded_choices (c : Instr) (s : State) : (s.takeHanded c).choices = s.choices := by unfold State.takeHanded; split <;> rfl
@[simp] theorem State.takeHanded_pending (c : Instr) (s : State) : (s.takeHanded c).pending = s.pending := by unfold State.takeHanded; split <;> rfl

/-! ### State.onLink -/

@[simp] theorem State.onLink_part (f : Link → Link) (s : State) : (s.onLink f).part = s.part := rfl
@[simp] theorem State.onLink_store (f : Link → Link) (s : State) : (s.onLink f).store = s.store := rfl
@[simp] theorem State.onLink_zones (f : Link → Link) (s : State) : (s.onLink f).zones = s.zones := rfl
@[simp] theorem State.onLink_loads (f : Link → Link) (s : State) : (s.onLink f).loads = s.loads := rfl
@[simp] theorem State.onLink_duty (f : Link → Link) (s : State) : (s.onLink f).duty = s.duty := rfl
@[simp] theorem State.onLink_calendar (f : Link → Link) (s : State) : (s.onLink f).calendar = s.calendar := rfl
@[simp] theorem State.onLink_doors (f : Link → Link) (s : State) : (s.onLink f).doors = s.doors := rfl
@[simp] theorem State.onLink_readings (f : Link → Link) (s : State) : (s.onLink f).readings = s.readings := rfl
@[simp] theorem State.onLink_air (f : Link → Link) (s : State) : (s.onLink f).air = s.air := rfl
@[simp] theorem State.onLink_heat (f : Link → Link) (s : State) : (s.onLink f).heat = s.heat := rfl
@[simp] theorem State.onLink_light (f : Link → Link) (s : State) : (s.onLink f).light = s.light := rfl
@[simp] theorem State.onLink_budget (f : Link → Link) (s : State) : (s.onLink f).budget = s.budget := rfl
@[simp] theorem State.onLink_drafts (f : Link → Link) (s : State) : (s.onLink f).drafts = s.drafts := rfl
@[simp] theorem State.onLink_inFlight (f : Link → Link) (s : State) : (s.onLink f).inFlight = s.inFlight := rfl
@[simp] theorem State.onLink_choices (f : Link → Link) (s : State) : (s.onLink f).choices = s.choices := rfl
@[simp] theorem State.onLink_pending (f : Link → Link) (s : State) : (s.onLink f).pending = s.pending := rfl

/-! ### State.withCalendar -/

@[simp] theorem State.withCalendar_part (c : Calendar) (s : State) : (s.withCalendar c).part = s.part := rfl
@[simp] theorem State.withCalendar_store (c : Calendar) (s : State) : (s.withCalendar c).store = s.store := rfl
@[simp] theorem State.withCalendar_zones (c : Calendar) (s : State) : (s.withCalendar c).zones = s.zones := rfl
@[simp] theorem State.withCalendar_loads (c : Calendar) (s : State) : (s.withCalendar c).loads = s.loads := rfl
@[simp] theorem State.withCalendar_duty (c : Calendar) (s : State) : (s.withCalendar c).duty = s.duty := rfl
@[simp] theorem State.withCalendar_doors (c : Calendar) (s : State) : (s.withCalendar c).doors = s.doors := rfl
@[simp] theorem State.withCalendar_readings (c : Calendar) (s : State) : (s.withCalendar c).readings = s.readings := rfl
@[simp] theorem State.withCalendar_air (c : Calendar) (s : State) : (s.withCalendar c).air = s.air := rfl
@[simp] theorem State.withCalendar_heat (c : Calendar) (s : State) : (s.withCalendar c).heat = s.heat := rfl
@[simp] theorem State.withCalendar_light (c : Calendar) (s : State) : (s.withCalendar c).light = s.light := rfl
@[simp] theorem State.withCalendar_budget (c : Calendar) (s : State) : (s.withCalendar c).budget = s.budget := rfl
@[simp] theorem State.withCalendar_link (c : Calendar) (s : State) : (s.withCalendar c).link = s.link := rfl
@[simp] theorem State.withCalendar_drafts (c : Calendar) (s : State) : (s.withCalendar c).drafts = s.drafts := rfl
@[simp] theorem State.withCalendar_inFlight (c : Calendar) (s : State) : (s.withCalendar c).inFlight = s.inFlight := rfl
@[simp] theorem State.withCalendar_choices (c : Calendar) (s : State) : (s.withCalendar c).choices = s.choices := rfl
@[simp] theorem State.withCalendar_pending (c : Calendar) (s : State) : (s.withCalendar c).pending = s.pending := rfl

/-! ### State.raiseAll -/

@[simp] theorem State.raiseAll_part (bs : List Body) (s : State) : (s.raiseAll bs).part = s.part := by
  induction bs generalizing s with
  | nil => rfl
  | cons b bs ih => exact (ih (s.raise b)).trans (by simp)
@[simp] theorem State.raiseAll_store (bs : List Body) (s : State) : (s.raiseAll bs).store = s.store := by
  induction bs generalizing s with
  | nil => rfl
  | cons b bs ih => exact (ih (s.raise b)).trans (by simp)
@[simp] theorem State.raiseAll_zones (bs : List Body) (s : State) : (s.raiseAll bs).zones = s.zones := by
  induction bs generalizing s with
  | nil => rfl
  | cons b bs ih => exact (ih (s.raise b)).trans (by simp)
@[simp] theorem State.raiseAll_loads (bs : List Body) (s : State) : (s.raiseAll bs).loads = s.loads := by
  induction bs generalizing s with
  | nil => rfl
  | cons b bs ih => exact (ih (s.raise b)).trans (by simp)
@[simp] theorem State.raiseAll_duty (bs : List Body) (s : State) : (s.raiseAll bs).duty = s.duty := by
  induction bs generalizing s with
  | nil => rfl
  | cons b bs ih => exact (ih (s.raise b)).trans (by simp)
@[simp] theorem State.raiseAll_calendar (bs : List Body) (s : State) : (s.raiseAll bs).calendar = s.calendar := by
  induction bs generalizing s with
  | nil => rfl
  | cons b bs ih => exact (ih (s.raise b)).trans (by simp)
@[simp] theorem State.raiseAll_doors (bs : List Body) (s : State) : (s.raiseAll bs).doors = s.doors := by
  induction bs generalizing s with
  | nil => rfl
  | cons b bs ih => exact (ih (s.raise b)).trans (by simp)
@[simp] theorem State.raiseAll_readings (bs : List Body) (s : State) : (s.raiseAll bs).readings = s.readings := by
  induction bs generalizing s with
  | nil => rfl
  | cons b bs ih => exact (ih (s.raise b)).trans (by simp)
@[simp] theorem State.raiseAll_air (bs : List Body) (s : State) : (s.raiseAll bs).air = s.air := by
  induction bs generalizing s with
  | nil => rfl
  | cons b bs ih => exact (ih (s.raise b)).trans (by simp)
@[simp] theorem State.raiseAll_heat (bs : List Body) (s : State) : (s.raiseAll bs).heat = s.heat := by
  induction bs generalizing s with
  | nil => rfl
  | cons b bs ih => exact (ih (s.raise b)).trans (by simp)
@[simp] theorem State.raiseAll_light (bs : List Body) (s : State) : (s.raiseAll bs).light = s.light := by
  induction bs generalizing s with
  | nil => rfl
  | cons b bs ih => exact (ih (s.raise b)).trans (by simp)
@[simp] theorem State.raiseAll_budget (bs : List Body) (s : State) : (s.raiseAll bs).budget = s.budget := by
  induction bs generalizing s with
  | nil => rfl
  | cons b bs ih => exact (ih (s.raise b)).trans (by simp)
@[simp] theorem State.raiseAll_drafts (bs : List Body) (s : State) : (s.raiseAll bs).drafts = s.drafts := by
  induction bs generalizing s with
  | nil => rfl
  | cons b bs ih => exact (ih (s.raise b)).trans (by simp)
@[simp] theorem State.raiseAll_inFlight (bs : List Body) (s : State) : (s.raiseAll bs).inFlight = s.inFlight := by
  induction bs generalizing s with
  | nil => rfl
  | cons b bs ih => exact (ih (s.raise b)).trans (by simp)
@[simp] theorem State.raiseAll_choices (bs : List Body) (s : State) : (s.raiseAll bs).choices = s.choices := by
  induction bs generalizing s with
  | nil => rfl
  | cons b bs ih => exact (ih (s.raise b)).trans (by simp)
@[simp] theorem State.raiseAll_pending (bs : List Body) (s : State) : (s.raiseAll bs).pending = s.pending := by
  induction bs generalizing s with
  | nil => rfl
  | cons b bs ih => exact (ih (s.raise b)).trans (by simp)

/-! ### State.countChoice -/

@[simp] theorem State.countChoice_part (n : Nat) (s : State) : (s.countChoice n).part = s.part := by
  unfold State.countChoice; split <;> rfl
@[simp] theorem State.countChoice_store (n : Nat) (s : State) : (s.countChoice n).store = s.store := by
  unfold State.countChoice; split <;> rfl
@[simp] theorem State.countChoice_zones (n : Nat) (s : State) : (s.countChoice n).zones = s.zones := by
  unfold State.countChoice; split <;> rfl
@[simp] theorem State.countChoice_loads (n : Nat) (s : State) : (s.countChoice n).loads = s.loads := by
  unfold State.countChoice; split <;> rfl
@[simp] theorem State.countChoice_duty (n : Nat) (s : State) : (s.countChoice n).duty = s.duty := by
  unfold State.countChoice; split <;> rfl
@[simp] theorem State.countChoice_calendar (n : Nat) (s : State) : (s.countChoice n).calendar = s.calendar := by
  unfold State.countChoice; split <;> rfl
@[simp] theorem State.countChoice_doors (n : Nat) (s : State) : (s.countChoice n).doors = s.doors := by
  unfold State.countChoice; split <;> rfl
@[simp] theorem State.countChoice_readings (n : Nat) (s : State) : (s.countChoice n).readings = s.readings := by
  unfold State.countChoice; split <;> rfl
@[simp] theorem State.countChoice_air (n : Nat) (s : State) : (s.countChoice n).air = s.air := by
  unfold State.countChoice; split <;> rfl
@[simp] theorem State.countChoice_heat (n : Nat) (s : State) : (s.countChoice n).heat = s.heat := by
  unfold State.countChoice; split <;> rfl
@[simp] theorem State.countChoice_light (n : Nat) (s : State) : (s.countChoice n).light = s.light := by
  unfold State.countChoice; split <;> rfl
@[simp] theorem State.countChoice_budget (n : Nat) (s : State) : (s.countChoice n).budget = s.budget := by
  unfold State.countChoice; split <;> rfl
@[simp] theorem State.countChoice_link (n : Nat) (s : State) : (s.countChoice n).link = s.link := by
  unfold State.countChoice; split <;> rfl
@[simp] theorem State.countChoice_drafts (n : Nat) (s : State) : (s.countChoice n).drafts = s.drafts := by
  unfold State.countChoice; split <;> rfl
@[simp] theorem State.countChoice_inFlight (n : Nat) (s : State) : (s.countChoice n).inFlight = s.inFlight := by
  unfold State.countChoice; split <;> rfl
@[simp] theorem State.countChoice_pending (n : Nat) (s : State) : (s.countChoice n).pending = s.pending := by
  unfold State.countChoice; split <;> rfl

/-! ### State.emit -/

@[simp] theorem State.emit_part (es : List Effects) (s : State) : (s.emit es).part = s.part := by
  simp [State.emit]
@[simp] theorem State.emit_store (es : List Effects) (s : State) : (s.emit es).store = s.store := by
  simp [State.emit]
@[simp] theorem State.emit_zones (es : List Effects) (s : State) : (s.emit es).zones = s.zones := by
  simp [State.emit]
@[simp] theorem State.emit_loads (es : List Effects) (s : State) : (s.emit es).loads = s.loads := by
  simp [State.emit]
@[simp] theorem State.emit_duty (es : List Effects) (s : State) : (s.emit es).duty = s.duty := by
  simp [State.emit]
@[simp] theorem State.emit_calendar (es : List Effects) (s : State) : (s.emit es).calendar = s.calendar := by
  simp [State.emit]
@[simp] theorem State.emit_doors (es : List Effects) (s : State) : (s.emit es).doors = s.doors := by
  simp [State.emit]
@[simp] theorem State.emit_readings (es : List Effects) (s : State) : (s.emit es).readings = s.readings := by
  simp [State.emit]
@[simp] theorem State.emit_air (es : List Effects) (s : State) : (s.emit es).air = s.air := by
  simp [State.emit]
@[simp] theorem State.emit_heat (es : List Effects) (s : State) : (s.emit es).heat = s.heat := by
  simp [State.emit]
@[simp] theorem State.emit_light (es : List Effects) (s : State) : (s.emit es).light = s.light := by
  simp [State.emit]
@[simp] theorem State.emit_budget (es : List Effects) (s : State) : (s.emit es).budget = s.budget := by
  simp [State.emit]
@[simp] theorem State.emit_drafts (es : List Effects) (s : State) : (s.emit es).drafts = s.drafts := by
  simp [State.emit]
@[simp] theorem State.emit_pending (es : List Effects) (s : State) : (s.emit es).pending = s.pending := by
  simp [State.emit]

/-! ### The changed fields -/

@[simp] theorem State.onLink_link (f : Link → Link) (s : State) : (s.onLink f).link = f s.link := rfl
@[simp] theorem State.withCalendar_calendar (c : Calendar) (s : State) : (s.withCalendar c).calendar = c := rfl

theorem State.settle_link (s : State) :
    s.settle.link = if s.part.op = .starting then s.link else s.link.kick := by
  unfold State.settle; split <;> rfl

theorem State.takeHanded_link (c : Instr) (s : State) :
    (s.takeHanded c).link = { s.link with handed := if s.inService c then none else s.link.handed } := by
  unfold State.takeHanded; split <;> rfl

/-- What a report raised does to the Link Unit (R153). -/
theorem State.raise_link (b : Body) (s : State) :
    (s.raise b).link = if b.priority < s.link.mask then s.link else s.link.offer (stamp s.calendar b) := by
  unfold State.raise; split <;> rfl

/-- The notices in flight after some are given. -/
theorem State.give_notices (cs : List Instr) (s : State) :
    (s.give cs).inFlight.map (·.notice) = s.inFlight.map (·.notice) ++ cs := by
  simp [State.give, Function.comp_def]

/-- A notice that waits is in flight. -/
theorem State.waitTurn_notices (c : Instr) (s : State) :
    (s.waitTurn c).inFlight.map (·.notice)
      = if (s.eventOf c).isSome then s.inFlight.map (·.notice) else s.inFlight.map (·.notice) ++ [c] := by
  unfold State.waitTurn
  split
  · rfl
  · exact State.give_notices [c] s

/-- The notices in flight after an event with several effects. -/
theorem State.emit_notices (es : List Effects) (s : State) :
    (s.emit es).inFlight.map (·.notice) = s.inFlight.map (·.notice) ++ es.flatMap (·.notices) := by
  simp [State.emit, State.give_notices]

/-- The queue of waiting commands plays no part in whether the part runs. -/
@[simp] theorem State.running_settle (s : State) : s.settle.running = s.running := by simp [State.running]

end Sys2Proof.Machine
end

