-- ==== Sys2Proof/Laws/Frames.lean ====
section
/-! SUPPORT. One lemma for each field of the state that an operation of a unit leaves alone. -/

namespace Sys2Proof.Machine

/-! ### State.attempt -/

@[simp] theorem State.attempt_part (s : State) : s.attempt.part = s.part := by unfold State.attempt; split <;> (try split) <;> rfl
@[simp] theorem State.attempt_store (s : State) : s.attempt.store = s.store := by unfold State.attempt; split <;> (try split) <;> rfl
@[simp] theorem State.attempt_zones (s : State) : s.attempt.zones = s.zones := by unfold State.attempt; split <;> (try split) <;> rfl
@[simp] theorem State.attempt_duty (s : State) : s.attempt.duty = s.duty := by unfold State.attempt; split <;> (try split) <;> rfl
@[simp] theorem State.attempt_calendar (s : State) : s.attempt.calendar = s.calendar := by unfold State.attempt; split <;> (try split) <;> rfl
@[simp] theorem State.attempt_doors (s : State) : s.attempt.doors = s.doors := by unfold State.attempt; split <;> (try split) <;> rfl
@[simp] theorem State.attempt_readings (s : State) : s.attempt.readings = s.readings := by unfold State.attempt; split <;> (try split) <;> rfl
@[simp] theorem State.attempt_air (s : State) : s.attempt.air = s.air := by unfold State.attempt; split <;> (try split) <;> rfl
@[simp] theorem State.attempt_heat (s : State) : s.attempt.heat = s.heat := by unfold State.attempt; split <;> (try split) <;> rfl
@[simp] theorem State.attempt_light (s : State) : s.attempt.light = s.light := by unfold State.attempt; split <;> (try split) <;> rfl
@[simp] theorem State.attempt_link (s : State) : s.attempt.link = s.link := by unfold State.attempt; split <;> (try split) <;> rfl
@[simp] theorem State.attempt_drafts (s : State) : s.attempt.drafts = s.drafts := by unfold State.attempt; split <;> (try split) <;> rfl
@[simp] theorem State.attempt_inFlight (s : State) : s.attempt.inFlight = s.inFlight := by unfold State.attempt; split <;> (try split) <;> rfl
@[simp] theorem State.attempt_choices (s : State) : s.attempt.choices = s.choices := by unfold State.attempt; split <;> (try split) <;> rfl
@[simp] theorem State.attempt_pending (s : State) : s.attempt.pending = s.pending := by unfold State.attempt; split <;> (try split) <;> rfl

/-! ### State.regrant -/

@[simp] theorem State.regrant_part (s : State) : s.regrant.part = s.part := by simp [State.regrant]
@[simp] theorem State.regrant_store (s : State) : s.regrant.store = s.store := by simp [State.regrant]
@[simp] theorem State.regrant_zones (s : State) : s.regrant.zones = s.zones := by simp [State.regrant]
@[simp] theorem State.regrant_duty (s : State) : s.regrant.duty = s.duty := by simp [State.regrant]
@[simp] theorem State.regrant_calendar (s : State) : s.regrant.calendar = s.calendar := by simp [State.regrant]
@[simp] theorem State.regrant_doors (s : State) : s.regrant.doors = s.doors := by simp [State.regrant]
@[simp] theorem State.regrant_readings (s : State) : s.regrant.readings = s.readings := by simp [State.regrant]
@[simp] theorem State.regrant_air (s : State) : s.regrant.air = s.air := by simp [State.regrant]
@[simp] theorem State.regrant_heat (s : State) : s.regrant.heat = s.heat := by simp [State.regrant]
@[simp] theorem State.regrant_light (s : State) : s.regrant.light = s.light := by simp [State.regrant]
@[simp] theorem State.regrant_link (s : State) : s.regrant.link = s.link := by simp [State.regrant]
@[simp] theorem State.regrant_drafts (s : State) : s.regrant.drafts = s.drafts := by simp [State.regrant]
@[simp] theorem State.regrant_inFlight (s : State) : s.regrant.inFlight = s.inFlight := by simp [State.regrant]
@[simp] theorem State.regrant_pending (s : State) : s.regrant.pending = s.pending := by simp [State.regrant]

/-! ### State.pass -/

@[simp] theorem State.pass_part (s : State) : s.pass.part = s.part := by simp [State.pass]
@[simp] theorem State.pass_store (s : State) : s.pass.store = s.store := by simp [State.pass]
@[simp] theorem State.pass_zones (s : State) : s.pass.zones = s.zones := by simp [State.pass]
@[simp] theorem State.pass_duty (s : State) : s.pass.duty = s.duty := by simp [State.pass]
@[simp] theorem State.pass_calendar (s : State) : s.pass.calendar = s.calendar := by simp [State.pass]
@[simp] theorem State.pass_doors (s : State) : s.pass.doors = s.doors := by simp [State.pass]
@[simp] theorem State.pass_readings (s : State) : s.pass.readings = s.readings := by simp [State.pass]
@[simp] theorem State.pass_air (s : State) : s.pass.air = s.air := by simp [State.pass]
@[simp] theorem State.pass_heat (s : State) : s.pass.heat = s.heat := by simp [State.pass]
@[simp] theorem State.pass_light (s : State) : s.pass.light = s.light := by simp [State.pass]
@[simp] theorem State.pass_drafts (s : State) : s.pass.drafts = s.drafts := by simp [State.pass]
@[simp] theorem State.pass_inFlight (s : State) : s.pass.inFlight = s.inFlight := by simp [State.pass]
@[simp] theorem State.pass_pending (s : State) : s.pass.pending = s.pending := by simp [State.pass]

/-! ### State.withAirZones -/

@[simp] theorem State.withAirZones_part (zones : Table 12 AirZone) (s : State) : (s.withAirZones zones).part = s.part := rfl
@[simp] theorem State.withAirZones_store (zones : Table 12 AirZone) (s : State) : (s.withAirZones zones).store = s.store := rfl
@[simp] theorem State.withAirZones_zones (zones : Table 12 AirZone) (s : State) : (s.withAirZones zones).zones = s.zones := rfl
@[simp] theorem State.withAirZones_loads (zones : Table 12 AirZone) (s : State) : (s.withAirZones zones).loads = s.loads := rfl
@[simp] theorem State.withAirZones_duty (zones : Table 12 AirZone) (s : State) : (s.withAirZones zones).duty = s.duty := rfl
@[simp] theorem State.withAirZones_calendar (zones : Table 12 AirZone) (s : State) : (s.withAirZones zones).calendar = s.calendar := rfl
@[simp] theorem State.withAirZones_doors (zones : Table 12 AirZone) (s : State) : (s.withAirZones zones).doors = s.doors := rfl
@[simp] theorem State.withAirZones_readings (zones : Table 12 AirZone) (s : State) : (s.withAirZones zones).readings = s.readings := rfl
@[simp] theorem State.withAirZones_heat (zones : Table 12 AirZone) (s : State) : (s.withAirZones zones).heat = s.heat := rfl
@[simp] theorem State.withAirZones_light (zones : Table 12 AirZone) (s : State) : (s.withAirZones zones).light = s.light := rfl
@[simp] theorem State.withAirZones_budget (zones : Table 12 AirZone) (s : State) : (s.withAirZones zones).budget = s.budget := rfl
@[simp] theorem State.withAirZones_link (zones : Table 12 AirZone) (s : State) : (s.withAirZones zones).link = s.link := rfl
@[simp] theorem State.withAirZones_drafts (zones : Table 12 AirZone) (s : State) : (s.withAirZones zones).drafts = s.drafts := rfl
@[simp] theorem State.withAirZones_inFlight (zones : Table 12 AirZone) (s : State) : (s.withAirZones zones).inFlight = s.inFlight := rfl
@[simp] theorem State.withAirZones_choices (zones : Table 12 AirZone) (s : State) : (s.withAirZones zones).choices = s.choices := rfl
@[simp] theorem State.withAirZones_pending (zones : Table 12 AirZone) (s : State) : (s.withAirZones zones).pending = s.pending := rfl

/-! ### State.recomputeAir -/

@[simp] theorem State.recomputeAir_part (w : Zone → Bool) (f : Zone → AirZone → AirZone) (s : State) : (s.recomputeAir w f).part = s.part := by simp [State.recomputeAir]
@[simp] theorem State.recomputeAir_store (w : Zone → Bool) (f : Zone → AirZone → AirZone) (s : State) : (s.recomputeAir w f).store = s.store := by simp [State.recomputeAir]
@[simp] theorem State.recomputeAir_zones (w : Zone → Bool) (f : Zone → AirZone → AirZone) (s : State) : (s.recomputeAir w f).zones = s.zones := by simp [State.recomputeAir]
@[simp] theorem State.recomputeAir_loads (w : Zone → Bool) (f : Zone → AirZone → AirZone) (s : State) : (s.recomputeAir w f).loads = s.loads := by simp [State.recomputeAir]
@[simp] theorem State.recomputeAir_duty (w : Zone → Bool) (f : Zone → AirZone → AirZone) (s : State) : (s.recomputeAir w f).duty = s.duty := by simp [State.recomputeAir]
@[simp] theorem State.recomputeAir_calendar (w : Zone → Bool) (f : Zone → AirZone → AirZone) (s : State) : (s.recomputeAir w f).calendar = s.calendar := by simp [State.recomputeAir]
@[simp] theorem State.recomputeAir_doors (w : Zone → Bool) (f : Zone → AirZone → AirZone) (s : State) : (s.recomputeAir w f).doors = s.doors := by simp [State.recomputeAir]
@[simp] theorem State.recomputeAir_readings (w : Zone → Bool) (f : Zone → AirZone → AirZone) (s : State) : (s.recomputeAir w f).readings = s.readings := by simp [State.recomputeAir]
@[simp] theorem State.recomputeAir_heat (w : Zone → Bool) (f : Zone → AirZone → AirZone) (s : State) : (s.recomputeAir w f).heat = s.heat := by simp [State.recomputeAir]
@[simp] theorem State.recomputeAir_light (w : Zone → Bool) (f : Zone → AirZone → AirZone) (s : State) : (s.recomputeAir w f).light = s.light := by simp [State.recomputeAir]
@[simp] theorem State.recomputeAir_budget (w : Zone → Bool) (f : Zone → AirZone → AirZone) (s : State) : (s.recomputeAir w f).budget = s.budget := by simp [State.recomputeAir]
@[simp] theorem State.recomputeAir_drafts (w : Zone → Bool) (f : Zone → AirZone → AirZone) (s : State) : (s.recomputeAir w f).drafts = s.drafts := by simp [State.recomputeAir]
@[simp] theorem State.recomputeAir_pending (w : Zone → Bool) (f : Zone → AirZone → AirZone) (s : State) : (s.recomputeAir w f).pending = s.pending := by simp [State.recomputeAir]

/-! ### State.onAirZone -/

@[simp] theorem State.onAirZone_part (z : Zone) (f : AirZone → AirZone) (s : State) : (s.onAirZone z f).part = s.part := rfl
@[simp] theorem State.onAirZone_store (z : Zone) (f : AirZone → AirZone) (s : State) : (s.onAirZone z f).store = s.store := rfl
@[simp] theorem State.onAirZone_zones (z : Zone) (f : AirZone → AirZone) (s : State) : (s.onAirZone z f).zones = s.zones := rfl
@[simp] theorem State.onAirZone_loads (z : Zone) (f : AirZone → AirZone) (s : State) : (s.onAirZone z f).loads = s.loads := rfl
@[simp] theorem State.onAirZone_duty (z : Zone) (f : AirZone → AirZone) (s : State) : (s.onAirZone z f).duty = s.duty := rfl
@[simp] theorem State.onAirZone_calendar (z : Zone) (f : AirZone → AirZone) (s : State) : (s.onAirZone z f).calendar = s.calendar := rfl
@[simp] theorem State.onAirZone_doors (z : Zone) (f : AirZone → AirZone) (s : State) : (s.onAirZone z f).doors = s.doors := rfl
@[simp] theorem State.onAirZone_readings (z : Zone) (f : AirZone → AirZone) (s : State) : (s.onAirZone z f).readings = s.readings := rfl
@[simp] theorem State.onAirZone_heat (z : Zone) (f : AirZone → AirZone) (s : State) : (s.onAirZone z f).heat = s.heat := rfl
@[simp] theorem State.onAirZone_light (z : Zone) (f : AirZone → AirZone) (s : State) : (s.onAirZone z f).light = s.light := rfl
@[simp] theorem State.onAirZone_budget (z : Zone) (f : AirZone → AirZone) (s : State) : (s.onAirZone z f).budget = s.budget := rfl
@[simp] theorem State.onAirZone_link (z : Zone) (f : AirZone → AirZone) (s : State) : (s.onAirZone z f).link = s.link := rfl
@[simp] theorem State.onAirZone_drafts (z : Zone) (f : AirZone → AirZone) (s : State) : (s.onAirZone z f).drafts = s.drafts := rfl
@[simp] theorem State.onAirZone_inFlight (z : Zone) (f : AirZone → AirZone) (s : State) : (s.onAirZone z f).inFlight = s.inFlight := rfl
@[simp] theorem State.onAirZone_choices (z : Zone) (f : AirZone → AirZone) (s : State) : (s.onAirZone z f).choices = s.choices := rfl
@[simp] theorem State.onAirZone_pending (z : Zone) (f : AirZone → AirZone) (s : State) : (s.onAirZone z f).pending = s.pending := rfl

/-! ### State.recomputeAirZone -/

@[simp] theorem State.recomputeAirZone_part (z : Zone) (f : AirZone → AirZone) (s : State) : (s.recomputeAirZone z f).part = s.part := by simp [State.recomputeAirZone]
@[simp] theorem State.recomputeAirZone_store (z : Zone) (f : AirZone → AirZone) (s : State) : (s.recomputeAirZone z f).store = s.store := by simp [State.recomputeAirZone]
@[simp] theorem State.recomputeAirZone_zones (z : Zone) (f : AirZone → AirZone) (s : State) : (s.recomputeAirZone z f).zones = s.zones := by simp [State.recomputeAirZone]
@[simp] theorem State.recomputeAirZone_loads (z : Zone) (f : AirZone → AirZone) (s : State) : (s.recomputeAirZone z f).loads = s.loads := by simp [State.recomputeAirZone]
@[simp] theorem State.recomputeAirZone_duty (z : Zone) (f : AirZone → AirZone) (s : State) : (s.recomputeAirZone z f).duty = s.duty := by simp [State.recomputeAirZone]
@[simp] theorem State.recomputeAirZone_calendar (z : Zone) (f : AirZone → AirZone) (s : State) : (s.recomputeAirZone z f).calendar = s.calendar := by simp [State.recomputeAirZone]
@[simp] theorem State.recomputeAirZone_doors (z : Zone) (f : AirZone → AirZone) (s : State) : (s.recomputeAirZone z f).doors = s.doors := by simp [State.recomputeAirZone]
@[simp] theorem State.recomputeAirZone_readings (z : Zone) (f : AirZone → AirZone) (s : State) : (s.recomputeAirZone z f).readings = s.readings := by simp [State.recomputeAirZone]
@[simp] theorem State.recomputeAirZone_heat (z : Zone) (f : AirZone → AirZone) (s : State) : (s.recomputeAirZone z f).heat = s.heat := by simp [State.recomputeAirZone]
@[simp] theorem State.recomputeAirZone_light (z : Zone) (f : AirZone → AirZone) (s : State) : (s.recomputeAirZone z f).light = s.light := by simp [State.recomputeAirZone]
@[simp] theorem State.recomputeAirZone_budget (z : Zone) (f : AirZone → AirZone) (s : State) : (s.recomputeAirZone z f).budget = s.budget := by simp [State.recomputeAirZone]
@[simp] theorem State.recomputeAirZone_drafts (z : Zone) (f : AirZone → AirZone) (s : State) : (s.recomputeAirZone z f).drafts = s.drafts := by simp [State.recomputeAirZone]
@[simp] theorem State.recomputeAirZone_pending (z : Zone) (f : AirZone → AirZone) (s : State) : (s.recomputeAirZone z f).pending = s.pending := by simp [State.recomputeAirZone]

/-! ### State.takeReadingNotices -/

/-- What the taking of any notice leaves alone, where its act does, is as it was. -/
theorem State.noticed_keeps {α : Type} (p : State → α) {act : State → State} (c : Instr) (s : State)
    (settle : ∀ s, p (State.settle s) = p s) (flight : ∀ s, p (State.takeFlight c s) = p s)
    (turn : ∀ s, p (State.waitTurn c s) = p s) (acts : ∀ s, p (act s) = p s) : p (s.noticed c act) = p s := by
  simp only [State.noticed, settle]
  split
  · split <;> simp [acts, flight]
  · exact turn s

/-- What no notice of the Reading Unit touches is as it was when the Air Unit has taken them. -/
theorem State.takeReadingNotices_keeps {α : Type} (p : State → α) (s : State) (settle : ∀ s, p (State.settle s) = p s)
    (flight : ∀ c s, p (State.takeFlight c s) = p s) (turn : ∀ c s, p (State.waitTurn c s) = p s)
    (zone : ∀ z f s, p (State.onAirZone z f s) = p s) (recomputes : ∀ z f s, p (State.recomputeAirZone z f s) = p s) :
    p s.takeReadingNotices = p s := by
  have one : ∀ (c : Instr) (s : State), p (s.takeReadingNotice c) = p s := by
    intro c s
    unfold State.takeReadingNotice
    split
    · refine State.noticed_keeps p _ s settle (flight _) (turn _) fun s => ?_
      unfold State.takeHeldValue; dsimp only; repeat' split
      all_goals simp only [zone, recomputes]
    · refine State.noticed_keeps p _ s settle (flight _) (turn _) fun s => ?_
      unfold State.takeSubstitute; repeat' split
      all_goals simp only [recomputes]
    · rfl
  have all : ∀ (l : List Instr) (s : State), p (l.foldl State.takeReadingNotice s) = p s := by
    intro l
    induction l with
    | nil => exact fun _ => rfl
    | cons c l ih => exact fun s => (ih _).trans (one c s)
  exact all _ s

@[simp] theorem State.takeReadingNotices_part (s : State) : s.takeReadingNotices.part = s.part :=
  State.takeReadingNotices_keeps (·.part) s (by simp) (by simp) (by simp) (by simp) (by simp)
@[simp] theorem State.takeReadingNotices_store (s : State) : s.takeReadingNotices.store = s.store :=
  State.takeReadingNotices_keeps (·.store) s (by simp) (by simp) (by simp) (by simp) (by simp)
@[simp] theorem State.takeReadingNotices_zones (s : State) : s.takeReadingNotices.zones = s.zones :=
  State.takeReadingNotices_keeps (·.zones) s (by simp) (by simp) (by simp) (by simp) (by simp)
@[simp] theorem State.takeReadingNotices_loads (s : State) : s.takeReadingNotices.loads = s.loads :=
  State.takeReadingNotices_keeps (·.loads) s (by simp) (by simp) (by simp) (by simp) (by simp)
@[simp] theorem State.takeReadingNotices_duty (s : State) : s.takeReadingNotices.duty = s.duty :=
  State.takeReadingNotices_keeps (·.duty) s (by simp) (by simp) (by simp) (by simp) (by simp)
@[simp] theorem State.takeReadingNotices_calendar (s : State) : s.takeReadingNotices.calendar = s.calendar :=
  State.takeReadingNotices_keeps (·.calendar) s (by simp) (by simp) (by simp) (by simp) (by simp)
@[simp] theorem State.takeReadingNotices_doors (s : State) : s.takeReadingNotices.doors = s.doors :=
  State.takeReadingNotices_keeps (·.doors) s (by simp) (by simp) (by simp) (by simp) (by simp)
@[simp] theorem State.takeReadingNotices_readings (s : State) : s.takeReadingNotices.readings = s.readings :=
  State.takeReadingNotices_keeps (·.readings) s (by simp) (by simp) (by simp) (by simp) (by simp)
@[simp] theorem State.takeReadingNotices_heat (s : State) : s.takeReadingNotices.heat = s.heat :=
  State.takeReadingNotices_keeps (·.heat) s (by simp) (by simp) (by simp) (by simp) (by simp)
@[simp] theorem State.takeReadingNotices_light (s : State) : s.takeReadingNotices.light = s.light :=
  State.takeReadingNotices_keeps (·.light) s (by simp) (by simp) (by simp) (by simp) (by simp)
@[simp] theorem State.takeReadingNotices_budget (s : State) : s.takeReadingNotices.budget = s.budget :=
  State.takeReadingNotices_keeps (·.budget) s (by simp) (by simp) (by simp) (by simp) (by simp)
@[simp] theorem State.takeReadingNotices_drafts (s : State) : s.takeReadingNotices.drafts = s.drafts :=
  State.takeReadingNotices_keeps (·.drafts) s (by simp) (by simp) (by simp) (by simp) (by simp)
@[simp] theorem State.takeReadingNotices_pending (s : State) : s.takeReadingNotices.pending = s.pending :=
  State.takeReadingNotices_keeps (·.pending) s (by simp) (by simp) (by simp) (by simp) (by simp)
@[simp] theorem State.takeReadingNotices_air_clock (s : State) : s.takeReadingNotices.air.clock = s.air.clock :=
  State.takeReadingNotices_keeps (·.air.clock) s (by simp) (by simp) (by simp)
    (by simp [State.onAirZone, State.withAirZones])
    (by simp [State.recomputeAirZone, State.recomputeAir, State.withAirZones])
@[simp] theorem State.takeReadingNotices_air_settings (s : State) : s.takeReadingNotices.air.settings = s.air.settings :=
  State.takeReadingNotices_keeps (·.air.settings) s (by simp) (by simp) (by simp)
    (by simp [State.onAirZone, State.withAirZones])
    (by simp [State.recomputeAirZone, State.recomputeAir, State.withAirZones])

/-! ### State.withHeatZones -/

@[simp] theorem State.withHeatZones_part (zones : Table 12 HeatZone) (s : State) : (s.withHeatZones zones).part = s.part := rfl
@[simp] theorem State.withHeatZones_store (zones : Table 12 HeatZone) (s : State) : (s.withHeatZones zones).store = s.store := rfl
@[simp] theorem State.withHeatZones_zones (zones : Table 12 HeatZone) (s : State) : (s.withHeatZones zones).zones = s.zones := rfl
@[simp] theorem State.withHeatZones_loads (zones : Table 12 HeatZone) (s : State) : (s.withHeatZones zones).loads = s.loads := rfl
@[simp] theorem State.withHeatZones_duty (zones : Table 12 HeatZone) (s : State) : (s.withHeatZones zones).duty = s.duty := rfl
@[simp] theorem State.withHeatZones_calendar (zones : Table 12 HeatZone) (s : State) : (s.withHeatZones zones).calendar = s.calendar := rfl
@[simp] theorem State.withHeatZones_doors (zones : Table 12 HeatZone) (s : State) : (s.withHeatZones zones).doors = s.doors := rfl
@[simp] theorem State.withHeatZones_readings (zones : Table 12 HeatZone) (s : State) : (s.withHeatZones zones).readings = s.readings := rfl
@[simp] theorem State.withHeatZones_air (zones : Table 12 HeatZone) (s : State) : (s.withHeatZones zones).air = s.air := rfl
@[simp] theorem State.withHeatZones_light (zones : Table 12 HeatZone) (s : State) : (s.withHeatZones zones).light = s.light := rfl
@[simp] theorem State.withHeatZones_budget (zones : Table 12 HeatZone) (s : State) : (s.withHeatZones zones).budget = s.budget := rfl
@[simp] theorem State.withHeatZones_link (zones : Table 12 HeatZone) (s : State) : (s.withHeatZones zones).link = s.link := rfl
@[simp] theorem State.withHeatZones_drafts (zones : Table 12 HeatZone) (s : State) : (s.withHeatZones zones).drafts = s.drafts := rfl
@[simp] theorem State.withHeatZones_inFlight (zones : Table 12 HeatZone) (s : State) : (s.withHeatZones zones).inFlight = s.inFlight := rfl
@[simp] theorem State.withHeatZones_choices (zones : Table 12 HeatZone) (s : State) : (s.withHeatZones zones).choices = s.choices := rfl
@[simp] theorem State.withHeatZones_pending (zones : Table 12 HeatZone) (s : State) : (s.withHeatZones zones).pending = s.pending := rfl

/-! ### State.recomputeHeat -/

@[simp] theorem State.recomputeHeat_part (w : Zone → Bool) (f : HeatZone → HeatZone) (s : State) : (s.recomputeHeat w f).part = s.part := by simp [State.recomputeHeat]
@[simp] theorem State.recomputeHeat_store (w : Zone → Bool) (f : HeatZone → HeatZone) (s : State) : (s.recomputeHeat w f).store = s.store := by simp [State.recomputeHeat]
@[simp] theorem State.recomputeHeat_zones (w : Zone → Bool) (f : HeatZone → HeatZone) (s : State) : (s.recomputeHeat w f).zones = s.zones := by simp [State.recomputeHeat]
@[simp] theorem State.recomputeHeat_loads (w : Zone → Bool) (f : HeatZone → HeatZone) (s : State) : (s.recomputeHeat w f).loads = s.loads := by simp [State.recomputeHeat]
@[simp] theorem State.recomputeHeat_duty (w : Zone → Bool) (f : HeatZone → HeatZone) (s : State) : (s.recomputeHeat w f).duty = s.duty := by simp [State.recomputeHeat]
@[simp] theorem State.recomputeHeat_calendar (w : Zone → Bool) (f : HeatZone → HeatZone) (s : State) : (s.recomputeHeat w f).calendar = s.calendar := by simp [State.recomputeHeat]
@[simp] theorem State.recomputeHeat_doors (w : Zone → Bool) (f : HeatZone → HeatZone) (s : State) : (s.recomputeHeat w f).doors = s.doors := by simp [State.recomputeHeat]
@[simp] theorem State.recomputeHeat_readings (w : Zone → Bool) (f : HeatZone → HeatZone) (s : State) : (s.recomputeHeat w f).readings = s.readings := by simp [State.recomputeHeat]
@[simp] theorem State.recomputeHeat_air (w : Zone → Bool) (f : HeatZone → HeatZone) (s : State) : (s.recomputeHeat w f).air = s.air := by simp [State.recomputeHeat]
@[simp] theorem State.recomputeHeat_light (w : Zone → Bool) (f : HeatZone → HeatZone) (s : State) : (s.recomputeHeat w f).light = s.light := by simp [State.recomputeHeat]
@[simp] theorem State.recomputeHeat_budget (w : Zone → Bool) (f : HeatZone → HeatZone) (s : State) : (s.recomputeHeat w f).budget = s.budget := by simp [State.recomputeHeat]
@[simp] theorem State.recomputeHeat_drafts (w : Zone → Bool) (f : HeatZone → HeatZone) (s : State) : (s.recomputeHeat w f).drafts = s.drafts := by simp [State.recomputeHeat]
@[simp] theorem State.recomputeHeat_pending (w : Zone → Bool) (f : HeatZone → HeatZone) (s : State) : (s.recomputeHeat w f).pending = s.pending := by simp [State.recomputeHeat]

/-! ### State.recomputeHeatAll -/

@[simp] theorem State.recomputeHeatAll_part (f : HeatZone → HeatZone) (s : State) : (s.recomputeHeatAll f).part = s.part := by simp [State.recomputeHeatAll]
@[simp] theorem State.recomputeHeatAll_store (f : HeatZone → HeatZone) (s : State) : (s.recomputeHeatAll f).store = s.store := by simp [State.recomputeHeatAll]
@[simp] theorem State.recomputeHeatAll_zones (f : HeatZone → HeatZone) (s : State) : (s.recomputeHeatAll f).zones = s.zones := by simp [State.recomputeHeatAll]
@[simp] theorem State.recomputeHeatAll_loads (f : HeatZone → HeatZone) (s : State) : (s.recomputeHeatAll f).loads = s.loads := by simp [State.recomputeHeatAll]
@[simp] theorem State.recomputeHeatAll_duty (f : HeatZone → HeatZone) (s : State) : (s.recomputeHeatAll f).duty = s.duty := by simp [State.recomputeHeatAll]
@[simp] theorem State.recomputeHeatAll_calendar (f : HeatZone → HeatZone) (s : State) : (s.recomputeHeatAll f).calendar = s.calendar := by simp [State.recomputeHeatAll]
@[simp] theorem State.recomputeHeatAll_doors (f : HeatZone → HeatZone) (s : State) : (s.recomputeHeatAll f).doors = s.doors := by simp [State.recomputeHeatAll]
@[simp] theorem State.recomputeHeatAll_readings (f : HeatZone → HeatZone) (s : State) : (s.recomputeHeatAll f).readings = s.readings := by simp [State.recomputeHeatAll]
@[simp] theorem State.recomputeHeatAll_air (f : HeatZone → HeatZone) (s : State) : (s.recomputeHeatAll f).air = s.air := by simp [State.recomputeHeatAll]
@[simp] theorem State.recomputeHeatAll_light (f : HeatZone → HeatZone) (s : State) : (s.recomputeHeatAll f).light = s.light := by simp [State.recomputeHeatAll]
@[simp] theorem State.recomputeHeatAll_budget (f : HeatZone → HeatZone) (s : State) : (s.recomputeHeatAll f).budget = s.budget := by simp [State.recomputeHeatAll]
@[simp] theorem State.recomputeHeatAll_drafts (f : HeatZone → HeatZone) (s : State) : (s.recomputeHeatAll f).drafts = s.drafts := by simp [State.recomputeHeatAll]
@[simp] theorem State.recomputeHeatAll_pending (f : HeatZone → HeatZone) (s : State) : (s.recomputeHeatAll f).pending = s.pending := by simp [State.recomputeHeatAll]

/-! ### State.recomputeHeatZone -/

@[simp] theorem State.recomputeHeatZone_part (z : Zone) (f : HeatZone → HeatZone) (s : State) : (s.recomputeHeatZone z f).part = s.part := by simp [State.recomputeHeatZone]
@[simp] theorem State.recomputeHeatZone_store (z : Zone) (f : HeatZone → HeatZone) (s : State) : (s.recomputeHeatZone z f).store = s.store := by simp [State.recomputeHeatZone]
@[simp] theorem State.recomputeHeatZone_zones (z : Zone) (f : HeatZone → HeatZone) (s : State) : (s.recomputeHeatZone z f).zones = s.zones := by simp [State.recomputeHeatZone]
@[simp] theorem State.recomputeHeatZone_loads (z : Zone) (f : HeatZone → HeatZone) (s : State) : (s.recomputeHeatZone z f).loads = s.loads := by simp [State.recomputeHeatZone]
@[simp] theorem State.recomputeHeatZone_duty (z : Zone) (f : HeatZone → HeatZone) (s : State) : (s.recomputeHeatZone z f).duty = s.duty := by simp [State.recomputeHeatZone]
@[simp] theorem State.recomputeHeatZone_calendar (z : Zone) (f : HeatZone → HeatZone) (s : State) : (s.recomputeHeatZone z f).calendar = s.calendar := by simp [State.recomputeHeatZone]
@[simp] theorem State.recomputeHeatZone_doors (z : Zone) (f : HeatZone → HeatZone) (s : State) : (s.recomputeHeatZone z f).doors = s.doors := by simp [State.recomputeHeatZone]
@[simp] theorem State.recomputeHeatZone_readings (z : Zone) (f : HeatZone → HeatZone) (s : State) : (s.recomputeHeatZone z f).readings = s.readings := by simp [State.recomputeHeatZone]
@[simp] theorem State.recomputeHeatZone_air (z : Zone) (f : HeatZone → HeatZone) (s : State) : (s.recomputeHeatZone z f).air = s.air := by simp [State.recomputeHeatZone]
@[simp] theorem State.recomputeHeatZone_light (z : Zone) (f : HeatZone → HeatZone) (s : State) : (s.recomputeHeatZone z f).light = s.light := by simp [State.recomputeHeatZone]
@[simp] theorem State.recomputeHeatZone_budget (z : Zone) (f : HeatZone → HeatZone) (s : State) : (s.recomputeHeatZone z f).budget = s.budget := by simp [State.recomputeHeatZone]
@[simp] theorem State.recomputeHeatZone_drafts (z : Zone) (f : HeatZone → HeatZone) (s : State) : (s.recomputeHeatZone z f).drafts = s.drafts := by simp [State.recomputeHeatZone]
@[simp] theorem State.recomputeHeatZone_pending (z : Zone) (f : HeatZone → HeatZone) (s : State) : (s.recomputeHeatZone z f).pending = s.pending := by simp [State.recomputeHeatZone]

/-! ### State.onHeatZone -/

@[simp] theorem State.onHeatZone_part (z : Zone) (f : HeatZone → HeatZone) (s : State) : (s.onHeatZone z f).part = s.part := rfl
@[simp] theorem State.onHeatZone_store (z : Zone) (f : HeatZone → HeatZone) (s : State) : (s.onHeatZone z f).store = s.store := rfl
@[simp] theorem State.onHeatZone_zones (z : Zone) (f : HeatZone → HeatZone) (s : State) : (s.onHeatZone z f).zones = s.zones := rfl
@[simp] theorem State.onHeatZone_loads (z : Zone) (f : HeatZone → HeatZone) (s : State) : (s.onHeatZone z f).loads = s.loads := rfl
@[simp] theorem State.onHeatZone_duty (z : Zone) (f : HeatZone → HeatZone) (s : State) : (s.onHeatZone z f).duty = s.duty := rfl
@[simp] theorem State.onHeatZone_calendar (z : Zone) (f : HeatZone → HeatZone) (s : State) : (s.onHeatZone z f).calendar = s.calendar := rfl
@[simp] theorem State.onHeatZone_doors (z : Zone) (f : HeatZone → HeatZone) (s : State) : (s.onHeatZone z f).doors = s.doors := rfl
@[simp] theorem State.onHeatZone_readings (z : Zone) (f : HeatZone → HeatZone) (s : State) : (s.onHeatZone z f).readings = s.readings := rfl
@[simp] theorem State.onHeatZone_air (z : Zone) (f : HeatZone → HeatZone) (s : State) : (s.onHeatZone z f).air = s.air := rfl
@[simp] theorem State.onHeatZone_light (z : Zone) (f : HeatZone → HeatZone) (s : State) : (s.onHeatZone z f).light = s.light := rfl
@[simp] theorem State.onHeatZone_budget (z : Zone) (f : HeatZone → HeatZone) (s : State) : (s.onHeatZone z f).budget = s.budget := rfl
@[simp] theorem State.onHeatZone_link (z : Zone) (f : HeatZone → HeatZone) (s : State) : (s.onHeatZone z f).link = s.link := rfl
@[simp] theorem State.onHeatZone_drafts (z : Zone) (f : HeatZone → HeatZone) (s : State) : (s.onHeatZone z f).drafts = s.drafts := rfl
@[simp] theorem State.onHeatZone_inFlight (z : Zone) (f : HeatZone → HeatZone) (s : State) : (s.onHeatZone z f).inFlight = s.inFlight := rfl
@[simp] theorem State.onHeatZone_choices (z : Zone) (f : HeatZone → HeatZone) (s : State) : (s.onHeatZone z f).choices = s.choices := rfl
@[simp] theorem State.onHeatZone_pending (z : Zone) (f : HeatZone → HeatZone) (s : State) : (s.onHeatZone z f).pending = s.pending := rfl

/-! ### State.recomputeLight -/

@[simp] theorem State.recomputeLight_part (z : Zone) (f : LightZone → LightZone) (s : State) : (s.recomputeLight z f).part = s.part := rfl
@[simp] theorem State.recomputeLight_store (z : Zone) (f : LightZone → LightZone) (s : State) : (s.recomputeLight z f).store = s.store := rfl
@[simp] theorem State.recomputeLight_zones (z : Zone) (f : LightZone → LightZone) (s : State) : (s.recomputeLight z f).zones = s.zones := rfl
@[simp] theorem State.recomputeLight_loads (z : Zone) (f : LightZone → LightZone) (s : State) : (s.recomputeLight z f).loads = s.loads := rfl
@[simp] theorem State.recomputeLight_duty (z : Zone) (f : LightZone → LightZone) (s : State) : (s.recomputeLight z f).duty = s.duty := rfl
@[simp] theorem State.recomputeLight_calendar (z : Zone) (f : LightZone → LightZone) (s : State) : (s.recomputeLight z f).calendar = s.calendar := rfl
@[simp] theorem State.recomputeLight_doors (z : Zone) (f : LightZone → LightZone) (s : State) : (s.recomputeLight z f).doors = s.doors := rfl
@[simp] theorem State.recomputeLight_readings (z : Zone) (f : LightZone → LightZone) (s : State) : (s.recomputeLight z f).readings = s.readings := rfl
@[simp] theorem State.recomputeLight_air (z : Zone) (f : LightZone → LightZone) (s : State) : (s.recomputeLight z f).air = s.air := rfl
@[simp] theorem State.recomputeLight_heat (z : Zone) (f : LightZone → LightZone) (s : State) : (s.recomputeLight z f).heat = s.heat := rfl
@[simp] theorem State.recomputeLight_budget (z : Zone) (f : LightZone → LightZone) (s : State) : (s.recomputeLight z f).budget = s.budget := rfl
@[simp] theorem State.recomputeLight_link (z : Zone) (f : LightZone → LightZone) (s : State) : (s.recomputeLight z f).link = s.link := rfl
@[simp] theorem State.recomputeLight_drafts (z : Zone) (f : LightZone → LightZone) (s : State) : (s.recomputeLight z f).drafts = s.drafts := rfl
@[simp] theorem State.recomputeLight_choices (z : Zone) (f : LightZone → LightZone) (s : State) : (s.recomputeLight z f).choices = s.choices := rfl
@[simp] theorem State.recomputeLight_pending (z : Zone) (f : LightZone → LightZone) (s : State) : (s.recomputeLight z f).pending = s.pending := rfl

/-! ### State.doorEvent -/

@[simp] theorem State.doorEvent_part (ds : Doors) (s : State) : (s.doorEvent ds).part = s.part := rfl
@[simp] theorem State.doorEvent_store (ds : Doors) (s : State) : (s.doorEvent ds).store = s.store := rfl
@[simp] theorem State.doorEvent_zones (ds : Doors) (s : State) : (s.doorEvent ds).zones = s.zones := rfl
@[simp] theorem State.doorEvent_loads (ds : Doors) (s : State) : (s.doorEvent ds).loads = s.loads := rfl
@[simp] theorem State.doorEvent_duty (ds : Doors) (s : State) : (s.doorEvent ds).duty = s.duty := rfl
@[simp] theorem State.doorEvent_calendar (ds : Doors) (s : State) : (s.doorEvent ds).calendar = s.calendar := rfl
@[simp] theorem State.doorEvent_readings (ds : Doors) (s : State) : (s.doorEvent ds).readings = s.readings := rfl
@[simp] theorem State.doorEvent_air (ds : Doors) (s : State) : (s.doorEvent ds).air = s.air := rfl
@[simp] theorem State.doorEvent_heat (ds : Doors) (s : State) : (s.doorEvent ds).heat = s.heat := rfl
@[simp] theorem State.doorEvent_light (ds : Doors) (s : State) : (s.doorEvent ds).light = s.light := rfl
@[simp] theorem State.doorEvent_budget (ds : Doors) (s : State) : (s.doorEvent ds).budget = s.budget := rfl
@[simp] theorem State.doorEvent_link (ds : Doors) (s : State) : (s.doorEvent ds).link = s.link := rfl
@[simp] theorem State.doorEvent_drafts (ds : Doors) (s : State) : (s.doorEvent ds).drafts = s.drafts := rfl
@[simp] theorem State.doorEvent_choices (ds : Doors) (s : State) : (s.doorEvent ds).choices = s.choices := rfl
@[simp] theorem State.doorEvent_pending (ds : Doors) (s : State) : (s.doorEvent ds).pending = s.pending := rfl

/-! ### State.settleLine -/

@[simp] theorem State.settleLine_part (n : LineNo) (s : State) : (s.settleLine n).part = s.part := by simp only [State.settleLine]; split <;> rfl
@[simp] theorem State.settleLine_store (n : LineNo) (s : State) : (s.settleLine n).store = s.store := by simp only [State.settleLine]; split <;> rfl
@[simp] theorem State.settleLine_zones (n : LineNo) (s : State) : (s.settleLine n).zones = s.zones := by simp only [State.settleLine]; split <;> rfl
@[simp] theorem State.settleLine_loads (n : LineNo) (s : State) : (s.settleLine n).loads = s.loads := by simp only [State.settleLine]; split <;> rfl
@[simp] theorem State.settleLine_duty (n : LineNo) (s : State) : (s.settleLine n).duty = s.duty := by simp only [State.settleLine]; split <;> rfl
@[simp] theorem State.settleLine_calendar (n : LineNo) (s : State) : (s.settleLine n).calendar = s.calendar := by simp only [State.settleLine]; split <;> rfl
@[simp] theorem State.settleLine_readings (n : LineNo) (s : State) : (s.settleLine n).readings = s.readings := by simp only [State.settleLine]; split <;> rfl
@[simp] theorem State.settleLine_air (n : LineNo) (s : State) : (s.settleLine n).air = s.air := by simp only [State.settleLine]; split <;> rfl
@[simp] theorem State.settleLine_heat (n : LineNo) (s : State) : (s.settleLine n).heat = s.heat := by simp only [State.settleLine]; split <;> rfl
@[simp] theorem State.settleLine_light (n : LineNo) (s : State) : (s.settleLine n).light = s.light := by simp only [State.settleLine]; split <;> rfl
@[simp] theorem State.settleLine_budget (n : LineNo) (s : State) : (s.settleLine n).budget = s.budget := by simp only [State.settleLine]; split <;> rfl
@[simp] theorem State.settleLine_link (n : LineNo) (s : State) : (s.settleLine n).link = s.link := by simp only [State.settleLine]; split <;> rfl
@[simp] theorem State.settleLine_drafts (n : LineNo) (s : State) : (s.settleLine n).drafts = s.drafts := by simp only [State.settleLine]; split <;> rfl
@[simp] theorem State.settleLine_choices (n : LineNo) (s : State) : (s.settleLine n).choices = s.choices := by simp only [State.settleLine]; split <;> rfl
@[simp] theorem State.settleLine_pending (n : LineNo) (s : State) : (s.settleLine n).pending = s.pending := by simp only [State.settleLine]; split <;> rfl

/-! ### State.onSensor -/

@[simp] theorem State.onSensor_part (n : SensorNo) (f : Sensor → Sensor) (s : State) : (s.onSensor n f).part = s.part := rfl
@[simp] theorem State.onSensor_store (n : SensorNo) (f : Sensor → Sensor) (s : State) : (s.onSensor n f).store = s.store := rfl
@[simp] theorem State.onSensor_zones (n : SensorNo) (f : Sensor → Sensor) (s : State) : (s.onSensor n f).zones = s.zones := rfl
@[simp] theorem State.onSensor_loads (n : SensorNo) (f : Sensor → Sensor) (s : State) : (s.onSensor n f).loads = s.loads := rfl
@[simp] theorem State.onSensor_duty (n : SensorNo) (f : Sensor → Sensor) (s : State) : (s.onSensor n f).duty = s.duty := rfl
@[simp] theorem State.onSensor_calendar (n : SensorNo) (f : Sensor → Sensor) (s : State) : (s.onSensor n f).calendar = s.calendar := rfl
@[simp] theorem State.onSensor_doors (n : SensorNo) (f : Sensor → Sensor) (s : State) : (s.onSensor n f).doors = s.doors := rfl
@[simp] theorem State.onSensor_air (n : SensorNo) (f : Sensor → Sensor) (s : State) : (s.onSensor n f).air = s.air := rfl
@[simp] theorem State.onSensor_heat (n : SensorNo) (f : Sensor → Sensor) (s : State) : (s.onSensor n f).heat = s.heat := rfl
@[simp] theorem State.onSensor_light (n : SensorNo) (f : Sensor → Sensor) (s : State) : (s.onSensor n f).light = s.light := rfl
@[simp] theorem State.onSensor_budget (n : SensorNo) (f : Sensor → Sensor) (s : State) : (s.onSensor n f).budget = s.budget := rfl
@[simp] theorem State.onSensor_link (n : SensorNo) (f : Sensor → Sensor) (s : State) : (s.onSensor n f).link = s.link := rfl
@[simp] theorem State.onSensor_drafts (n : SensorNo) (f : Sensor → Sensor) (s : State) : (s.onSensor n f).drafts = s.drafts := rfl
@[simp] theorem State.onSensor_inFlight (n : SensorNo) (f : Sensor → Sensor) (s : State) : (s.onSensor n f).inFlight = s.inFlight := rfl
@[simp] theorem State.onSensor_choices (n : SensorNo) (f : Sensor → Sensor) (s : State) : (s.onSensor n f).choices = s.choices := rfl
@[simp] theorem State.onSensor_pending (n : SensorNo) (f : Sensor → Sensor) (s : State) : (s.onSensor n f).pending = s.pending := rfl

/-! ### State.readingEvent -/

@[simp] theorem State.readingEvent_part (n : SensorNo) (f : Sensor → Sensor) (s : State) : (s.readingEvent n f).part = s.part := rfl
@[simp] theorem State.readingEvent_store (n : SensorNo) (f : Sensor → Sensor) (s : State) : (s.readingEvent n f).store = s.store := rfl
@[simp] theorem State.readingEvent_zones (n : SensorNo) (f : Sensor → Sensor) (s : State) : (s.readingEvent n f).zones = s.zones := rfl
@[simp] theorem State.readingEvent_loads (n : SensorNo) (f : Sensor → Sensor) (s : State) : (s.readingEvent n f).loads = s.loads := rfl
@[simp] theorem State.readingEvent_duty (n : SensorNo) (f : Sensor → Sensor) (s : State) : (s.readingEvent n f).duty = s.duty := rfl
@[simp] theorem State.readingEvent_calendar (n : SensorNo) (f : Sensor → Sensor) (s : State) : (s.readingEvent n f).calendar = s.calendar := rfl
@[simp] theorem State.readingEvent_doors (n : SensorNo) (f : Sensor → Sensor) (s : State) : (s.readingEvent n f).doors = s.doors := rfl
@[simp] theorem State.readingEvent_air (n : SensorNo) (f : Sensor → Sensor) (s : State) : (s.readingEvent n f).air = s.air := rfl
@[simp] theorem State.readingEvent_heat (n : SensorNo) (f : Sensor → Sensor) (s : State) : (s.readingEvent n f).heat = s.heat := rfl
@[simp] theorem State.readingEvent_light (n : SensorNo) (f : Sensor → Sensor) (s : State) : (s.readingEvent n f).light = s.light := rfl
@[simp] theorem State.readingEvent_budget (n : SensorNo) (f : Sensor → Sensor) (s : State) : (s.readingEvent n f).budget = s.budget := rfl
@[simp] theorem State.readingEvent_link (n : SensorNo) (f : Sensor → Sensor) (s : State) : (s.readingEvent n f).link = s.link := rfl
@[simp] theorem State.readingEvent_drafts (n : SensorNo) (f : Sensor → Sensor) (s : State) : (s.readingEvent n f).drafts = s.drafts := rfl
@[simp] theorem State.readingEvent_choices (n : SensorNo) (f : Sensor → Sensor) (s : State) : (s.readingEvent n f).choices = s.choices := rfl
@[simp] theorem State.readingEvent_pending (n : SensorNo) (f : Sensor → Sensor) (s : State) : (s.readingEvent n f).pending = s.pending := rfl

/-! ### State.calendarEvent -/

@[simp] theorem State.calendarEvent_part (e : CalendarEvent) (s : State) : (s.calendarEvent e).part = s.part := by unfold State.calendarEvent; split <;> rfl
@[simp] theorem State.calendarEvent_store (e : CalendarEvent) (s : State) : (s.calendarEvent e).store = s.store := by unfold State.calendarEvent; split <;> rfl
@[simp] theorem State.calendarEvent_zones (e : CalendarEvent) (s : State) : (s.calendarEvent e).zones = s.zones := by unfold State.calendarEvent; split <;> rfl
@[simp] theorem State.calendarEvent_loads (e : CalendarEvent) (s : State) : (s.calendarEvent e).loads = s.loads := by unfold State.calendarEvent; split <;> rfl
@[simp] theorem State.calendarEvent_duty (e : CalendarEvent) (s : State) : (s.calendarEvent e).duty = s.duty := by unfold State.calendarEvent; split <;> rfl
@[simp] theorem State.calendarEvent_doors (e : CalendarEvent) (s : State) : (s.calendarEvent e).doors = s.doors := by unfold State.calendarEvent; split <;> rfl
@[simp] theorem State.calendarEvent_readings (e : CalendarEvent) (s : State) : (s.calendarEvent e).readings = s.readings := by unfold State.calendarEvent; split <;> rfl
@[simp] theorem State.calendarEvent_air (e : CalendarEvent) (s : State) : (s.calendarEvent e).air = s.air := by unfold State.calendarEvent; split <;> rfl
@[simp] theorem State.calendarEvent_heat (e : CalendarEvent) (s : State) : (s.calendarEvent e).heat = s.heat := by unfold State.calendarEvent; split <;> rfl
@[simp] theorem State.calendarEvent_light (e : CalendarEvent) (s : State) : (s.calendarEvent e).light = s.light := by unfold State.calendarEvent; split <;> rfl
@[simp] theorem State.calendarEvent_budget (e : CalendarEvent) (s : State) : (s.calendarEvent e).budget = s.budget := by unfold State.calendarEvent; split <;> rfl
@[simp] theorem State.calendarEvent_link (e : CalendarEvent) (s : State) : (s.calendarEvent e).link = s.link := by unfold State.calendarEvent; split <;> rfl
@[simp] theorem State.calendarEvent_choices (e : CalendarEvent) (s : State) : (s.calendarEvent e).choices = s.choices := by unfold State.calendarEvent; split <;> rfl
@[simp] theorem State.calendarEvent_pending (e : CalendarEvent) (s : State) : (s.calendarEvent e).pending = s.pending := by unfold State.calendarEvent; split <;> rfl

/-! ### State.raiseBoundary -/

@[simp] theorem State.raiseBoundary_part (s : State) : s.raiseBoundary.part = s.part := by unfold State.raiseBoundary; split <;> (try split) <;> simp
@[simp] theorem State.raiseBoundary_store (s : State) : s.raiseBoundary.store = s.store := by unfold State.raiseBoundary; split <;> (try split) <;> simp
@[simp] theorem State.raiseBoundary_zones (s : State) : s.raiseBoundary.zones = s.zones := by unfold State.raiseBoundary; split <;> (try split) <;> simp
@[simp] theorem State.raiseBoundary_loads (s : State) : s.raiseBoundary.loads = s.loads := by unfold State.raiseBoundary; split <;> (try split) <;> simp
@[simp] theorem State.raiseBoundary_duty (s : State) : s.raiseBoundary.duty = s.duty := by unfold State.raiseBoundary; split <;> (try split) <;> simp
@[simp] theorem State.raiseBoundary_calendar (s : State) : s.raiseBoundary.calendar = s.calendar := by unfold State.raiseBoundary; split <;> (try split) <;> simp
@[simp] theorem State.raiseBoundary_doors (s : State) : s.raiseBoundary.doors = s.doors := by unfold State.raiseBoundary; split <;> (try split) <;> simp
@[simp] theorem State.raiseBoundary_readings (s : State) : s.raiseBoundary.readings = s.readings := by unfold State.raiseBoundary; split <;> (try split) <;> simp
@[simp] theorem State.raiseBoundary_air (s : State) : s.raiseBoundary.air = s.air := by unfold State.raiseBoundary; split <;> (try split) <;> simp
@[simp] theorem State.raiseBoundary_heat (s : State) : s.raiseBoundary.heat = s.heat := by unfold State.raiseBoundary; split <;> (try split) <;> simp
@[simp] theorem State.raiseBoundary_light (s : State) : s.raiseBoundary.light = s.light := by unfold State.raiseBoundary; split <;> (try split) <;> simp
@[simp] theorem State.raiseBoundary_budget (s : State) : s.raiseBoundary.budget = s.budget := by unfold State.raiseBoundary; split <;> (try split) <;> simp
@[simp] theorem State.raiseBoundary_inFlight (s : State) : s.raiseBoundary.inFlight = s.inFlight := by unfold State.raiseBoundary; split <;> (try split) <;> simp
@[simp] theorem State.raiseBoundary_choices (s : State) : s.raiseBoundary.choices = s.choices := by unfold State.raiseBoundary; split <;> (try split) <;> simp
@[simp] theorem State.raiseBoundary_pending (s : State) : s.raiseBoundary.pending = s.pending := by unfold State.raiseBoundary; split <;> (try split) <;> simp

/-! ### State.enterAir -/

@[simp] theorem State.enterAir_part (l : List AirFigures) (s : State) : (s.enterAir l).part = s.part := by simp [State.enterAir]
@[simp] theorem State.enterAir_store (l : List AirFigures) (s : State) : (s.enterAir l).store = s.store := by simp [State.enterAir]
@[simp] theorem State.enterAir_zones (l : List AirFigures) (s : State) : (s.enterAir l).zones = s.zones := by simp [State.enterAir]
@[simp] theorem State.enterAir_loads (l : List AirFigures) (s : State) : (s.enterAir l).loads = s.loads := by simp [State.enterAir]
@[simp] theorem State.enterAir_duty (l : List AirFigures) (s : State) : (s.enterAir l).duty = s.duty := by simp [State.enterAir]
@[simp] theorem State.enterAir_calendar (l : List AirFigures) (s : State) : (s.enterAir l).calendar = s.calendar := by simp [State.enterAir]
@[simp] theorem State.enterAir_doors (l : List AirFigures) (s : State) : (s.enterAir l).doors = s.doors := by simp [State.enterAir]
@[simp] theorem State.enterAir_readings (l : List AirFigures) (s : State) : (s.enterAir l).readings = s.readings := by simp [State.enterAir]
@[simp] theorem State.enterAir_air (l : List AirFigures) (s : State) : (s.enterAir l).air = s.air := by simp [State.enterAir]
@[simp] theorem State.enterAir_heat (l : List AirFigures) (s : State) : (s.enterAir l).heat = s.heat := by simp [State.enterAir]
@[simp] theorem State.enterAir_light (l : List AirFigures) (s : State) : (s.enterAir l).light = s.light := by simp [State.enterAir]
@[simp] theorem State.enterAir_budget (l : List AirFigures) (s : State) : (s.enterAir l).budget = s.budget := by simp [State.enterAir]
@[simp] theorem State.enterAir_inFlight (l : List AirFigures) (s : State) : (s.enterAir l).inFlight = s.inFlight := by simp [State.enterAir]
@[simp] theorem State.enterAir_choices (l : List AirFigures) (s : State) : (s.enterAir l).choices = s.choices := by simp [State.enterAir]
@[simp] theorem State.enterAir_pending (l : List AirFigures) (s : State) : (s.enterAir l).pending = s.pending := by simp [State.enterAir]

/-! ### State.enterDoors -/

@[simp] theorem State.enterDoors_part (l : List DoorFigures) (s : State) : (s.enterDoors l).part = s.part := by simp [State.enterDoors]
@[simp] theorem State.enterDoors_store (l : List DoorFigures) (s : State) : (s.enterDoors l).store = s.store := by simp [State.enterDoors]
@[simp] theorem State.enterDoors_zones (l : List DoorFigures) (s : State) : (s.enterDoors l).zones = s.zones := by simp [State.enterDoors]
@[simp] theorem State.enterDoors_loads (l : List DoorFigures) (s : State) : (s.enterDoors l).loads = s.loads := by simp [State.enterDoors]
@[simp] theorem State.enterDoors_duty (l : List DoorFigures) (s : State) : (s.enterDoors l).duty = s.duty := by simp [State.enterDoors]
@[simp] theorem State.enterDoors_calendar (l : List DoorFigures) (s : State) : (s.enterDoors l).calendar = s.calendar := by simp [State.enterDoors]
@[simp] theorem State.enterDoors_doors (l : List DoorFigures) (s : State) : (s.enterDoors l).doors = s.doors := by simp [State.enterDoors]
@[simp] theorem State.enterDoors_readings (l : List DoorFigures) (s : State) : (s.enterDoors l).readings = s.readings := by simp [State.enterDoors]
@[simp] theorem State.enterDoors_air (l : List DoorFigures) (s : State) : (s.enterDoors l).air = s.air := by simp [State.enterDoors]
@[simp] theorem State.enterDoors_heat (l : List DoorFigures) (s : State) : (s.enterDoors l).heat = s.heat := by simp [State.enterDoors]
@[simp] theorem State.enterDoors_light (l : List DoorFigures) (s : State) : (s.enterDoors l).light = s.light := by simp [State.enterDoors]
@[simp] theorem State.enterDoors_budget (l : List DoorFigures) (s : State) : (s.enterDoors l).budget = s.budget := by simp [State.enterDoors]
@[simp] theorem State.enterDoors_inFlight (l : List DoorFigures) (s : State) : (s.enterDoors l).inFlight = s.inFlight := by simp [State.enterDoors]
@[simp] theorem State.enterDoors_choices (l : List DoorFigures) (s : State) : (s.enterDoors l).choices = s.choices := by simp [State.enterDoors]
@[simp] theorem State.enterDoors_pending (l : List DoorFigures) (s : State) : (s.enterDoors l).pending = s.pending := by simp [State.enterDoors]

/-! ### State.probeDue -/

@[simp] theorem State.probeDue_part (s : State) : s.probeDue.part = s.part := rfl
@[simp] theorem State.probeDue_store (s : State) : s.probeDue.store = s.store := rfl
@[simp] theorem State.probeDue_zones (s : State) : s.probeDue.zones = s.zones := rfl
@[simp] theorem State.probeDue_loads (s : State) : s.probeDue.loads = s.loads := rfl
@[simp] theorem State.probeDue_duty (s : State) : s.probeDue.duty = s.duty := rfl
@[simp] theorem State.probeDue_calendar (s : State) : s.probeDue.calendar = s.calendar := rfl
@[simp] theorem State.probeDue_doors (s : State) : s.probeDue.doors = s.doors := rfl
@[simp] theorem State.probeDue_readings (s : State) : s.probeDue.readings = s.readings := rfl
@[simp] theorem State.probeDue_air (s : State) : s.probeDue.air = s.air := rfl
@[simp] theorem State.probeDue_heat (s : State) : s.probeDue.heat = s.heat := rfl
@[simp] theorem State.probeDue_light (s : State) : s.probeDue.light = s.light := rfl
@[simp] theorem State.probeDue_budget (s : State) : s.probeDue.budget = s.budget := rfl
@[simp] theorem State.probeDue_drafts (s : State) : s.probeDue.drafts = s.drafts := rfl
@[simp] theorem State.probeDue_inFlight (s : State) : s.probeDue.inFlight = s.inFlight := rfl
@[simp] theorem State.probeDue_choices (s : State) : s.probeDue.choices = s.choices := rfl
@[simp] theorem State.probeDue_pending (s : State) : s.probeDue.pending = s.pending := rfl

/-! ### State.hostPresent -/

@[simp] theorem State.hostPresent_part (s : State) : s.hostPresent.part = s.part := by simp only [State.hostPresent]; split <;> simp
@[simp] theorem State.hostPresent_store (s : State) : s.hostPresent.store = s.store := by simp only [State.hostPresent]; split <;> simp
@[simp] theorem State.hostPresent_zones (s : State) : s.hostPresent.zones = s.zones := by simp only [State.hostPresent]; split <;> simp
@[simp] theorem State.hostPresent_loads (s : State) : s.hostPresent.loads = s.loads := by simp only [State.hostPresent]; split <;> simp
@[simp] theorem State.hostPresent_duty (s : State) : s.hostPresent.duty = s.duty := by simp only [State.hostPresent]; split <;> simp
@[simp] theorem State.hostPresent_calendar (s : State) : s.hostPresent.calendar = s.calendar := by simp only [State.hostPresent]; split <;> simp
@[simp] theorem State.hostPresent_doors (s : State) : s.hostPresent.doors = s.doors := by simp only [State.hostPresent]; split <;> simp
@[simp] theorem State.hostPresent_readings (s : State) : s.hostPresent.readings = s.readings := by simp only [State.hostPresent]; split <;> simp
@[simp] theorem State.hostPresent_air (s : State) : s.hostPresent.air = s.air := by simp only [State.hostPresent]; split <;> simp
@[simp] theorem State.hostPresent_heat (s : State) : s.hostPresent.heat = s.heat := by simp only [State.hostPresent]; split <;> simp
@[simp] theorem State.hostPresent_light (s : State) : s.hostPresent.light = s.light := by simp only [State.hostPresent]; split <;> simp
@[simp] theorem State.hostPresent_budget (s : State) : s.hostPresent.budget = s.budget := by simp only [State.hostPresent]; split <;> simp
@[simp] theorem State.hostPresent_drafts (s : State) : s.hostPresent.drafts = s.drafts := by simp only [State.hostPresent]; split <;> simp
@[simp] theorem State.hostPresent_inFlight (s : State) : s.hostPresent.inFlight = s.inFlight := by simp only [State.hostPresent]; split <;> simp
@[simp] theorem State.hostPresent_choices (s : State) : s.hostPresent.choices = s.choices := by simp only [State.hostPresent]; split <;> simp
@[simp] theorem State.hostPresent_pending (s : State) : s.hostPresent.pending = s.pending := by simp only [State.hostPresent]; split <;> simp

/-! ### State.completeFrame -/

@[simp] theorem State.completeFrame_part (f : RawFrame) (s : State) : (s.completeFrame f).part = s.part := by simp only [State.completeFrame]; split <;> simp
@[simp] theorem State.completeFrame_store (f : RawFrame) (s : State) : (s.completeFrame f).store = s.store := by simp only [State.completeFrame]; split <;> simp
@[simp] theorem State.completeFrame_zones (f : RawFrame) (s : State) : (s.completeFrame f).zones = s.zones := by simp only [State.completeFrame]; split <;> simp
@[simp] theorem State.completeFrame_loads (f : RawFrame) (s : State) : (s.completeFrame f).loads = s.loads := by simp only [State.completeFrame]; split <;> simp
@[simp] theorem State.completeFrame_duty (f : RawFrame) (s : State) : (s.completeFrame f).duty = s.duty := by simp only [State.completeFrame]; split <;> simp
@[simp] theorem State.completeFrame_calendar (f : RawFrame) (s : State) : (s.completeFrame f).calendar = s.calendar := by simp only [State.completeFrame]; split <;> simp
@[simp] theorem State.completeFrame_doors (f : RawFrame) (s : State) : (s.completeFrame f).doors = s.doors := by simp only [State.completeFrame]; split <;> simp
@[simp] theorem State.completeFrame_readings (f : RawFrame) (s : State) : (s.completeFrame f).readings = s.readings := by simp only [State.completeFrame]; split <;> simp
@[simp] theorem State.completeFrame_air (f : RawFrame) (s : State) : (s.completeFrame f).air = s.air := by simp only [State.completeFrame]; split <;> simp
@[simp] theorem State.completeFrame_heat (f : RawFrame) (s : State) : (s.completeFrame f).heat = s.heat := by simp only [State.completeFrame]; split <;> simp
@[simp] theorem State.completeFrame_light (f : RawFrame) (s : State) : (s.completeFrame f).light = s.light := by simp only [State.completeFrame]; split <;> simp
@[simp] theorem State.completeFrame_budget (f : RawFrame) (s : State) : (s.completeFrame f).budget = s.budget := by simp only [State.completeFrame]; split <;> simp
@[simp] theorem State.completeFrame_drafts (f : RawFrame) (s : State) : (s.completeFrame f).drafts = s.drafts := by simp only [State.completeFrame]; split <;> simp
@[simp] theorem State.completeFrame_inFlight (f : RawFrame) (s : State) : (s.completeFrame f).inFlight = s.inFlight := by simp only [State.completeFrame]; split <;> simp
@[simp] theorem State.completeFrame_choices (f : RawFrame) (s : State) : (s.completeFrame f).choices = s.choices := by simp only [State.completeFrame]; split <;> simp
@[simp] theorem State.completeFrame_pending (f : RawFrame) (s : State) : (s.completeFrame f).pending = s.pending := by simp only [State.completeFrame]; split <;> simp

end Sys2Proof.Machine
end

