-- ==== Sys2Proof/Laws/Ops.lean ====
section
/-! SUPPORT. For each shared operation one lemma that says what it can do: ending a command, taking a request, a notice
or an event, the transmitter's choice, the report queue, and free orders. -/

namespace Sys2Proof.Machine

/-! ### Ending a command -/

/-- The transmitter's choice leaves the parts outside the transmitter alone (R152). -/
theorem Link.kick_frame (l : Link) :
    l.kick.receiver = l.receiver ∧ l.kick.buffer = l.buffer ∧ l.kick.overrun = l.overrun ∧ l.kick.handed = l.handed
      ∧ l.kick.mask = l.mask ∧ l.kick.supervision = l.supervision ∧ l.kick.idle = l.idle ∧ l.kick.interval = l.interval
      ∧ l.kick.probes = l.probes ∧ l.kick.settings = l.settings := by
  unfold Link.kick
  repeat' (first | split | exact ⟨rfl, rfl, rfl, rfl, rfl, rfl, rfl, rfl, rfl, rfl⟩)

/-- A transmitter that is sending makes no choice. -/
theorem Link.kick_busy {l : Link} {x : Sent} (h : l.sending = some x) : l.kick = l := by
  simp [Link.kick, h]

/-- A free transmitter takes the pending reply first (R152). -/
theorem Link.kick_reply {l : Link} {r : Reply} (h : l.sending = none) (hr : l.reply = some r) :
    l.kick = { l with sending := some (.reply r), reply := none } := by
  simp [Link.kick, h, hr]

/-- A transmitter that has chosen chooses nothing more. -/
theorem Link.kick_kick (l : Link) : l.kick.kick = l.kick := by
  cases hs : l.sending with
  | some x => rw [Link.kick_busy hs, Link.kick_busy hs]
  | none =>
    cases hr : l.reply with
    | some r => rw [Link.kick_reply hs hr]; exact Link.kick_busy rfl
    | none =>
      cases hh : l.handed with
      | some c =>
        have : l.kick = l := by simp [Link.kick, hs, hr, hh]
        rw [this, this]
      | none =>
        cases hp : l.probe with
        | some p =>
          have : l.kick = { l with sending := some (.probe p), probe := none } := by simp [Link.kick, hs, hr, hh, hp]
          rw [this]; exact Link.kick_busy rfl
        | none =>
          cases hq : l.reports with
          | nil =>
            have : l.kick = l := by simp [Link.kick, hs, hr, hh, hp, hq]
            rw [this, this]
          | cons r rs =>
            by_cases hl : l.supervision = .lost
            · have : l.kick = l := by simp [Link.kick, hs, hr, hh, hp, hq, hl]
              rw [this, this]
            · have : l.kick = { l with sending := some (.report r l.gap), reports := rs, gap := false } := by
                simp [Link.kick, hs, hr, hh, hp, hq, hl]
              rw [this]; exact Link.kick_busy rfl

/-- A state that has settled stays as it is. -/
theorem State.settle_settle (s : State) : s.settle.settle = s.settle := by
  unfold State.settle
  split
  · rfl
  · simp [Link.kick_kick]

/-- A state has settled exactly where the transmitter's choice changes nothing. -/
theorem State.settled_iff (s : State) : s.settled ↔ s.settle = s := by
  unfold State.settled State.settle
  by_cases h : s.part.op = .starting
  · simp [h]
  · simp only [h, if_false, not_false_eq_true, forall_const, ne_eq]
    constructor
    · intro hs
      have : s.link.kick = s.link := by
        unfold Link.kick
        cases h1 : s.link.sending <;> simp only
        obtain ⟨h2, h3⟩ := hs h1
        rw [h2]; cases h4 : s.link.handed <;> simp only
        obtain ⟨h5, h6⟩ := h3 h4
        rw [h5]; cases h7 : s.link.reports <;> simp only
        by_cases hl : s.link.supervision = .lost <;> simp_all
      rw [this]
    · intro hs h1
      have hk : s.link.kick = s.link := by simpa using congrArg State.link hs
      unfold Link.kick at hk
      rw [h1] at hk
      cases h2 : s.link.reply with
      | some r => rw [h2] at hk; have := congrArg Link.sending hk; simp [h1] at this
      | none =>
        refine ⟨rfl, fun h3 => ?_⟩
        rw [h2, h3] at hk
        cases h4 : s.link.probe with
        | some p => rw [h4] at hk; have := congrArg Link.sending hk; simp [h1] at this
        | none =>
          refine ⟨rfl, fun h5 => ?_⟩
          rw [h4] at hk
          cases h6 : s.link.reports with
          | nil => rfl
          | cons r rs => rw [h6] at hk; have := congrArg Link.sending hk; simp [h1, h5] at this

/-- Every command that ends by `finish` leaves the part settled. -/
theorem finish_settled {s t : State} (h : finish s = .next t) : t.settled := by
  simp only [finish, Host.Outcome.next.injEq] at h
  subst h
  exact (State.settled_iff _).2 (State.settle_settle s)

/-! ### Replies -/

/-- A reply that is formed is pending or being sent once the transmitter has chosen. -/
theorem Link.answered_kick_formReply (k : Byte) (a : Answer) (b : Bool) (l : Link) :
    (l.formReply k a b).kick.answered
      = some { kind := k + 0x40, status := a.status, overrun := l.overrun, fields := a.fields, answers := b } := by
  cases hs : l.sending <;> simp [Link.formReply, Link.kick, Link.answered, replyKind, hs]

/-- A reply that is formed waits behind the frame being sent, and a free transmitter sends it at once. -/
theorem Link.sending_kick_formReply (k : Byte) (a : Answer) (b : Bool) (l : Link) :
    let r : Reply := { kind := k + 0x40, status := a.status, overrun := l.overrun, fields := a.fields, answers := b }
    (∀ x, l.sending = some x → (l.formReply k a b).kick.sending = some x ∧ (l.formReply k a b).kick.reply = some r)
      ∧ (l.sending = none → (l.formReply k a b).kick.sending = some (.reply r) ∧ (l.formReply k a b).kick.reply = none) := by
  cases hs : l.sending <;> simp [Link.formReply, Link.kick, replyKind, hs]

/-- Forming a reply leaves the report queue and a pending PROBE to the next choice. -/
theorem Link.kick_formReply_frame (k : Byte) (a : Answer) (b : Bool) (l : Link) :
    (l.formReply k a b).kick.reports = l.reports ∧ (l.formReply k a b).kick.gap = l.gap
      ∧ (l.formReply k a b).kick.probe = l.probe := by
  cases hs : l.sending <;> simp [Link.formReply, Link.kick, hs]

/-- A request taken, whose effects lead to a state with the request no longer handed: its reply, and nothing else of
the Link Unit, is new. -/
theorem request_replied {c : Instr} {act : State → State × Answer} {s b : State} {a : Answer}
    (htakes : s.takesRequests = true) (hact : act (s.takeHanded c) = (b.takeHanded c, a))
    (hop : b.part.op ≠ .starting) (hservice : b.inService c = s.inService c) :
    ∃ t, request c act s = .next t ∧ Replied c a.status a.fields b t ∧ b.onlyChanges t [.link] := by
  have hlink := State.takeHanded_link c b
  refine ⟨_, by rw [request, if_pos htakes]; rfl, ?_, ?_⟩
  · simp only [hact]
    have hset : ∀ l, (State.settle { b.takeHanded c with link := l }).link = l.kick := by
      intro l; rw [State.settle_link]; simp [hop]
    constructor <;> simp only [hset]
    · rw [Link.answered_kick_formReply]; simp [replyTo, hlink, hservice]
    · intro x hx
      have := (Link.sending_kick_formReply (requestKind c) a (s.inService c) (b.takeHanded c).link).1 x (by simp [hlink, hx])
      simpa [replyTo, hlink, hservice] using this
    · intro hx
      have := (Link.sending_kick_formReply (requestKind c) a (s.inService c) (b.takeHanded c).link).2 (by simp [hlink, hx])
      simpa [replyTo, hlink, hservice] using this
    all_goals
      first
        | rw [(Link.kick_formReply_frame _ _ _ _).1]
        | rw [(Link.kick_formReply_frame _ _ _ _).2.1]
        | rw [(Link.kick_formReply_frame _ _ _ _).2.2]
        | obtain ⟨h1, h2, h3, h4, h5, h6, h7, h8, h9, h10⟩ :=
            Link.kick_frame ((b.takeHanded c).link.formReply (requestKind c) a (s.inService c))
      simp_all [Link.formReply]
  · intro r hr
    simp only [hact]
    cases r <;> simp_all [State.same]

/-- A request that changes nothing but is answered. -/
theorem request_answers {c : Instr} {act : State → State × Answer} {s : State} {a : Answer}
    (htakes : s.takesRequests = true) (hact : act (s.takeHanded c) = (s.takeHanded c, a)) :
    ∃ t, request c act s = .next t ∧ Replied c a.status a.fields s t ∧ s.onlyChanges t [.link] :=
  request_replied htakes hact (by simp [State.takesRequests] at htakes; exact htakes.1) rfl

/-- No request is taken in STARTING or during a STORE write (Table 10-4, R163). -/
theorem request_waits {c : Instr} {act : State → State × Answer} {s : State} (h : s.takesRequests = false) :
    request c act s = finish s := by
  simp [request, h]

/-- Where nothing is handed, taking a request changes nothing. -/
@[simp] theorem State.takeHanded_running (c : Instr) (s : State) : (s.takeHanded c).running = s.running := by
  simp [State.running]

/-! ### Notices and events -/

/-- Where nothing is in flight from its sender to its receiver, a notice is in turn. -/
theorem State.inTurn_of_free {c : Instr} {s : State} (h : ∀ f ∈ s.inFlight, route f.notice ≠ route c) :
    s.inTurn c = true := by
  simp only [State.inTurn, Bool.not_eq_true', List.any_eq_false, Bool.and_eq_true, beq_iff_eq, not_and]
  exact fun f hf he => absurd he (h f (List.takeWhile_subset _ hf))

/-- The notice that stands first in flight is in turn. -/
theorem State.inTurn_head {f : Flight} {rest : List Flight} {s : State} (h : s.inFlight = f :: rest) :
    s.inTurn f.notice = true := by
  simp [State.inTurn, h]

/-- A notice in turn, taken in RUN. -/
theorem notice_run {c : Instr} {act : State → State} {s : State} (h : s.running = true) (ht : s.inTurn c = true) :
    notice c act s = .next (act (s.takeFlight c)).settle := by
  have : (s.takeFlight c).running = true := by simpa [State.running] using h
  simp [notice, State.noticed, this, ht]

/-- A notice in turn about a defined zone, taken in RUN. -/
theorem zoneNotice_run {c : Instr} {z : Zone} {act : State → State} {s : State} (h : s.running = true)
    (ht : s.inTurn c = true) (hz : s.definedZone z = true) :
    zoneNotice c z act s = .next (act (s.takeFlight c)).settle := by
  have hz' : (s.takeFlight c).definedZone z = true := by simpa [State.definedZone] using hz
  have hr : (s.takeFlight c).running = true := by simpa [State.running] using h
  simp [zoneNotice, State.zoneNoticed, State.noticed, ht, hr, hz']

/-- Outside RUN a notice in turn is dropped. -/
theorem notice_stopped {c : Instr} {act : State → State} {s : State} (h : s.running = false)
    (ht : s.inTurn c = true) : notice c act s = .next (s.takeFlight c).settle := by
  have : (s.takeFlight c).running = false := by simpa [State.running] using h
  simp [notice, State.noticed, this, ht]

/-- A notice out of turn waits. -/
theorem notice_waits {c : Instr} {act : State → State} {s : State} (ht : s.inTurn c = false) :
    notice c act s = .next (s.waitTurn c).settle := by
  simp [notice, State.noticed, ht]

/-- An event taken in RUN. -/
theorem runEvent_run {act : State → State} {s : State} (h : s.running = true) :
    runEvent act s = .next (act s).settle := by
  simp [runEvent, h, finish]

/-! ### The report queue (R153, R155) -/

theorem lowestPriority_le {rs : List Report} {r : Report} (h : r ∈ rs) : lowestPriority rs ≤ r.body.priority := by
  induction rs with
  | nil => cases h
  | cons a rs ih =>
    rcases List.mem_cons.1 h with rfl | h
    · exact Nat.min_le_left _ _
    · exact (Nat.min_le_right _ _).trans (ih h)

theorem Body.priority_le (b : Body) : b.priority ≤ 3 := by cases b <;> simp [Body.priority]

/-- Some queued report has the lowest priority present. -/
theorem exists_lowest {rs : List Report} (h : rs ≠ []) : ∃ r ∈ rs, r.body.priority = lowestPriority rs := by
  induction rs with
  | nil => exact absurd rfl h
  | cons a rs ih =>
    by_cases hle : a.body.priority ≤ lowestPriority rs
    · exact ⟨a, by simp, by simp [lowestPriority, hle]⟩
    · have hne : rs ≠ [] := by
        rintro rfl
        exact hle (Nat.le_succ_of_le (Body.priority_le a.body))
      obtain ⟨r, hr, hp⟩ := ih hne
      exact ⟨r, by simp [hr], by simp [lowestPriority, hp]; omega⟩

/-- Discarding from a queue that is not empty removes exactly one report. -/
theorem dropOldest_length {rs : List Report} (h : rs ≠ []) :
    (dropOldest (lowestPriority rs) rs).length + 1 = rs.length := by
  obtain ⟨r, hr, hp⟩ := exists_lowest h
  have := List.length_eraseP_of_mem (p := fun r : Report => r.body.priority == lowestPriority rs) hr (by simp [hp])
  have hpos := List.length_pos_iff.2 h
  simp only [dropOldest, this]; omega

/-- A report offered never takes the queue past 32. -/
theorem Link.offer_length {l : Link} (r : Report) (h : l.reports.length ≤ 32) : (l.offer r).reports.length ≤ 32 := by
  unfold Link.offer
  split
  · exact h
  · split
    · next h' => simpa using h'
    · split
      · next hn _ =>
        have hne : l.reports ≠ [] := by rintro h0; simp [h0] at hn
        have := dropOldest_length hne
        simp; omega
      · exact h

/-- Offering a report changes nothing but the queue and the gap flag. -/
theorem Link.offer_frame (r : Report) (l : Link) :
    l.offer r = { l with reports := (l.offer r).reports, gap := (l.offer r).gap } := by
  unfold Link.offer; repeat' (first | split | rfl)

/-! ### Free orders -/

/-- A free order of a list is a rearrangement of it: it loses nothing and invents nothing. -/
theorem arrange_perm {α : Type} (k : Nat) (l : List α) : (arrange k l).Perm l := by
  have key : ∀ (l : List α) (ks : List Nat), (atPositions l (completed l.length ks)).Perm l := by
    intro l ks
    have hperm : (completed l.length ks).Perm (List.range l.length) := by
      apply (List.perm_ext_iff_of_nodup _ List.nodup_range).2
      · intro a
        simp only [completed, List.mem_append, List.mem_dedup, List.mem_filter, List.mem_range, decide_eq_true_eq,
          List.contains_eq_mem, Bool.not_eq_true', decide_eq_false_iff_not]
        tauto
      · refine List.Nodup.append (List.nodup_dedup _) (List.nodup_range.filter _) ?_
        intro a ha hb
        simp only [List.mem_filter, List.contains_eq_mem, Bool.not_eq_true', decide_eq_false_iff_not] at hb
        exact hb.2 ha
    have hid : ∀ l : List α, (List.range l.length).filterMap (fun k => l[k]?) = l := by
      intro l
      induction l with
      | nil => rfl
      | cons a l ih => simp [List.range_succ_eq_map, List.filterMap_map, ih]
    exact (hperm.filterMap _).trans (by rw [hid])
  unfold arrange
  split
  · exact List.Perm.refl _
  · exact List.Perm.refl _
  · exact key _ _

end Sys2Proof.Machine
end

