-- ==== Sys2Proof/Laws/PerInstr.lean ====
section
/-! SUPPORT. For each command: where it is a request, its frame has a kind of Table 11-3 and a payload that a frame can
carry (R149, R165). -/

namespace Sys2Proof.Laws.RequestFitsFrame

/-- The frame of a well-formed request has a kind of Table 11-3 and a payload of at most 120 bytes. -/
def Statement (i : Instr) : Prop :=
  ∀ kind payload, i.wf = true → encodeRequest i = some (kind, payload) →
    1 ≤ kind.toNat ∧ kind.toNat ≤ 0x3D ∧ payload.length ≤ 120

/-- A command that is no request has no frame. -/
theorem of_none {i : Instr} (h : encodeRequest i = none) : Statement i := by
  intro _ _ _ e
  rw [h] at e
  cases e

/-- A request whose frame is known. -/
theorem of_some {i : Instr} {k : Byte} {p : List Byte} (h : encodeRequest i = some (k, p)) (low : 1 ≤ k.toNat)
    (high : k.toNat ≤ 0x3D) (fits : i.wf = true → p.length ≤ 120) : Statement i := by
  intro _ _ w e
  rw [h] at e
  cases e
  exact ⟨low, high, fits w⟩

theorem reset : ∀ strap1 strap0, Statement (.reset strap1 strap0) := fun _ _ => of_none rfl

theorem startingEnd : Statement .startingEnd := of_none rfl

theorem frameComplete : ∀ frame, Statement (.frameComplete frame) := fun _ => of_none rfl

theorem receiveSilence : Statement .receiveSilence := of_none rfl

theorem noStopBitCharacter : Statement .noStopBitCharacter := of_none rfl

theorem transmitEnd : Statement .transmitEnd := of_none rfl

theorem idleTimerExpiry : Statement .idleTimerExpiry := of_none rfl

theorem intervalTimerExpiry : Statement .intervalTimerExpiry := of_none rfl

theorem partStatus : Statement .partStatus := of_some rfl (by decide) (by decide) (fun _ => by simp)

theorem start : Statement .start := of_some rfl (by decide) (by decide) (fun _ => by simp)

theorem stop : Statement .stop := of_some rfl (by decide) (by decide) (fun _ => by simp)

theorem store : Statement .store := of_some rfl (by decide) (by decide) (fun _ => by simp)

theorem storeWriteEnd : ∀ verified, Statement (.storeWriteEnd verified) := fun _ => of_none rfl

theorem setAutorun : ∀ value, Statement (.setAutorun value) :=
  fun _ => of_some rfl (by decide) (by decide) (fun _ => by simp)

theorem mask : ∀ value, Statement (.mask value) := fun _ => of_some rfl (by decide) (by decide) (fun _ => by simp)

theorem setLink : ∀ idle interval count retention, Statement (.setLink idle interval count retention) :=
  fun _ _ _ _ => of_some rfl (by decide) (by decide) (fun _ => by simp [word])

theorem defZone : ∀ zone kind, Statement (.defZone zone kind) :=
  fun _ _ => of_some rfl (by decide) (by decide) (fun _ => by simp)

theorem zoneStatus : ∀ zone, Statement (.zoneStatus zone) :=
  fun _ => of_some rfl (by decide) (by decide) (fun _ => by simp)

theorem defLoad : ∀ fields, Statement (.defLoad fields) :=
  fun _ => of_some rfl (by decide) (by decide) (fun _ => by simp [word])

theorem loadStatus : ∀ load, Statement (.loadStatus load) :=
  fun _ => of_some rfl (by decide) (by decide) (fun _ => by simp)

theorem setTime : ∀ day second, Statement (.setTime day second) :=
  fun _ _ => of_some rfl (by decide) (by decide) (fun _ => by simp [word, long])

theorem defProfile : ∀ fields, Statement (.defProfile fields) :=
  fun _ => of_some rfl (by decide) (by decide) (fun _ => by simp [word, signed])

theorem setCalendar : ∀ profile, Statement (.setCalendar profile) :=
  fun _ => of_some rfl (by decide) (by decide) (fun _ => by simp)

theorem planRow : ∀ row fields, Statement (.planRow row fields) :=
  fun _ _ => of_some rfl (by decide) (by decide) (fun _ => by simp [word])

theorem planCommit : Statement .planCommit := of_some rfl (by decide) (by decide) (fun _ => by simp)

theorem planWithdraw : Statement .planWithdraw := of_some rfl (by decide) (by decide) (fun _ => by simp)

theorem planAnchor : ∀ day minute, Statement (.planAnchor day minute) :=
  fun _ _ => of_some rfl (by decide) (by decide) (fun _ => by simp [word])

theorem override : ∀ profile duration zones, Statement (.override profile duration zones) := fun _ _ _ =>
  of_some rfl (by decide) (by decide) (by
    intro w
    simp only [Instr.wf, Bool.and_eq_true, decide_eq_true_eq] at w
    simp [word]
    omega)

theorem overrideEnd : ∀ zones, Statement (.overrideEnd zones) := fun _ =>
  of_some rfl (by decide) (by decide) (by
    intro w
    simp only [Instr.wf, Bool.and_eq_true, decide_eq_true_eq] at w
    simp
    omega)

theorem calendarStatus : Statement .calendarStatus := of_some rfl (by decide) (by decide) (fun _ => by simp)

theorem planRead : ∀ table row, Statement (.planRead table row) :=
  fun _ _ => of_some rfl (by decide) (by decide) (fun _ => by simp)

theorem profileRead : ∀ profile, Statement (.profileRead profile) :=
  fun _ => of_some rfl (by decide) (by decide) (fun _ => by simp)

theorem setDoors : ∀ filter, Statement (.setDoors filter) :=
  fun _ => of_some rfl (by decide) (by decide) (fun _ => by simp)

theorem defDoor : ∀ fields, Statement (.defDoor fields) :=
  fun _ => of_some rfl (by decide) (by decide) (fun _ => by simp [word])

theorem ackDoor : ∀ door, Statement (.ackDoor door) := fun _ => of_some rfl (by decide) (by decide) (fun _ => by simp)

theorem doorStatus : ∀ door, Statement (.doorStatus door) :=
  fun _ => of_some rfl (by decide) (by decide) (fun _ => by simp)

theorem defSensor : ∀ sensor kind zone, Statement (.defSensor sensor kind zone) :=
  fun _ _ _ => of_some rfl (by decide) (by decide) (fun _ => by simp)

theorem setSensing : ∀ gasQuiet otherQuiet dueInterval dueCount,
    Statement (.setSensing gasQuiet otherQuiet dueInterval dueCount) :=
  fun _ _ _ _ => of_some rfl (by decide) (by decide) (fun _ => by simp [word])

theorem reading : ∀ sensor value, Statement (.reading sensor value) :=
  fun _ _ => of_some rfl (by decide) (by decide) (fun _ => by simp [word, signed])

theorem sensorStatus : ∀ sensor, Statement (.sensorStatus sensor) :=
  fun _ => of_some rfl (by decide) (by decide) (fun _ => by simp)

theorem setAir : ∀ coShort coShift no2Short no2Shift hold,
    Statement (.setAir coShort coShift no2Short no2Shift hold) :=
  fun _ _ _ _ _ => of_some rfl (by decide) (by decide) (fun _ => by simp [word])

theorem setHeat : ∀ floor rate hold, Statement (.setHeat floor rate hold) :=
  fun _ _ _ => of_some rfl (by decide) (by decide) (fun _ => by simp [word])

theorem cap : ∀ value duration, Statement (.cap value duration) :=
  fun _ _ => of_some rfl (by decide) (by decide) (fun _ => by simp [word, signed])

theorem capEnd : Statement .capEnd := of_some rfl (by decide) (by decide) (fun _ => by simp)

theorem setBudget : ∀ period, Statement (.setBudget period) :=
  fun _ => of_some rfl (by decide) (by decide) (fun _ => by simp [word])

theorem budgetStatus : Statement .budgetStatus := of_some rfl (by decide) (by decide) (fun _ => by simp)

theorem minuteExpiry : Statement .minuteExpiry := of_none rfl

theorem shiftEnd : Statement .shiftEnd := of_none rfl

theorem overrideExpiry : ∀ zone, Statement (.overrideExpiry zone) := fun _ => of_none rfl

theorem doorInputChange : ∀ line high, Statement (.doorInputChange line high) := fun _ _ => of_none rfl

theorem settledChange : ∀ line, Statement (.settledChange line) := fun _ => of_none rfl

theorem dwellTimerExpiry : ∀ door, Statement (.dwellTimerExpiry door) := fun _ => of_none rfl

theorem doorShiftBoundary : Statement .doorShiftBoundary := of_none rfl

theorem quietTimerExpiry : ∀ sensor, Statement (.quietTimerExpiry sensor) := fun _ => of_none rfl

theorem dueTimerExpiry : ∀ sensor, Statement (.dueTimerExpiry sensor) := fun _ => of_none rfl

theorem sampleExpiry : Statement .sampleExpiry := of_none rfl

theorem exhaustStageHoldExpiry : ∀ zone, Statement (.exhaustStageHoldExpiry zone) := fun _ => of_none rfl

theorem heldValueNotice : ∀ zone gas value, Statement (.heldValueNotice zone gas value) := fun _ _ _ => of_none rfl

theorem airSubstituteFlagNotice : ∀ zone gas flag, Statement (.airSubstituteFlagNotice zone gas flag) :=
  fun _ _ _ => of_none rfl

theorem airOpenUnsealedCountNotice : ∀ zone count, Statement (.airOpenUnsealedCountNotice zone count) :=
  fun _ _ => of_none rfl

theorem airProfileChangeNotice : ∀ zone profile, Statement (.airProfileChangeNotice zone profile) :=
  fun _ _ => of_none rfl

theorem airMinuteExpiryNotice : Statement .airMinuteExpiryNotice := of_none rfl

theorem purgeExpiry : ∀ zone, Statement (.purgeExpiry zone) := fun _ => of_none rfl

theorem airShiftBoundary : Statement .airShiftBoundary := of_none rfl

theorem zoneTemperatureNotice : ∀ zone value, Statement (.zoneTemperatureNotice zone value) := fun _ _ => of_none rfl

theorem holdDownFlagNotice : ∀ zone flag, Statement (.holdDownFlagNotice zone flag) := fun _ _ => of_none rfl

theorem heatOpenUnsealedCountNotice : ∀ zone count, Statement (.heatOpenUnsealedCountNotice zone count) :=
  fun _ _ => of_none rfl

theorem heatProfileChangeNotice : ∀ zone profile, Statement (.heatProfileChangeNotice zone profile) :=
  fun _ _ => of_none rfl

theorem lookaheadNotice : ∀ lookahead, Statement (.lookaheadNotice lookahead) := fun _ => of_none rfl

theorem heatShiftBoundary : Statement .heatShiftBoundary := of_none rfl

theorem heatStageHoldExpiry : ∀ zone, Statement (.heatStageHoldExpiry zone) := fun _ => of_none rfl

theorem lightProfileChangeNotice : ∀ zone profile, Statement (.lightProfileChangeNotice zone profile) :=
  fun _ _ => of_none rfl

theorem zoneLuxNotice : ∀ zone lux, Statement (.zoneLuxNotice zone lux) := fun _ _ => of_none rfl

theorem dockLightNotice : ∀ door isSealed, Statement (.dockLightNotice door isSealed) := fun _ _ => of_none rfl

theorem exhaustNotice : ∀ zone stage requests, Statement (.exhaustNotice zone stage requests) :=
  fun _ _ _ => of_none rfl

theorem heatNotice : ∀ zone cold frost requests, Statement (.heatNotice zone cold frost requests) :=
  fun _ _ _ _ => of_none rfl

theorem lightNotice : ∀ zone floor requests, Statement (.lightNotice zone floor requests) := fun _ _ _ => of_none rfl

theorem curtainRequestNotice : ∀ load request, Statement (.curtainRequestNotice load request) :=
  fun _ _ => of_none rfl

theorem budgetSubstituteFlagNotice : ∀ zone gas flag, Statement (.budgetSubstituteFlagNotice zone gas flag) :=
  fun _ _ _ => of_none rfl

theorem siteProfileNotice : ∀ budget mode, Statement (.siteProfileNotice budget mode) := fun _ _ => of_none rfl

theorem capExpiry : Statement .capExpiry := of_none rfl

theorem shedRotationExpiry : Statement .shedRotationExpiry := of_none rfl

theorem staggerExpiry : Statement .staggerExpiry := of_none rfl

theorem minOffExpiry : ∀ load, Statement (.minOffExpiry load) := fun _ => of_none rfl

theorem characterReceived : ∀ char, Statement (.characterReceived char) := fun _ => of_none rfl

theorem pulsePeriodStart : ∀ line, Statement (.pulsePeriodStart line) := fun _ => of_none rfl

end Sys2Proof.Laws.RequestFitsFrame
end

