-- ==== Sys2Proof/Laws/Table.lean ====
section
/-! SUPPORT. Reading a table after each operation on tables. -/

namespace Sys2Proof.Table
variable {n : Nat} {α β γ : Type}

@[simp] theorem get_set (t : Table n α) (i j : Fin n) (a : α) :
    (t.set i a).get j = if i = j then a else t.get j := by
  simp [Table.get, Table.set, List.getElem_set, Fin.ext_iff]

@[simp] theorem get_modify (t : Table n α) (i j : Fin n) (f : α → α) :
    (t.modify i f).get j = if i = j then f (t.get j) else t.get j := by
  unfold Table.modify; rw [get_set]; split
  · next h => rw [h]
  · rfl

@[simp] theorem get_map (t : Table n α) (f : α → β) (i : Fin n) : (t.map f).get i = f (t.get i) := by
  simp [Table.get, Table.map]

@[simp] theorem get_mapIdx (t : Table n α) (f : Fin n → α → β) (i : Fin n) :
    (t.mapIdx f).get i = f i (t.get i) := by
  simp [Table.get, Table.mapIdx]

@[simp] theorem get_zipWith (t : Table n α) (u : Table n β) (f : α → β → γ) (i : Fin n) :
    (Table.zipWith f t u).get i = f (t.get i) (u.get i) := by
  simp [Table.get, Table.zipWith]

@[simp] theorem get_ofFn (f : Fin n → α) (i : Fin n) : (Table.ofFn f).get i = f i := by
  simp [Table.get, Table.ofFn]

@[simp] theorem get_fill (a : α) (i : Fin n) : (Table.fill n a).get i = a := by
  simp [Table.get, Table.fill]

/-- Two tables are equal when they agree record by record. -/
theorem ext_get {t u : Table n α} (h : ∀ i, t.get i = u.get i) : t = u := by
  obtain ⟨l, hl⟩ := t
  obtain ⟨m, hm⟩ := u
  have : l = m := List.ext_getElem (hl.trans hm.symm) fun i h₁ _ => h ⟨i, hl ▸ h₁⟩
  subst this; rfl

/-- A record of a table is one of its entries. -/
theorem get_mem (t : Table n α) (i : Fin n) : t.get i ∈ t.entries := List.getElem_mem _

/-- Every entry of a table is a record with a number. -/
theorem exists_get_of_mem {t : Table n α} {a : α} (h : a ∈ t.entries) : ∃ i, t.get i = a := by
  obtain ⟨k, hk, rfl⟩ := List.getElem_of_mem h
  exact ⟨⟨k, t.size ▸ hk⟩, rfl⟩

/-- The entries of a table, read in order. -/
theorem entries_eq (t : Table n α) : t.entries = (List.finRange n).map t.get :=
  List.ext_getElem (by simp [t.size]) fun i h₁ h₂ => by simp [Table.get]

end Sys2Proof.Table
end

