-- ==== Sys2Proof/Tests/Slice0.lean ====
section
/-! SUPPORT. Tests: what WellFormed refuses, worked cases of the manual, and for each statement that has hypotheses a
state and operands that meet them, at the boundaries of its clauses. Each expected figure is the manual's. -/

namespace Sys2Proof.Tests
open Sys2Proof.Machine

-- One theorem after the other: each waits for the kernel, and many at once take many threads.
set_option Elab.async false

/-! ### Helpers -/

/-- The state after a command. -/
def after (c : Instr) (s : State) : State :=
  match exec c s with
  | .next t => t
  | _ => s

/-- Status and fields of the reply that a request gets. -/
def answer (c : Instr) (s : State) : Option (Status × List Byte) :=
  (after c s).link.answered.map fun r => (r.status, r.fields)

/-- The status of the reply that a request gets. -/
def status (c : Instr) (s : State) : Option Status := (answer c s).map Prod.fst

/-- The notices in flight. -/
def flights (s : State) : List Instr := s.inFlight.map (·.notice)

/-- The bodies of the reports queued. -/
def queued (s : State) : List Body := s.link.reports.map (·.body)

/-- The part in CONFIGURE, nothing defined, a frame being sent. -/
def base : State :=
  { State.reset with
    part := { State.reset.part with op := .configure }
    link :=
      { State.reset.link with
        idle := some 300
        sending := some (.reply ⟨0x41, .ok, false, [], false⟩) } }

/-- The definition of a load. -/
def load (type : LoadType) (zone : Zone) (draws : List Nat) (door : Option DoorNo) (base : Nat) (cls : RestartClass)
    (minOff : Nat) : LoadDef :=
  { type := type, zone := zone, maxLevel := if type = .light then 100 else draws.length, draws := draws, door := door
    base := base, cls := cls, minOff := minOff }

/-- The loads of section 1.7. -/
def someLoads : List (LoadNo × LoadDef) :=
  [(0, load .heater 0 [200, 400, 600] none 1 .long 120), (1, load .exhaust 0 [30, 60, 100, 150] none 1 .short 0),
    (2, load .curtain 0 [20] (some 0) 2 .short 10), (3, load .light 0 [60] (some 0) 1 .short 0),
    (4, load .light 1 [60] none 1 .short 0)]

/-- The door of section 3.8. -/
def someDoor : DoorDef := ⟨0, .high, .high, 60, .level, true⟩

/-- The shed of section 1.7 in CONFIGURE: dock zone Z0 with door D0 and loads L0 to L3, floor zone Z1 with L4; Z0 has a
TEMP sensor S0 and two CO sensors S4 and S5. -/
def shed : State :=
  { base with
    zones := (base.zones.set 0 .dock).set 1 .floor
    loads := someLoads.foldl (fun t x => t.set x.1 (Load.atRest (some x.2))) base.loads
    doors := { base.doors with doors := base.doors.doors.set 0 (Door.atRest (some someDoor)) }
    readings :=
      { base.readings with
        sensors :=
          ((base.readings.sensors.set 0 (Sensor.atRest (some ⟨.temp, 0⟩))).set 4
            (Sensor.atRest (some ⟨.co, 0⟩))).set 5 (Sensor.atRest (some ⟨.co, 0⟩)) } }

/-- The same shed in RUN, at rest: the clock known, the profiles P0 to P2 different. -/
def run : State :=
  { shed with
    part := { shed.part with op := .run }
    calendar :=
      { shed.calendar with
        unknown := false
        day := 405
        second := 71940
        profiles :=
          (shed.calendar.profiles.set 1
            ⟨150, 100, 80, 80, 20, 1200, .dynamic, 20, true⟩).set 2 ⟨170, 100, 30, 30, 10, 500, .static, 0, false⟩ }
    doors :=
      { shed.doors with doors := shed.doors.doors.set 0 { Door.atRest (some someDoor) with evaluated := true } }
    air := { shed.air with clock := some ⟨some 100, 0⟩ }
    budget := { shed.budget with rotation := some 6000 } }

/-- The shed with one door record. -/
def withDoor (d : Door) (s : State) : State := { s with doors := { s.doors with doors := s.doors.doors.set 0 d } }

/-- A door of section 3.8 in a state. -/
def door (state : DoorState) (dwell : Timer) (alert : Bool) : Door :=
  { defn := some someDoor, state := state, evaluated := true, dwell := dwell, alert := alert, opens := 1, entries := 0 }

/-- A rotation of two shifts. -/
def twoShifts : Table 24 Row := Table.ofList 24 .empty [.shift 1 720 1, .shift 2 720 2]

/-- The shed in a shift of that rotation. -/
def inShift (left : Nat) : State :=
  { run with
    calendar :=
      { run.calendar with
        active := twoShifts, anchor := some ⟨400, 360⟩, cursor := some (.inShift 0 left [])
        lookahead := some ⟨2, left⟩, siteProfile := 1, inForce := Table.fill 12 1 } }

/-- The shed with a table pending. -/
def withPending (rows : List Row) (s : State) : State :=
  { s with calendar := { s.calendar with pendingTable := Table.ofList 24 .empty rows } }

/-- The shed with the cap of a demand. -/
def capped (c : Cap) (s : State) : State :=
  { s with budget := { s.budget with cap := some c, inForce := min s.budget.site c.value } }

/-! ### WellFormed: an ill-formed term for each check -/

theorem test_wf_refuses_wide_fields :
    (Instr.mask 256).wf = false ∧ (Instr.setAutorun 256).wf = false ∧ (Instr.setLink 65536 0 0 0).wf = false
      ∧ (Instr.setLink 0 256 0 0).wf = false ∧ (Instr.defZone 0 256).wf = false ∧ (Instr.zoneStatus 256).wf = false
      ∧ (Instr.loadStatus 256).wf = false ∧ (Instr.setTime 65536 0).wf = false
      ∧ (Instr.setTime 0 4294967296).wf = false ∧ (Instr.setCalendar 256).wf = false
      ∧ (Instr.planAnchor 0 65536).wf = false ∧ (Instr.planRead 0 256).wf = false ∧ (Instr.profileRead 256).wf = false
      ∧ (Instr.setDoors 256).wf = false ∧ (Instr.ackDoor 256).wf = false ∧ (Instr.doorStatus 256).wf = false
      ∧ (Instr.defSensor 0 256 0).wf = false ∧ (Instr.setSensing 0 0 65536 0).wf = false
      ∧ (Instr.sensorStatus 256).wf = false ∧ (Instr.setAir 0 0 256 0 0).wf = false
      ∧ (Instr.setHeat 0 0 65536).wf = false ∧ (Instr.setBudget 65536).wf = false := by decide

theorem test_wf_refuses_records :
    (Instr.defLoad ⟨256, 0, 0, 0, 0, 0, 0, 0, 0, 0, 0, 0, 0⟩).wf = false
      ∧ (Instr.defLoad ⟨0, 0, 0, 0, 0, 0, 0, 0, 65536, 0, 0, 0, 0⟩).wf = false
      ∧ (Instr.defProfile ⟨0, 0, 0, 0, 0, 256, 0, 0, 0, 0⟩).wf = false
      ∧ (Instr.defProfile ⟨0, 0, 0, 0, 0, 0, 65536, 0, 0, 0⟩).wf = false
      ∧ (Instr.defProfile ⟨0, -32769, 0, 0, 0, 0, 0, 0, 0, 0⟩).wf = false
      ∧ (Instr.planRow 0 ⟨0, 0, 65536, 0, 0⟩).wf = false ∧ (Instr.planRow 0 ⟨256, 0, 0, 0, 0⟩).wf = false
      ∧ (Instr.defDoor ⟨0, 256, 0, 0, 0, 0, 0⟩).wf = false ∧ (Instr.defDoor ⟨0, 0, 0, 0, 65536, 0, 0⟩).wf = false
      ∧ (Instr.reading 0 32768).wf = false ∧ (Instr.cap (-32769) 0).wf = false
      ∧ (Instr.override 0 0 [256]).wf = false ∧ (Instr.override 0 0 (List.replicate 117 0)).wf = false
      ∧ (Instr.overrideEnd (List.replicate 120 0)).wf = false := by decide +kernel

theorem test_wf_refuses_frames_and_figures :
    (Instr.frameComplete ⟨2, 0x32, [4], 0⟩).wf = false
      ∧ (Instr.frameComplete ⟨121, 0x32, List.replicate 121 0, 0⟩).wf = false
      ∧ (Instr.heldValueNotice 0 .co (some 501)).wf = false ∧ (Instr.heldValueNotice 0 .no2 (some 201)).wf = false
      ∧ (Instr.airOpenUnsealedCountNotice 0 9).wf = false ∧ (Instr.heatOpenUnsealedCountNotice 0 9).wf = false
      ∧ (Instr.zoneTemperatureNotice 0 (some (-401))).wf = false
      ∧ (Instr.zoneTemperatureNotice 0 (some 601)).wf = false
      ∧ (Instr.lookaheadNotice (some ⟨0, 0⟩)).wf = false ∧ (Instr.lookaheadNotice (some ⟨0, 40321⟩)).wf = false
      ∧ (Instr.zoneLuxNotice 0 2001).wf = false ∧ (Instr.exhaustNotice 0 5 []).wf = false
      ∧ (Instr.exhaustNotice 0 4 [(1, 101)]).wf = false ∧ (Instr.heatNotice 0 false false [(1, 1), (1, 2)]).wf = false
      ∧ (Instr.lightNotice 0 101 []).wf = false ∧ (Instr.curtainRequestNotice 0 2).wf = false
      ∧ (Instr.siteProfileNotice 20001 .static).wf = false := by decide +kernel

/-! ### Frames and requests (chapters 9 and 11) -/

/-- The check of R149 (a register that starts at 0xFFFF, most significant bit first), at the usual check string. -/
theorem test_crc : crc [0x31, 0x32, 0x33, 0x34, 0x35, 0x36, 0x37, 0x38, 0x39] = 0x29B1 := by decide +kernel

/-- The two readings of section 11.6. -/
theorem test_readings_are_encoded :
    decodeRequest 0x32 [0x02, 0xFF, 0xDD] = .request (.reading 2 (-35))
      ∧ decodeRequest 0x32 [0x04, 0x02, 0x6C] = .request (.reading 4 620)
      ∧ encodeRequest (.reading 2 (-35)) = some (0x32, [0x02, 0xFF, 0xDD]) := by decide

/-- One request of each family, written out from Table 11-3. -/
theorem test_requests_are_read :
    decodeRequest 0x02 [] = .request .start
      ∧ decodeRequest 0x07 [0x00, 0x1E, 0x0A, 0x03, 0x01] = .request (.setLink 30 10 3 1)
      ∧ decodeRequest 0x10 [0x0B, 0x01] = .request (.defZone 11 1)
      ∧ decodeRequest 0x18 [0x01, 0x95, 0x00, 0x01, 0x19, 0x40] = .request (.setTime 405 72000)
      ∧ decodeRequest 0x1F [0x06, 0x03, 0x84, 0x02, 0x03, 0x05] = .request (.override 6 900 [3, 5])
      ∧ decodeRequest 0x29 [0x01, 0x00, 0x00, 0x01, 0x00, 0x3C, 0x01, 0x01]
          = .request (.defDoor ⟨1, 0, 0, 1, 60, 1, 1⟩)
      ∧ decodeRequest 0x38 [0x00, 0x64, 0x00, 0x19, 0x32, 0x1E, 0x01, 0x2C] = .request (.setAir 100 25 50 30 300)
      ∧ decodeRequest 0x39 [0x32, 0x0C, 0x00, 0xB4] = .request (.setHeat 50 12 180)
      ∧ decodeRequest 0x3A [0x03, 0xE8, 0x00, 0x3C] = .request (.cap 1000 60)
      ∧ decodeRequest 0x1F [0x06, 0x03, 0x84, 0x03, 0x03, 0x05] = .badLength
      ∧ decodeRequest 0x08 [] = .unknownKind := by decide

/-- The block that gives a notice and the one that takes it, for a notice of each pair of blocks. -/
theorem test_routes :
    ([.airMinuteExpiryNotice, .heatShiftBoundary, .lightProfileChangeNotice 0 1, .siteProfileNotice 0 .static,
        .doorShiftBoundary, .holdDownFlagNotice 0 true, .airOpenUnsealedCountNotice 0 1, .curtainRequestNotice 2 1,
        .dockLightNotice 0 true, .zoneTemperatureNotice 0 none, .heldValueNotice 0 .co none,
        .budgetSubstituteFlagNotice 0 .co true, .zoneLuxNotice 0 1, .exhaustNotice 0 1 [], .heatNotice 0 false false [],
        .lightNotice 0 1 [], .start] : List Instr).map route
      = [some (.calendar, .air), some (.calendar, .heat), some (.calendar, .light), some (.calendar, .budget),
          some (.calendar, .door), some (.door, .heat), some (.door, .air), some (.door, .budget), some (.door, .light),
          some (.reading, .heat), some (.reading, .air), some (.reading, .budget), some (.reading, .light),
          some (.air, .budget), some (.heat, .budget), some (.light, .budget), none] := by decide

/-! ### Worked cases -/

/-- Table 1-8, steps 9 to 14, and the DEF-LOADs in RUN that follow it. -/
theorem test_section_1_7 :
    status (.defLoad ⟨5, 1, 1, 2, 2, 400, 300, 0, 0, 255, 0, 1, 60⟩) shed = some .badField
      ∧ status (.defLoad ⟨5, 3, 1, 1, 1, 20, 0, 0, 0, 0, 2, 0, 0⟩) shed = some .badField
      ∧ status (.defLoad ⟨6, 1, 2, 2, 2, 300, 600, 0, 0, 255, 0, 1, 60⟩) shed = some .notFound
      ∧ status (.defZone 0 2) shed = some .inUse ∧ status (.defZone 1 0) shed = some .inUse
      ∧ status (.defDoor ⟨0, 255, 9, 9, 9, 9, 9⟩) shed = some .inUse
      ∧ status (.defLoad ⟨0, 1, 0, 3, 3, 200, 400, 600, 0, 255, 2, 1, 120⟩) run = some .ok
      ∧ status (.defLoad ⟨0, 1, 0, 3, 3, 200, 400, 600, 0, 255, 2, 1, 60⟩) run = some .wrongState := by
  decide +kernel

/-- The table of section 2.8. -/
def weekly : Table 24 Row :=
  Table.ofList 24 .empty
    [.repeatGroup 5, .shift 1 480 1, .shift 2 480 2, .shift 3 480 0, .endGroup, .repeatGroup 2, .shift 4 720 3,
      .shift 3 720 3, .endGroup]

/-- Section 2.8: the cycle, the cursor 8040 and 6600 minutes after the anchor, and the row after row 7. -/
theorem test_section_2_8 :
    cycleLength weekly = 10080 ∧ place weekly 8040 = some (.inShift 7 600 [⟨5, 2⟩])
      ∧ place weekly 6600 = some (.inShift 2 120 [⟨0, 1⟩])
      ∧ walk weekly 8 [⟨5, 2⟩] = some (.inShift 6 720 [⟨5, 1⟩]) := by decide +kernel

/-- Table 2-10: the six plans. -/
theorem test_section_2_15 :
    planDetail (Table.ofList 24 .empty [.repeatGroup 2, .shift 1 30 0, .endGroup]) = none
      ∧ planDetail (Table.ofList 24 .empty [.repeatGroup 2, .shift 1 29 0, .endGroup]) = some 4
      ∧ planDetail (Table.ofList 24 .empty [.repeatGroup 3, .shift 1 480 0]) = some 1
      ∧ planDetail (Table.ofList 24 .empty
          [.repeatGroup 2, .repeatGroup 2, .repeatGroup 2, .repeatGroup 2, .shift 1 60 0, .endGroup, .endGroup, .endGroup,
            .endGroup]) = some 2
      ∧ planDetail (Table.ofList 24 .empty [.repeatGroup 0, .shift 1 480 0, .endGroup]) = some 3
      ∧ planDetail (Table.ofList 24 .empty [.shift 1 1440 0, .repeatGroup 30, .shift 2 1440 0, .endGroup]) = some 5 := by
  decide +kernel

/-- Table 3-7 at times 10, 70, 75 and 90: open, dwell, an acknowledgement turned away, sealed. -/
theorem test_section_3_8 :
    let line (high settled : Bool) : Line := ⟨high, settled, some 3⟩
    let opens : State :=
      withDoor { door .closed none false with opens := 0 }
        { run with doors := { run.doors with lines := run.doors.lines.set 0 (line true false) } }
    let seals : State :=
      withDoor (door .dwell none true)
        { run with doors := { run.doors with lines := run.doors.lines.set 1 (line true false) } }
    (after (.settledChange 0) opens).doors.doors.get 0 = door .opened (some 600) false
      ∧ flights (after (.settledChange 0) opens)
          = [.heatOpenUnsealedCountNotice 0 1, .airOpenUnsealedCountNotice 0 1, .curtainRequestNotice 2 1]
      ∧ (after (.dwellTimerExpiry 0) (withDoor (door .opened (some 0) false) run)).doors.doors.get 0
          = { door .dwell none true with entries := 1 }
      ∧ queued (after (.dwellTimerExpiry 0) (withDoor (door .opened (some 0) false) run)) = [.doorAlert 0 0 60 1 .level]
      ∧ status (.ackDoor 0) (withDoor (door .dwell none true) run) = some .stillActive
      ∧ (after (.settledChange 1) seals).doors.doors.get 0 = door .sealed none true
      ∧ flights (after (.settledChange 1) seals)
          = [.holdDownFlagNotice 0 false, .heatOpenUnsealedCountNotice 0 0, .airOpenUnsealedCountNotice 0 0,
              .curtainRequestNotice 2 0, .dockLightNotice 0 true] := by
  decide +kernel

/-- Table 4-8 at times 8 and 125: a reading clamped, and a sensor given up. -/
theorem test_section_4_6 :
    let with45 (a b : Sensor) : State :=
      { run with readings := { run.readings with sensors := (run.readings.sensors.set 4 a).set 5 b } }
    let co : Option SensorDef := some ⟨.co, 0⟩
    let early : State := with45 ⟨co, .fresh, some 30, some 570, none, 0⟩ ⟨co, .awaiting, none, some 520, none, 0⟩
    let late : State := with45 ⟨co, .quiet, some 30, none, some 0, 3⟩ ⟨co, .quiet, some 42, none, some 50, 2⟩
    status (.reading 5 620) early = some .clamped
      ∧ (after (.reading 5 620) early).readings.sensors.get 5 = ⟨co, .fresh, some 500, some 600, none, 0⟩
      ∧ flights (after (.reading 5 620) early)
          = [.heldValueNotice 0 .co (some 500), .airSubstituteFlagNotice 0 .co false,
              .budgetSubstituteFlagNotice 0 .co false]
      ∧ (after (.dueTimerExpiry 4) late).readings.sensors.get 4 = ⟨co, .lost, none, none, none, 0⟩
      ∧ queued (after (.dueTimerExpiry 4) late) = [.sensorLost 4 ⟨.co, 0⟩ .quiet]
      ∧ flights (after (.dueTimerExpiry 4) late)
          = [.airSubstituteFlagNotice 0 .co true, .budgetSubstituteFlagNotice 0 .co true] := by
  decide +kernel

/-- The zone of section 5.7, with the ratios of its gases. -/
def gassed (coShort coShift : Nat) (latch : Bool) (stage : Nat) (hold : Timer) : AirZone :=
  { AirZone.atRest with
    co := { GasAir.atRest with shortRatio := coShort, shiftRatio := coShift, latch := latch }
    no2 := { GasAir.atRest with shortRatio := 24, shiftRatio := 33 }
    openCount := 2, stage := stage, hold := hold }

/-- Section 5.7: the figures at 10:00, at 12:00 and 13:00, at the peak, under its hold, and at 13:06. -/
theorem test_section_5_7 :
    let figures (z : AirZone) : Nat × Nat × Nat × Timer :=
      let z' := z.recompute Stored.builtIn.air fun _ => true
      (z'.raw, z'.effective, z'.stage, z'.hold)
    figures (gassed 28 72 false 2 none) = (72, 62, 2, none) ∧ figures (gassed 10 60 false 2 none) = (60, 50, 2, none)
      ∧ figures (gassed 10 56 false 2 none) = (56, 46, 1, none)
      ∧ figures (gassed 10 56 true 1 none) = (100, 100, 4, some 3000)
      ∧ figures (gassed 17 56 false 4 (some 2500)) = (56, 46, 4, some 2500)
      ∧ figures (gassed 27 60 false 4 none) = (60, 50, 2, none) := by decide +kernel

/-- The minute close at 13:01 of section 5.7.3: the bucket of 720 takes the place of one of 60. -/
theorem test_minute_close :
    let gas : GasAir :=
      { GasAir.atRest with
        acc := ⟨680, 5⟩, ring := List.replicate 15 ⟨60, 6⟩, dose := 36720 + 680, count := 2525, held := some 40 }
    let s : State :=
      { run with
        air := { run.air with zones := run.air.zones.set 0 { AirZone.atRest with co := gas }, clock := some ⟨some 0, 5⟩ } }
    let r := ((after .sampleExpiry s).air.zones.get 0).co
    (r.sta, r.swa, r.shortRatio, r.shiftRatio, r.dose, r.count) = (some 17, some 14, 17, 56, 37440, 2526)
      ∧ r.ring = List.replicate 14 ⟨60, 6⟩ ++ [⟨720, 6⟩] ∧ r.acc = ⟨0, 0⟩ := by decide +kernel

/-- The setting of section 6.8: P2 asks for 100 at a dock, P5 for 170, with preheat. -/
def heated (l : Option Lookahead) : State :=
  { run with
    calendar :=
      { run.calendar with
        profiles :=
          (run.calendar.profiles.set 2 ⟨100, 50, 0, 0, 0, 0, .static, 0, false⟩).set 5
            ⟨170, 50, 0, 0, 0, 0, .static, 0, true⟩ }
    heat := { run.heat with lookahead := l } }

/-- A zone of section 6.8 before a recomputation. -/
def heatZone (stage : Nat) (hold : Timer) (frost preheat : Bool) (temp : Option Int) (holdDown : Bool) : HeatZone :=
  { HeatZone.atRest 2 with
    stage := stage, hold := hold, frost := frost, preheat := preheat, temp := temp, holdDown := holdDown }

/-- A recomputation of a zone with these figures makes these figures of them: stage, hold, frost, preheat, setpoint and
cold flag. -/
def heats (l : Option Lookahead) (z : HeatZone) (stage : Nat) (hold : Timer) (frost preheat : Bool) (setpoint : Int)
    (cold : Bool) : Bool :=
  z.recompute ((heated l).heatInputs 0 z)
    == { z with stage := stage, hold := hold, frost := frost, preheat := preheat, setpoint := setpoint, cold := cold }

/-- Table 6-6: the lookahead a minute before the lead and at it, the fall at 05:31, and hold-down. -/
theorem test_section_6_8 :
    heats (some ⟨5, 71⟩) (heatZone 0 none false false (some 112) false) 0 none false false 100 false = true
      ∧ heats (some ⟨5, 70⟩) (heatZone 0 none false false (some 112) false) 3 (some 1800) false true 170 true = true
      ∧ heats (some ⟨5, 40⟩) (heatZone 3 none false true (some 148) false) 3 none false true 170 false = true
      ∧ heats (some ⟨5, 29⟩) (heatZone 3 none false true (some 161) false) 2 none false true 170 false = true
      ∧ heats (some ⟨5, 20⟩) (heatZone 2 none false true (some 161) true) 1 none false true 170 false = true := by
  decide +kernel

/-- Table 6-8: frost under hold-down, with the temperature unknown, and its end. -/
theorem test_section_6_9 :
    heats none (heatZone 1 none false false (some 48) true) 3 (some 1800) true false 100 true = true
      ∧ heats none (heatZone 3 (some 900) true false none true) 3 (some 900) true false 100 false = true
      ∧ heats none (heatZone 3 (some 900) true false (some 61) true) 1 (some 900) false false 100 true = true := by
  decide +kernel

/-- Table 7-5: lux 700, the door sealed, the change to the evening profile. -/
theorem test_section_7_7 :
    let s : State :=
      { run with
        calendar :=
          { run.calendar with
            profiles :=
              (run.calendar.profiles.set 3 ⟨50, 50, 80, 80, 20, 0, .static, 0, false⟩).set 4
                ⟨50, 50, 30, 30, 10, 0, .static, 0, false⟩ } }
    let lit (lux level request : Nat) : State :=
      { s with
        light :=
          { s.light with
            zones := s.light.zones.set 0 { level := level, floor := 20, profile := 3, lux := lux }
            requests := s.light.requests.set 3 request } }
    flights (after (.zoneLuxNotice 0 700) (lit 0 80 80)) = [.lightNotice 0 20 [(3, 45)]]
      ∧ flights (after (.dockLightNotice 0 true) (lit 700 45 45)) = [.lightNotice 0 20 [(3, 100)]]
      ∧ flights (after (.lightProfileChangeNotice 0 4) (lit 1500 20 20)) = [.lightNotice 0 10 [(3, 10)]] := by
  decide +kernel

/-- The shed of section 8.9, its requests standing. -/
def worked : State :=
  let loads : List (LoadNo × LoadDef × Nat) :=
    [(0, load .exhaust 1 [30, 60, 100, 150] none 1 .short 0, 4), (2, load .heater 1 [200, 400, 600] none 2 .long 0, 3),
      (3, load .heater 2 [200, 400, 600] none 2 .long 120, 2),
      (4, load .exhaust 2 [30, 60, 100, 150] none 1 .short 0, 2), (5, load .curtain 2 [20] (some 0) 2 .short 0, 1),
      (8, load .light 1 [60] none 1 .short 0, 80), (9, load .light 2 [60] none 1 .short 0, 80)]
  { base with
    part := { base.part with op := .run }
    zones := (base.zones.set 1 .dock).set 2 .dock
    loads := loads.foldl (fun t x => t.set x.1 { Load.atRest (some x.2.1) with request := x.2.2 }) base.loads
    budget :=
      { base.budget with
        site := 1200, inForce := 1200, mode := .dynamic, tie := 4
        zones := (base.budget.zones.set 1 ⟨4, true, false, 20, false, false⟩).set 2 ⟨2, false, false, 20, false, false⟩ } }

/-- The same shed as the pass leaves it, every load at its grant: where section 8.10 begins. -/
def standing : State :=
  let grants : List (LoadNo × Nat) := [(0, 4), (2, 3), (3, 2), (4, 0), (5, 1), (8, 30), (9, 20)]
  { worked with
    loads := grants.foldl (fun t x => t.set x.1 { t.get x.1 with grant := x.2, drive := x.2 }) worked.loads
    budget := { worked.budget with shed := [4, 8, 9], protectedDraw := 174, committedDraw := 1200 } }

/-- Table 8-4, its rotation at pointer 9, and Table 8-5 at its two caps. -/
theorem test_sections_8_9_and_8_10 :
    let figures (s : State) : List Nat × List LoadNo × Nat × Nat :=
      (([0, 2, 3, 4, 5, 8, 9] : List LoadNo).map fun n => (s.loads.get n).grant, s.budget.shed, s.budget.protectedDraw,
        s.budget.committedDraw)
    figures (State.pass { standing with budget := { standing.budget with shed := [] } })
        = ([4, 3, 2, 0, 1, 30, 20], [4, 8, 9], 174, 1200)
      ∧ figures (after (.cap 1000 60) standing) = ([4, 3, 1, 0, 1, 30, 20], [4, 8, 9, 3], 174, 1000)
      ∧ figures (after (.cap 800 60) standing) = ([4, 3, 0, 0, 1, 30, 20], [4, 8, 9, 3], 174, 800)
      ∧ ((after (.cap 800 60) standing).loads.get 3).minOff = some 1200
      ∧ figures (State.pass { standing with budget := { standing.budget with tie := 9 } })
          = ([4, 3, 2, 0, 1, 20, 30], [4, 8, 9], 174, 1200) := by
  decide +kernel

/-! ### Witnesses: the machine and the link -/

/-- A step or a command answers a next state. -/
def goesOn (r : Result) : Bool :=
  match r with
  | .next _ => true
  | _ => false

/-- The base state with another Link Unit. -/
def linked (l : Link) : State := { base with link := l }

/-- A START request as a frame with its check. -/
def startFrame : RawFrame := ⟨0, 0x02, [], crc [0, 0x02]⟩

/-- A report of priority 1. -/
def dueBody : Body := .due 4 ⟨.co, 0⟩ .quiet 1

/-- The same, stamped at reset. -/
def dueReport : Report := ⟨0, 0, true, dueBody⟩

/-- A report of priority 2. -/
def lostReport : Report := ⟨0, 0, true, .sensorLost 4 ⟨.co, 0⟩ .quiet⟩

/-- The state after a step. -/
def stepped (s : State) : State :=
  match step s with
  | .next t => t
  | _ => s

theorem witness_StepRunsFrontCommand :
    let at' (second tenth : Nat) : State :=
      { base with calendar := { base.calendar with second := second, tenth := tenth } }
    let hands (s : State) : State := { s with link := { s.link with handed := some .partStatus } }
    let gives (s : State) : State := { s with inFlight := [⟨0, .airMinuteExpiryNotice⟩] }
    let idle0 : State := linked { base.link with idle := some 0 }
    let line1 (n : Nat) (s : State) : State :=
      { s with doors := { s.doors with lines := s.doors.lines.set 1 ⟨true, false, some n⟩ } }
    base.pending = [] ∧ (hands base).part.op ≠ .starting ∧ (hands base).store.write = none
      ∧ (stepped (hands (gives idle0))).link.handed = none ∧ flights (stepped (hands (gives idle0))) ≠ []
      ∧ flights (stepped (gives idle0)) = [] ∧ (stepped (gives idle0)).link.idle = some 0
      ∧ (line1 3 idle0).expiries = [.settledChange 1, .idleTimerExpiry]
      ∧ ((stepped (line1 3 idle0)).doors.lines.get 1).settled = true ∧ (stepped idle0).link.supervision = .quiet
      ∧ (line1 2 base).expiries = [] ∧ (stepped (line1 2 base)).doors.lines.get 1 = ⟨true, false, some 3⟩
      ∧ run.expiries = [] ∧ (stepped run).budget.rotation = some 5999
      ∧ (stepped (at' 0 8)).calendar.second = 0 ∧ (stepped (at' 0 8)).calendar.tenth = 9
      ∧ (stepped (at' 0 8)).link.idle = some 299
      ∧ (stepped (at' 58 9)).calendar.second = 59 ∧ (stepped (at' 58 9)).calendar.tenth = 0
      ∧ (stepped (at' 59 9)).calendar.second = 60 ∧ (stepped (at' 86399 9)).calendar.day = 1
      ∧ (stepped (hands State.reset)).calendar.tenth = 1 ∧ (stepped (hands State.reset)).link.handed.isSome = true := by
  decide +kernel

theorem witness_EveryStepSettlesTransmitter :
    let free (l : Link) : State := linked { l with sending := none }
    goesOn (step shed) = true ∧ goesOn (step { shed with pending := [.start] }) = true
      ∧ base.part.op ≠ .starting ∧ base.link.sending = some (.reply ⟨0x41, .ok, false, [], false⟩)
      ∧ goesOn (exec (.mask 1) base) = true
      ∧ (after (.mask 1) base).link.sending = base.link.sending
      ∧ (after (.mask 1) base).link.reply = some ⟨0x46, .ok, false, [], false⟩
      ∧ (after (.mask 1) (free base.link)).link.sending = some (.reply ⟨0x46, .ok, false, [], false⟩)
      ∧ (after (.mask 1) (free base.link)).link.reply = none
      ∧ (free { base.link with reports := [dueReport], gap := true }).settle.link.sending
          = some (.report dueReport true)
      ∧ (free { base.link with reports := [dueReport], supervision := .lost }).settle.link.sending = none
      ∧ (free { base.link with reports := [dueReport], handed := some .stop }).settle.link.sending = none := by
  decide +kernel

theorem witness_NoticesKeepOrder :
    let first : Instr := .heldValueNotice 0 .co (some 30)
    let second : Instr := .heldValueNotice 0 .co (some 42)
    let other : Instr := .heldValueNotice 0 .no2 none
    let on (fs : List Flight) : State := { run with inFlight := fs }
    let two : State := on [⟨4, first⟩, ⟨5, second⟩]
    route first = some (.reading, .air) ∧ route second = route first ∧ route other = route first
      ∧ route (.zoneLuxNotice 0 7) = some (.reading, .light) ∧ two.inTurn first = true ∧ two.inTurn second = false
      ∧ two.inTurn other = false ∧ two.inTurn (.zoneLuxNotice 0 7) = true
      ∧ (on [⟨4, first⟩, ⟨4, second⟩]).inTurn second = true ∧ (after second two).inFlight = two.inFlight
      ∧ (after first two).inFlight = [⟨5, second⟩]
      ∧ (after other two).inFlight = [⟨4, first⟩, ⟨5, second⟩, ⟨6, other⟩]
      ∧ ((after second (after first two)).air.zones.get 0).co.held = some 42 := by decide +kernel

theorem witness_RequestsRoundTrip :
    ((Instr.setTime 65535 4294967295).wf = true
        ∧ encodeRequest (.setTime 65535 4294967295) = some (0x18, [0xFF, 0xFF, 0xFF, 0xFF, 0xFF, 0xFF]))
      ∧ ((Instr.cap (-32768) 0).wf = true ∧ encodeRequest (.cap (-32768) 0) = some (0x3A, [0x80, 0, 0, 0]))
      ∧ ((Instr.cap 32767 0).wf = true ∧ encodeRequest (.cap 32767 0) = some (0x3A, [0x7F, 0xFF, 0, 0]))
      ∧ ((Instr.override 7 0 []).wf = true ∧ encodeRequest (.override 7 0 []) = some (0x1F, [7, 0, 0, 0]))
      ∧ decodeRequest 0x1F [7, 0, 0, 0] = .request (.override 7 0 [])
      ∧ decodeRequest 0x20 (119 :: List.replicate 119 0) = .request (.overrideEnd (List.replicate 119 0))
      ∧ (119 :: List.replicate 119 0 : List Byte).length ≤ 120
      ∧ ([(0x08, []), (0x42, []), (0xBF, []), (0x01, [0]), (0x12, List.replicate 17 0), (0x1F, [7, 0, 0]),
          (0x1F, [7, 0, 0, 1]), (0x20, []), (0x20, [0, 0])] : List (Byte × List Byte)).map
            (fun f => decodeRequest f.1 f.2)
          = List.replicate 3 .unknownKind ++ List.replicate 6 .badLength := by decide +kernel

/-- A kind outside Table 11-3, and lengths that fit a kind of it and do not. -/
theorem witness_RequestsRoundTrip_lengths :
    (∀ length, ((0x08 : Byte), length) ∉ requestLengths)
      ∧ ((0x1F : Byte), PayloadLength.counted 4) ∈ requestLengths
      ∧ (PayloadLength.counted 4).fits [7, 0, 0, 1, 3] ∧ ¬(PayloadLength.counted 4).fits [7, 0, 0]
      ∧ ((0x32 : Byte), PayloadLength.fixed 3) ∈ requestLengths
      ∧ (PayloadLength.fixed 3).fits [2, 0xFF, 0xDD] ∧ ¬(PayloadLength.fixed 3).fits [2, 0xFF] :=
  ⟨fun _ h => absurd (List.mem_map_of_mem (f := Prod.fst) h) (show (0x08 : Byte) ∉ _ by decide), by decide,
    ⟨1, by decide⟩, fun ⟨_, h, _⟩ => by simp at h, by decide, rfl, fun h => by simp [PayloadLength.fits] at h⟩

theorem witness_FrameCharactersCompleteFrame :
    base.part.op ≠ .starting ∧ base.settle = base ∧ base.link.receiver = .hunt
      ∧ ([] : List Byte).length ≤ 120 ∧ (List.replicate 120 0 : List Byte).length ≤ 120 := by decide +kernel

/-- The receiver after a character. -/
def receiverAfter (r : Receiver) (c : Byte) : Receiver :=
  (after (.characterReceived c) (linked { base.link with receiver := r })).link.receiver

theorem witness_ReceiverFollowsCharacters :
    base.settle = base ∧ State.reset.settle = State.reset ∧ base.part.op ≠ .starting ∧ State.reset.part.op = .starting
      ∧ startFrame.check + 1 ≠ crc [0, 0x02]
      ∧ receiverAfter .hunt 0xA6 = .sync ∧ receiverAfter .hunt 0x59 = .hunt ∧ receiverAfter .sync 0x59 = .length
      ∧ receiverAfter .sync 0xA6 = .sync ∧ receiverAfter .sync 0x58 = .hunt ∧ receiverAfter .length 120 = .kind 120
      ∧ receiverAfter .length 121 = .hunt ∧ receiverAfter (.kind 0) 2 = .check 0 2 [] none
      ∧ receiverAfter (.kind 1) 2 = .payload 1 2 [] ∧ receiverAfter (.payload 1 2 []) 7 = .check 1 2 [7] none
      ∧ receiverAfter (.payload 2 2 []) 7 = .payload 2 2 [7]
      ∧ receiverAfter (.check 0 2 [] none) 9 = .check 0 2 [] (some 9)
      ∧ (9 : Byte) ++ (9 : Byte) ≠ crc [0, 2] ∧ receiverAfter (.check 0 2 [] (some 9)) 9 = .hunt := by decide +kernel

/-- The second reply of section 11.6, a PROBE and an ADOPTED report, written out from Tables 11-1 to 11-6. -/
theorem witness_TransmittedBytesFollowLayouts :
    (Sent.reply ⟨0x72, .clamped, false, [], true⟩).bytes.take 6 = [0xA6, 0x59, 2, 0x72, 1, 0]
      ∧ (Sent.reply ⟨0x72, .ok, true, [], true⟩).bytes.take 6 = [0xA6, 0x59, 2, 0x72, 0, 1]
      ∧ (Sent.probe ⟨405, 71940, true, .quiet, 3⟩).bytes.take 13
          = [0xA6, 0x59, 9, 0xBF, 0x01, 0x95, 0x00, 0x01, 0x19, 0x04, 1, 1, 3]
      ∧ (Sent.report ⟨405, 71940, false, .adopted ⟨405, 1199⟩⟩ true).bytes.take 15
          = [0xA6, 0x59, 11, 0xC2, 0x01, 0x95, 0x00, 0x01, 0x19, 0x04, 2, 0x01, 0x95, 0x04, 0xAF]
      ∧ fieldAt [0x02, 0xFF, 0xDD] 1 2 = 0xFFDD ∧ (-35 : Int) % 256 ^ 2 = 0xFFDD := by decide +kernel

theorem witness_ValidFrameIsBuffered :
    let frames (l : Link) : State := after (.frameComplete startFrame) (linked l)
    let g : Frame := ⟨0x01, []⟩
    let left (supervision : Supervision) (mask : Nat) (rs : List Report) : Link :=
      (frames
        { base.link with
          supervision := supervision, interval := some 5, probes := 1, probe := some ⟨0, 0, true, .quiet, 0⟩
          mask := mask, reports := rs, settings := ⟨30, 10, 3, .flush⟩ }).link
    let full : List Report := List.replicate 32 lostReport
    base.part.op ≠ .starting ∧ startFrame.payload.length = startFrame.length.toNat
      ∧ startFrame.check = crc (startFrame.length :: startFrame.kind :: startFrame.payload)
      ∧ (frames base.link).link.handed = some .start
      ∧ (frames { base.link with buffer := [g] }).link.buffer = [g, ⟨0x02, []⟩]
      ∧ (frames { base.link with buffer := [g, g] }).link.overrun = true
      ∧ (frames { base.link with supervision := .lost, probes := 3, reports := List.replicate 31 dueReport }).link.reports
          = List.replicate 31 dueReport ++ [⟨0, 0, true, .linkBack .lost 3⟩]
      ∧ ((left .quiet 3 []).interval, (left .quiet 3 []).probe, (left .quiet 3 []).probes) = (none, none, 0)
      ∧ ((left .lost 2 full).interval, (left .lost 2 full).probe, (left .lost 2 full).probes) = (none, none, 0)
      ∧ (left .quiet 3 []).reports = [] ∧ (left .lost 2 full).reports = full ∧ (left .lost 2 full).gap = true
      ∧ (left .lost 2 []).reports = [⟨0, 0, true, .linkBack .lost 1⟩]
      ∧ base.readyOutput = true ∧ State.reset.readyOutput = false
      ∧ (linked { base.link with buffer := [g] }).readyOutput = true
      ∧ (linked { base.link with buffer := [g, g] }).readyOutput = false := by
  decide +kernel

theorem witness_TransmitterChoosesInOrder :
    let sends (r : Reply) (b : List Frame) : State :=
      linked { base.link with sending := some (.reply r), buffer := b, reports := [dueReport] }
    let bare : Reply := ⟨0x41, .ok, false, [], false⟩
    let due : Reply := ⟨0x41, .ok, false, [], true⟩
    base.part.op ≠ .starting ∧ (sends bare []).link.sending = some (.reply bare)
      ∧ (after .transmitEnd (sends bare [])).link.sending = some (.report dueReport false)
      ∧ (after .transmitEnd (sends due [⟨0x01, []⟩, ⟨0x02, []⟩])).link.handed = some .start
      ∧ (after .transmitEnd (sends due [⟨0x01, []⟩, ⟨0x02, []⟩])).link.buffer = [⟨0x02, []⟩]
      ∧ (after .transmitEnd (sends due [⟨0x01, []⟩, ⟨0x02, []⟩])).link.reports = [dueReport]
      ∧ (after .transmitEnd (sends due [⟨0x01, []⟩])).link.sending = some (.report dueReport false)
      ∧ (after .transmitEnd (sends due [⟨0x01, []⟩, ⟨0x08, []⟩])).link.sending
          = some (.reply ⟨0x48, .unknownKind, false, [], true⟩)
      ∧ (after .transmitEnd (sends due [⟨0x01, []⟩, ⟨0x02, [7]⟩])).link.sending
          = some (.reply ⟨0x42, .badLength, false, [], true⟩) := by decide +kernel

theorem witness_SupervisionTimersExpire :
    let quiet (probes : Nat) (mode : Retention) : State :=
      linked
        { base.link with
          supervision := .quiet, idle := none, interval := some 0, probes := probes
          settings := { base.link.settings with retention := mode } }
    base.link.supervision = .up ∧ base.link.idle.isSome = true
      ∧ (after .idleTimerExpiry base).link.interval = some 100
      ∧ (after .idleTimerExpiry (linked { base.link with supervision := .lost, idle := some 0 })).link.idle = some 300
      ∧ (after .intervalTimerExpiry (quiet 2 .retain)).link.probes = 3
      ∧ (after .intervalTimerExpiry (quiet 3 .retain)).link.supervision = .lost
      ∧ (after .intervalTimerExpiry (quiet 3 .flush)).link.gap = true := by decide +kernel

theorem witness_RaisedReportIsQueuedOrDiscarded :
    let holds (rs : List Report) : State := linked { base.link with reports := rs }
    (State.raise dueBody (linked { base.link with mask := 2 })).link.reports = []
      ∧ (State.raise lostReport.body (linked { base.link with mask := 2 })).link.reports = [lostReport]
      ∧ (State.raise dueBody (holds (List.replicate 31 dueReport))).link.reports = List.replicate 32 dueReport
      ∧ (State.raise dueBody (holds (List.replicate 32 dueReport))).link.gap = true
      ∧ (State.raise lostReport.body (holds (lostReport :: List.replicate 31 dueReport))).link.reports
          = lostReport :: (List.replicate 30 dueReport ++ [lostReport])
      ∧ (State.raise dueBody
          (linked { base.link with supervision := .lost, settings := ⟨30, 10, 3, .flush⟩ })).link.gap = true
      ∧ reportPriority dueBody = 1 ∧ reportPriority lostReport.body = 2
      ∧ reportPriority (.ready Config.revision false .configure) = 3 := by
  decide +kernel

theorem witness_PlainSettingsAreTaken :
    base.takesRequests = true ∧ status (.mask 3) base = some .ok ∧ status (.mask 4) base = some .badField
      ∧ status (.setBudget 60) base = some .ok ∧ status (.setBudget 59) base = some .badField
      ∧ status (.setBudget 3600) base = some .ok ∧ status (.setBudget 3601) base = some .badField
      ∧ status (.setAutorun 1) base = some .ok ∧ status (.setAutorun 2) base = some .badField
      ∧ status (.setLink 600 120 10 1) base = some .ok ∧ status (.setLink 5 4 1 0) base = some .ok
      ∧ status (.setLink 601 120 10 1) base = some .badField ∧ status (.setLink 10 10 3 0) base = some .badField
      ∧ status (.setLink 4 2 1 0) base = some .badField ∧ status (.setLink 30 1 3 0) base = some .badField
      ∧ status (.setLink 30 10 0 0) base = some .badField ∧ status (.setLink 30 10 11 0) base = some .badField
      ∧ status (.setLink 30 10 3 2) base = some .badField := by decide +kernel

/-! ### Witnesses: operating states -/

theorem witness_StartingEndEntersOperation :
    (State.reset.part.op = .starting ∧ ∀ c, State.reset.store.image ≠ .written c (crc (Config.imageBytes c)))
      ∧ (∃ s : State, s.part.op = .starting
          ∧ s.store.image = .written Stored.builtIn (crc (Config.imageBytes Stored.builtIn))
          ∧ Stored.builtIn.mask ≤ 3)
      ∧ ∃ s : State, s.part.op = .starting
          ∧ s.store.image
            = .written { Stored.builtIn with autorun := true } (crc (Config.imageBytes { Stored.builtIn with autorun := true })) :=
  ⟨⟨rfl, fun _ h => nomatch h⟩,
    ⟨{ State.reset with store := ⟨.written Stored.builtIn (crc (Config.imageBytes Stored.builtIn)), none⟩ }, rfl, rfl,
      by decide⟩,
    ⟨{ State.reset with
        store :=
          ⟨.written { Stored.builtIn with autorun := true } (crc (Config.imageBytes { Stored.builtIn with autorun := true })),
            none⟩ }, rfl, rfl⟩⟩

theorem witness_StoredConfigurationComesBack :
    shed.takesRequests = true ∧ shed.part.autorun = false
      ∧ { shed with part := { shed.part with autorun := true } }.takesRequests = true
      ∧ shed.snapshot.zones.get 1 = .floor ∧ shed.snapshot.loads.get 4 = some (load .light 1 [60] none 1 .short 0)
      ∧ shed.snapshot.doors.get 0 = some someDoor ∧ shed.snapshot.sensors.get 4 = some ⟨.co, 0⟩ := by decide +kernel

theorem witness_StoreWritesSnapshot :
    shed.takesRequests = true ∧ (after .store shed).store.write = some ⟨shed.snapshot, false⟩
      ∧ (after .store shed).part.imageValid = false ∧ encodeRequest .start = some (0x02, [])
      ∧ State.reset.part.op = .starting ∧ (after .store shed).store.write ≠ none
      ∧ (after (.storeWriteEnd true) (after .store shed)).part.imageValid = true
      ∧ (after (.storeWriteEnd true) (after .store shed)).link.sending = shed.link.sending
      ∧ (after (.storeWriteEnd false) (after .store shed)).link.reply
          = some ⟨0x44, .storeFailed, false, [], false⟩ := by decide +kernel

/-- The shed in CONFIGURE with the rotation of two shifts, its clock known, so long after the anchor. -/
def timed (day second : Nat) : State :=
  { shed with
    calendar :=
      { shed.calendar with
        unknown := false, day := day, second := second, active := twoShifts, anchor := some ⟨400, 360⟩ } }

/-- The shed in CONFIGURE with profiles that ask for no light. -/
def dark : State :=
  { shed with
    calendar :=
      { shed.calendar with
        profiles := shed.calendar.profiles.map fun p => { p with dockLight := 0, floorLight := 0, egress := 0 } } }

/-- The exhaust and light notices of START are those of R148. -/
theorem witness_StartEntersRun :
    (timed 400 28800).takesRequests = true ∧ (timed 400 28800).calendar.active.get 0 ≠ .empty
      ∧ (after .start (timed 400 28800)).calendar.cursor = some (.inShift 0 600 [])
      ∧ (after .start (timed 400 28800)).drafts = []
      ∧ (flights (after .start dark)).filter (fun c => route c == some (.light, .budget))
          = [.lightNotice 0 0 [(3, 0)], .lightNotice 1 0 [(4, 0)]]
      ∧ (flights (after .start dark)).filter (fun c => route c == some (.air, .budget))
          = [.exhaustNotice 0 0 [(1, 0)], .exhaustNotice 1 0 []]
      ∧ (after .start (timed 400 21599)).calendar.cursor = some .waiting
      ∧ (after .start (timed 400 21599)).calendar.lookahead = some ⟨1, 1⟩
      ∧ (after .start (timed 400 21480)).calendar.lookahead = some ⟨1, 2⟩
      ∧ shed.takesRequests = true ∧ shed.part.op = .configure ∧ shed.calendar.unknown = true
      ∧ (shed.doors.doors.get 0).defn = some someDoor ∧ (shed.readings.sensors.get 4).defn = some ⟨.co, 0⟩
      ∧ shed.zones.get 0 ≠ .undefined ∧ run.takesRequests = true ∧ run.part.op = .run
      ∧ status .start shed = some .ok ∧ status .start run = some .wrongState := by decide +kernel

theorem witness_StopEntersConfigure :
    run.takesRequests = true ∧ status .stop run = some .ok ∧ status .stop shed = some .wrongState := by decide +kernel

theorem witness_StatusReadsAnswer :
    shed.takesRequests = true ∧ status (.zoneStatus 1) shed = some .ok ∧ status (.zoneStatus 11) shed = some .notFound
      ∧ status (.zoneStatus 12) shed = some .notFound ∧ status (.loadStatus 63) shed = some .ok
      ∧ status (.loadStatus 64) shed = some .notFound ∧ status (.doorStatus 31) shed = some .ok
      ∧ status (.doorStatus 32) shed = some .notFound ∧ status (.sensorStatus 39) shed = some .ok
      ∧ status (.sensorStatus 40) shed = some .notFound ∧ status (.profileRead 7) shed = some .ok
      ∧ status (.profileRead 8) shed = some .badField ∧ status (.planRead 1 23) shed = some .ok
      ∧ status (.planRead 2 0) shed = some .badField ∧ status (.planRead 0 24) shed = some .badField
      ∧ shed.budget.shed.length ≤ 94 := by decide +kernel

/-! ### Witnesses: the shed layout -/

theorem witness_DefZoneIsChecked :
    shed.takesRequests = true ∧ status (.defZone 11 2) shed = some .ok ∧ status (.defZone 12 0) shed = some .badField
      ∧ status (.defZone 0 3) shed = some .badField ∧ run.takesRequests = true
      ∧ status (.defZone 11 2) run = some .wrongState ∧ status (.defZone 0 0) shed = some .inUse
      ∧ status (.defZone 0 2) shed = some .inUse ∧ status (.defZone 0 1) shed = some .ok
      ∧ status (.defZone 11 0) shed = some .ok := by decide +kernel

/-- A HEATER for zone Z0 with draws at the limit. -/
def heaterFields : LoadFields := ⟨63, 1, 0, 2, 2, 0, 2000, 0, 0, 255, 3, 1, 900⟩

theorem heaterFields_inRange : DefLoadInRange heaterFields := by
  unfold DefLoadInRange; decide

theorem witness_DefLoadIsChecked :
    shed.takesRequests = true ∧ goesOn (exec (.defLoad { heaterFields with zone := 2 }) shed) = true
      ∧ (after (.defLoad { heaterFields with zone := 2 }) shed).link.answered
          = some ⟨0x52, .notFound, false, [], false⟩
      ∧ (DefLoadInRange heaterFields ∧ status (.defLoad heaterFields) shed = some .ok)
      ∧ (¬DefLoadInRange { heaterFields with base := 4 }
          ∧ status (.defLoad { heaterFields with base := 4 }) shed = some .badField)
      ∧ status (.defLoad { heaterFields with load := 64 }) shed = some .badField
      ∧ status (.defLoad { heaterFields with type := 5 }) shed = some .badField
      ∧ status (.defLoad { heaterFields with type := 0 }) run = some .wrongState
      ∧ status (.defLoad { heaterFields with type := 0 }) shed = some .ok
      ∧ status (.defLoad { heaterFields with zone := 2 }) shed = some .notFound
      ∧ status (.defLoad ⟨9, 3, 0, 1, 1, 20, 0, 0, 0, 1, 2, 0, 0⟩) shed = some .notFound
      ∧ status (.defLoad ⟨9, 3, 1, 1, 1, 20, 0, 0, 0, 0, 2, 0, 0⟩) shed = some .badField
      ∧ status (.defLoad ⟨9, 3, 0, 1, 1, 20, 0, 0, 0, 0, 2, 0, 0⟩) shed = some .ok
      ∧ status (.defLoad heaterFields) run = some .wrongState
      ∧ status (.defLoad ⟨4, 4, 1, 100, 1, 60, 0, 0, 0, 255, 1, 0, 0⟩) run = some .ok
      ∧ ((after (.defLoad ⟨4, 4, 1, 100, 1, 60, 0, 0, 0, 255, 3, 0, 0⟩) run).loads.get 4).priority = 3 := by
  refine ⟨by decide +kernel, by decide +kernel, by decide +kernel, ⟨heaterFields_inRange, by decide +kernel⟩,
    ⟨?_, by decide +kernel⟩, ?_⟩
  · unfold DefLoadInRange; decide
  · decide +kernel

/-! ### Witnesses: the shift calendar -/

theorem witness_SetTimeSetsClock :
    let cursorAfter (day second : Nat) : Option Cursor := (after (.setTime day second) (inShift 10)).calendar.cursor
    let known : State := { shed with calendar := { shed.calendar with unknown := false } }
    shed.takesRequests = true ∧ shed.calendar.second < 86400 ∧ shed.calendar.unknown = true
      ∧ status (.setTime 65535 86399) shed = some .ok ∧ status (.setTime 65536 0) shed = some .badField
      ∧ status (.setTime 0 86400) shed = some .badField ∧ (inShift 10).takesRequests = true
      ∧ (inShift 10).calendar.second = 71940 ∧ (inShift 10).calendar.active.get 0 ≠ .empty
      ∧ cursorAfter 405 71999 = some (.inShift 0 10 []) ∧ cursorAfter 405 72000 = some (.inShift 0 9 [])
      ∧ cursorAfter 405 72060 = some (.inShift 0 8 []) ∧ cursorAfter 405 72061 = some (.inShift 1 599 [])
      ∧ (after (.setTime 405 72000) (inShift 10)).drafts = [] ∧ (after (.setTime 405 72061) (inShift 10)).drafts.length = 1
      ∧ cursorAfter 400 21599 = some .waiting ∧ cursorAfter 400 21600 = some (.inShift 0 720 [])
      ∧ (after (.setTime 0 120) known).calendar.second = 120 := by decide +kernel

/-- A profile at the limits of Table 2-1. -/
def widest : ProfileFields := ⟨7, -100, 300, 100, 100, 100, 20000, 1, 60, 1⟩

theorem witness_DefProfileIsChecked :
    shed.takesRequests = true ∧ status (.defProfile widest) shed = some .ok
      ∧ status (.defProfile { widest with profile := 8 }) shed = some .badField
      ∧ status (.defProfile { widest with dockSetpoint := -101 }) shed = some .badField
      ∧ status (.defProfile { widest with floorSetpoint := 301 }) shed = some .badField
      ∧ status (.defProfile { widest with dockLight := 99 }) shed = some .badField
      ∧ status (.defProfile { widest with floorLight := 99 }) shed = some .badField
      ∧ status (.defProfile { widest with budget := 20001 }) shed = some .badField
      ∧ status (.defProfile { widest with mode := 2 }) shed = some .badField
      ∧ status (.defProfile { widest with purge := 61 }) shed = some .badField
      ∧ status (.defProfile { widest with preheat := 2 }) shed = some .badField
      ∧ (inShift 10).takesRequests = true ∧ status (.defProfile widest) (inShift 10) = some .ok
      ∧ status (.defProfile { widest with profile := 1 }) (inShift 10) = some .inUse
      ∧ status (.defProfile { widest with profile := 2 }) (inShift 10) = some .inUse
      ∧ status (.defProfile { widest with profile := 0 }) run = some .inUse
      ∧ status (.defProfile { widest with profile := 0 }) (inShift 10) = some .ok := by decide +kernel

theorem witness_PlanRowSetsRow :
    let frozen : State := { run with calendar := { run.calendar with committed := true } }
    let rowAfter (f : RowFields) : Row := (after (.planRow 23 f) shed).calendar.pendingTable.get 23
    shed.takesRequests = true ∧ rowAfter ⟨1, 7, 1440, 15, 0⟩ = .shift 7 1440 15 ∧ rowAfter ⟨1, 0, 1, 0, 0⟩ = .shift 0 1 0
      ∧ rowAfter ⟨2, 9, 9, 9, 99⟩ = .repeatGroup 99 ∧ rowAfter ⟨3, 9, 9, 9, 9⟩ = .endGroup
      ∧ rowAfter ⟨0, 9, 9, 9, 9⟩ = .empty ∧ status (.planRow 24 ⟨0, 0, 0, 0, 0⟩) shed = some .badField
      ∧ status (.planRow 0 ⟨1, 8, 1, 0, 0⟩) shed = some .badField
      ∧ status (.planRow 0 ⟨1, 0, 0, 0, 0⟩) shed = some .badField
      ∧ status (.planRow 0 ⟨1, 0, 1441, 0, 0⟩) shed = some .badField
      ∧ status (.planRow 0 ⟨1, 0, 1, 16, 0⟩) shed = some .badField
      ∧ status (.planRow 0 ⟨2, 0, 0, 0, 100⟩) shed = some .badField
      ∧ status (.planRow 0 ⟨4, 0, 0, 0, 0⟩) shed = some .badField
      ∧ frozen.takesRequests = true ∧ status (.planRow 0 ⟨0, 0, 0, 0, 0⟩) frozen = some .frozen := by decide +kernel

theorem witness_PlanValidationFollowsTable :
    let detail (rows : List Row) : Option Nat := planDetail (Table.ofList 24 .empty rows)
    detail [.endGroup, .repeatGroup 1] = some 1 ∧ detail [] = some 3 ∧ detail [.shift 1 60 0] = none
      ∧ detail [.shift 1 59 0] = some 4 ∧ detail [.repeatGroup 28, .shift 1 1440 0, .endGroup] = none
      ∧ detail [.repeatGroup 28, .shift 1 1440 0, .endGroup, .shift 1 1 0] = some 5
      ∧ detail [.repeatGroup 1, .repeatGroup 1, .repeatGroup 1, .shift 1 60 0, .endGroup, .endGroup, .endGroup] = none := by
  decide +kernel

/-- A valid table with a group of count 0, an EMPTY row and a group in a group. -/
def nested : Table 24 Row :=
  Table.ofList 24 .empty
    [.repeatGroup 0, .shift 1 60 0, .endGroup, .empty, .repeatGroup 2, .repeatGroup 3, .shift 4 30 1, .endGroup,
      .shift 5 60 2, .endGroup]

theorem nested_valid : ValidTable nested := by
  refine ⟨by decide +kernel, ?_, ?_⟩
  · have key : (nested.entries.all fun r =>
        match r with | .shift _ n _ => decide (1 ≤ n ∧ n ≤ 1440) | _ => true) = true := by decide +kernel
    exact fun p n crew h => of_decide_eq_true (List.all_eq_true.mp key _ h)
  · have key : (nested.entries.all fun r =>
        match r with | .repeatGroup n => decide (n ≤ 99) | _ => true) = true := by decide +kernel
    exact fun n h => of_decide_eq_true (List.all_eq_true.mp key _ h)

theorem witness_WalkFollowsRows :
    walk nested 0 [] = some (.inShift 6 30 [⟨5, 3⟩, ⟨4, 2⟩]) ∧ walk nested 3 [] = some (.inShift 6 30 [⟨5, 3⟩, ⟨4, 2⟩])
      ∧ walk nested 7 [⟨5, 3⟩, ⟨4, 2⟩] = some (.inShift 6 30 [⟨5, 2⟩, ⟨4, 2⟩])
      ∧ walk nested 7 [⟨5, 1⟩, ⟨4, 2⟩] = some (.inShift 8 60 [⟨4, 2⟩])
      ∧ walk nested 9 [⟨4, 2⟩] = some (.inShift 6 30 [⟨5, 3⟩, ⟨4, 1⟩])
      ∧ walk nested 9 [⟨4, 1⟩] = some (.inShift 6 30 [⟨5, 3⟩, ⟨4, 2⟩])
      ∧ walk nested 10 [] = some (.inShift 6 30 [⟨5, 3⟩, ⟨4, 2⟩])
      ∧ (partRows nested)[0]? = some (.repeatGroup 0) ∧ encloses (partRows nested) 0 2 = true
      ∧ ends (rowsAfter (partRows nested) 0 1) = repeats (rowsAfter (partRows nested) 0 1)
      ∧ cycleLength nested = 300 ∧ unrolledMinutes (partRows nested) = 300
      ∧ place nested 389 = some (.inShift 6 1 [⟨5, 1⟩, ⟨4, 2⟩]) ∧ place nested 390 = some (.inShift 8 60 [⟨4, 2⟩]) := by
  decide +kernel

theorem witness_RotationIsPlaced :
    ValidTable nested ∧ place nested 299 = some (.inShift 8 1 [⟨4, 1⟩]) ∧ place nested 300 = walk nested 0 [] :=
  ⟨nested_valid, by decide +kernel, by decide +kernel⟩

theorem witness_PlansAreCommittedAndWithdrawn :
    let plan : List Row := [.shift 5 720 1, .shift 6 720 2]
    let anchored : State := { run with calendar := { run.calendar with anchor := some ⟨405, 1199⟩ } }
    let committed : State := { inShift 10 with calendar := { (inShift 10).calendar with committed := true } }
    shed.takesRequests = true ∧ answer .planCommit shed = some (.planInvalid, [3])
      ∧ answer .planCommit (withPending plan shed) = some (.ok, [0])
      ∧ (withPending plan anchored).takesRequests = true
      ∧ (after .planCommit (withPending plan anchored)).calendar.cursor = some (.inShift 0 720 [])
      ∧ answer .planCommit (withPending plan (inShift 10)) = some (.ok, [1])
      ∧ (after .planCommit (withPending plan (inShift 10))).calendar.lookahead = some ⟨5, 10⟩
      ∧ walk (Table.ofList 24 .empty plan) 0 [] = some (.inShift 0 720 [])
      ∧ status .planCommit committed = some .frozen ∧ status .planWithdraw shed = some .notFound
      ∧ status .planWithdraw committed = some .ok
      ∧ (after .planWithdraw committed).calendar.lookahead = some ⟨2, 10⟩
      ∧ walk twoShifts 1 [] = some (.inShift 1 720 []) := by decide +kernel

theorem witness_PlanAnchorResyncs :
    shed.takesRequests = true ∧ status (.planAnchor 65535 1439) shed = some .ok
      ∧ status (.planAnchor 65536 0) shed = some .badField ∧ status (.planAnchor 0 1440) shed = some .badField
      ∧ (inShift 10).takesRequests = true ∧ (inShift 10).calendar.active.get 0 ≠ .empty
      ∧ (after (.planAnchor 405 1199) (inShift 10)).calendar.cursor = some (.inShift 0 720 [])
      ∧ (after (.planAnchor 405 1199) (inShift 10)).drafts = []
      ∧ ((after (.planAnchor 405 479) (inShift 10)).drafts.map fun d => (d.head.row, d.head.profile, d.head.crew))
          = [(some 1, 2, 2)]
      ∧ (after (.planAnchor 405 1200) (inShift 10)).calendar.cursor = some .waiting := by decide +kernel

theorem witness_OverridesAreSetAndEnded :
    let held : State :=
      { run with calendar := { run.calendar with overrides := run.calendar.overrides.set 0 (some ⟨6, .untilEnded⟩) } }
    run.takesRequests = true ∧ status (.override 7 1440 [0, 1, 0]) run = some .ok
      ∧ (after (.override 7 1440 [0, 1, 0]) run).calendar.overrides.get 1 = some ⟨7, .minutes 1440⟩
      ∧ status (.override 0 0 (List.replicate 12 0)) run = some .ok
      ∧ status (.override 8 0 [0]) run = some .badField ∧ status (.override 0 1441 [0]) run = some .badField
      ∧ status (.override 0 0 []) run = some .badField
      ∧ status (.override 0 0 (List.replicate 13 0)) run = some .badField
      ∧ status (.override 0 0 [0]) shed = some .wrongState ∧ status (.override 0 0 [0, 2]) run = some .notFound
      ∧ status (.override 0 0 [0, 12]) run = some .notFound ∧ status (.overrideEnd []) run = some .badField
      ∧ status (.overrideEnd [0]) shed = some .wrongState ∧ status (.overrideEnd [0, 1]) held = some .notFound
      ∧ status (.overrideEnd [0]) held = some .ok ∧ (after (.overrideEnd [0]) held).calendar.overrides.get 0 = none := by
  decide +kernel

theorem witness_DefaultProfileAndExpiryAreFollowed :
    let held : State :=
      { run with calendar := { run.calendar with overrides := run.calendar.overrides.set 0 (some ⟨6, .minutes 1⟩) } }
    shed.takesRequests = true ∧ status (.setCalendar 7) shed = some .ok ∧ status (.setCalendar 8) shed = some .badField
      ∧ held.part.op = .run ∧ held.calendar.overrides.get 0 = some ⟨6, .minutes 1⟩
      ∧ (after (.overrideExpiry 0) held).calendar.overrides.get 0 = none := by decide +kernel

theorem witness_MinuteExpiryCounts :
    let at' (day second : Nat) : State :=
      after .minuteExpiry { run with calendar := { run.calendar with day := day, second := second } }
    let held : State :=
      { inShift 2 with
        calendar :=
          { (inShift 2).calendar with
            overrides := ((inShift 2).calendar.overrides.set 0 (some ⟨6, .minutes 1⟩)).set 1 (some ⟨6, .minutes 2⟩) } }
    let waits (day second : Nat) : State :=
      after .minuteExpiry
        { inShift 10 with
          calendar :=
            { (inShift 10).calendar with
              day := day, second := second, anchor := some ⟨405, 1199⟩, cursor := some .waiting
              lookahead := some ⟨1, 1440⟩ } }
    run.part.op = .run ∧ shed.part.op ≠ .run ∧ (at' 7 86339).calendar.second = 86340
      ∧ (at' 7 86340).calendar.day = 8 ∧ (at' 65535 86340).calendar.day = 0
      ∧ (at' 65535 86340).calendar.unknown = true ∧ (after .minuteExpiry held).calendar.overrides.get 0 = none
      ∧ (after .minuteExpiry held).calendar.overrides.get 1 = some ⟨6, .minutes 1⟩
      ∧ (after .minuteExpiry held).calendar.cursor = some (.inShift 0 1 [])
      ∧ (after .minuteExpiry held).calendar.lookahead.map (fun l => l.minutes) = some 1
      ∧ (after .minuteExpiry (inShift 1)).calendar.cursor = some (.inShift 1 720 [])
      ∧ (after .minuteExpiry (inShift 1)).drafts.length = 1
      ∧ (waits 404 86340).calendar.cursor = some .waiting
      ∧ (waits 404 86340).calendar.lookahead = some ⟨1, 1199⟩
      ∧ (waits 405 71939).calendar.cursor = some (.inShift 0 720 []) ∧ (waits 405 71939).drafts.length = 1
      ∧ (after .minuteExpiry (capped ⟨5, .minutes 60⟩ run)).budget.cap = some ⟨5, .minutes 59⟩ := by decide +kernel

theorem witness_ShiftEndIsBoundary :
    let committed : State :=
      withPending [.shift 5 720 1, .shift 6 720 2]
        { inShift 1 with calendar := { (inShift 1).calendar with committed := true } }
    let waits (second : Nat) : State :=
      { inShift 1 with
        calendar :=
          { (inShift 1).calendar with second := second, anchor := some ⟨405, 1199⟩, cursor := some .waiting } }
    (inShift 1).part.op = .run ∧ (inShift 1).calendar.cursor = some (.inShift 0 1 [])
      ∧ (after .shiftEnd (inShift 1)).calendar.cursor = some (.inShift 1 720 [])
      ∧ (after .shiftEnd (inShift 1)).calendar.lookahead = some ⟨1, 720⟩
      ∧ (waits 71940).part.op = .run ∧ (waits 71940).calendar.cursor = some .waiting
      ∧ (after .shiftEnd (waits 71940)).calendar.cursor = some (.inShift 0 720 [])
      ∧ (after .shiftEnd (waits 71939)).calendar.cursor = some .waiting ∧ (after .shiftEnd (waits 71939)).drafts = []
      ∧ committed.part.op = .run ∧ committed.calendar.cursor = some (.inShift 0 1 [])
      ∧ (after .shiftEnd committed).calendar.anchor = some ⟨405, 1199⟩
      ∧ (after .shiftEnd committed).calendar.lookahead = some ⟨6, 720⟩
      ∧ (after .shiftEnd committed).drafts.map (fun d => (d.head.profile, d.head.crew)) = [(5, 1)] := by decide +kernel

/-! ### Witnesses: dock doors -/

/-- A state whose first door input lines are as given. -/
def withLines (a b : Line) (s : State) : State :=
  { s with doors := { s.doors with lines := (s.doors.lines.set 0 a).set 1 b } }

theorem witness_DoorInputsAreFiltered :
    let timed : State := withLines ⟨true, false, some 3⟩ ⟨true, false, some 2⟩ run
    timed.takesRequests = true ∧ status (.setDoors 0) timed = some .badField ∧ status (.setDoors 21) timed = some .badField
      ∧ status (.setDoors 1) shed = some .ok ∧ status (.setDoors 20) shed = some .ok
      ∧ ((after (.setDoors 3) timed).doors.doors.get 0).state = .opened
      ∧ flights (after (.setDoors 3) timed)
          = [.heatOpenUnsealedCountNotice 0 1, .airOpenUnsealedCountNotice 0 1, .curtainRequestNotice 2 1]
      ∧ (after (.setDoors 3) timed).doors.lines.get 0 = ⟨true, true, none⟩
      ∧ (after (.setDoors 3) timed).doors.lines.get 1 = ⟨true, false, some 2⟩
      ∧ (after (.doorInputChange 0 false) timed).doors.lines.get 0 = ⟨false, false, none⟩
      ∧ (after (.doorInputChange 2 true) timed).doors.lines.get 2 = ⟨true, false, some 0⟩
      ∧ (after (.doorInputChange 2 true) State.reset).doors.lines.get 2 = ⟨true, false, none⟩ := by decide +kernel

theorem witness_SettledChangeMovesDoor :
    let moves (state : DoorState) (n : LineNo) (a b : Line) : DoorState :=
      ((after (.settledChange n) (withLines a b (withDoor (door state none false) run))).doors.doors.get 0).state
    let rising : Line := ⟨true, false, some 0⟩
    let falling : Line := ⟨false, true, some 0⟩
    let low : Line := ⟨false, false, none⟩
    let high : Line := ⟨true, true, none⟩
    rising.timing ≠ none ∧ rising.high ≠ rising.settled ∧ run.part.op = .run ∧ (door .closed none false).defn = some someDoor
      ∧ someDoor.enabled = true ∧ moves .closed 0 rising low = .opened ∧ moves .closed 0 rising high = .sealed
      ∧ moves .dwell 0 falling low = .closed ∧ moves .dwell 1 high rising = .sealed
      ∧ moves .sealed 1 high falling = .opened ∧ moves .closed 1 low rising = .closed := by decide +kernel

theorem witness_DoorAlertsAreRaisedAndCleared :
    let d : Door := { door .opened (some 0) true with entries := 255 }
    let edge : Door := { door .dwell none true with defn := some { someDoor with mode := .edge } }
    run.part.op = .run ∧ d.defn = some someDoor ∧ d.state = .opened ∧ d.dwell ≠ none
      ∧ ((after (.dwellTimerExpiry 0) (withDoor d run)).doors.doors.get 0).entries = 255
      ∧ queued (after (.dwellTimerExpiry 0) (withDoor d run)) = []
      ∧ run.takesRequests = true ∧ status (.ackDoor 32) run = some .notFound ∧ status (.ackDoor 31) run = some .notFound
      ∧ (run.doors.doors.get 0).defn = some someDoor ∧ status (.ackDoor 0) run = some .ok
      ∧ status (.ackDoor 0) (withDoor (door .dwell none true) run) = some .stillActive
      ∧ ((after (.ackDoor 0) (withDoor edge run)).doors.doors.get 0).alert = false
      ∧ ((after (.ackDoor 0) (withDoor (door .sealed none true) run)).doors.doors.get 0).alert = false := by
  decide +kernel

theorem witness_DoorEventsGiveNotices :
    run.part.op = .run ∧ goesOn (exec (.settledChange 0) run) = true ∧ goesOn (exec (.dwellTimerExpiry 0) run) = true
      ∧ flights (after (.defDoor ⟨0, 0, 0, 0, 60, 1, 0⟩) (withDoor (door .dwell none true) run))
          = [.holdDownFlagNotice 0 false, .heatOpenUnsealedCountNotice 0 0, .airOpenUnsealedCountNotice 0 0,
              .curtainRequestNotice 2 0] := by decide +kernel

theorem witness_DefDoorIsChecked :
    let full : State :=
      { shed with
        zones := shed.zones.set 2 .dock
        doors :=
          { shed.doors with
            doors :=
              shed.doors.doors.mapIdx fun n d =>
                if 8 ≤ n.val ∧ n.val < 16 then Door.atRest (some { someDoor with zone := 2 }) else d } }
    let opened : State := withDoor (door .opened (some 200) false) run
    shed.takesRequests = true ∧ status (.defDoor ⟨31, 0, 1, 1, 900, 1, 1⟩) shed = some .ok
      ∧ status (.defDoor ⟨32, 0, 0, 0, 10, 0, 0⟩) shed = some .badField
      ∧ status (.defDoor ⟨1, 0, 2, 0, 10, 0, 0⟩) shed = some .badField
      ∧ status (.defDoor ⟨1, 0, 0, 0, 9, 0, 0⟩) shed = some .badField
      ∧ status (.defDoor ⟨1, 0, 0, 0, 901, 0, 0⟩) shed = some .badField
      ∧ status (.defDoor ⟨0, 255, 0, 0, 0, 0, 0⟩) shed = some .inUse
      ∧ status (.defDoor ⟨1, 255, 0, 0, 0, 0, 0⟩) shed = some .ok
      ∧ status (.defDoor ⟨1, 3, 0, 0, 10, 0, 0⟩) shed = some .notFound
      ∧ status (.defDoor ⟨1, 1, 0, 0, 10, 0, 0⟩) shed = some .badField
      ∧ status (.defDoor ⟨16, 2, 0, 0, 10, 0, 0⟩) full = some .inUse
      ∧ status (.defDoor ⟨15, 2, 0, 0, 10, 0, 0⟩) full = some .ok
      ∧ status (.defDoor ⟨0, 2, 0, 0, 10, 0, 0⟩) full = some .inUse
      ∧ run.takesRequests = true ∧ status (.defDoor ⟨1, 0, 0, 0, 10, 0, 0⟩) run = some .wrongState
      ∧ status (.defDoor ⟨0, 0, 1, 0, 60, 1, 1⟩) run = some .wrongState
      ∧ ((after (.defDoor ⟨0, 0, 0, 0, 120, 1, 1⟩) opened).doors.doors.get 0).dwell = some 1200
      ∧ ((after (.defDoor ⟨0, 0, 0, 0, 60, 0, 1⟩) opened).doors.doors.get 0).dwell = some 200 := by decide +kernel

theorem witness_BoundaryFiguresAreEntered :
    let d : Draft := ⟨⟨405, 1200, some 0, 1, 1⟩, none, none, some ⟨405, 1200⟩⟩
    let s : State := { withDoor { door .closed none false with entries := 2 } run with drafts := [d] }
    let t : State := after .airShiftBoundary s
    let s' : State := { s with drafts := [{ d with adopted := some ⟨405, 1200⟩ }] }
    let e : Draft := { d with head := ⟨406, 360, some 1, 2, 2⟩, adopted := none }
    let two : State := { s with drafts := [d, e] }
    let filled (t : State) : List (Bool × Bool) := t.drafts.map fun x => (x.air.isSome, x.doors.isSome)
    let twice (c : Instr) : State := after c (after c two)
    s.inTurn .airShiftBoundary = true ∧ s.inTurn .doorShiftBoundary = true ∧ t.inTurn .doorShiftBoundary = true
      ∧ ((after .doorShiftBoundary s).drafts.map fun x => (x.air.isSome, x.doors.isSome)) = [(false, true)]
      ∧ (queued (after .airShiftBoundary (after .doorShiftBoundary s'))).map Body.kind = [0xC1, 0xC2]
      ∧ (after .airShiftBoundary (after .doorShiftBoundary s')).drafts = []
      ∧ s.part.op = .run ∧ s.drafts = [d] ∧ d.air = none ∧ d.doors = none ∧ (t.drafts.map fun x => x.air.isSome) = [true]
      ∧ (after .doorShiftBoundary t).drafts = []
      ∧ (queued (after .doorShiftBoundary t)).map Body.kind = [0xC1, 0xC2]
      ∧ ((after .doorShiftBoundary t).doors.doors.get 0).opens = 0
      ∧ filled (twice .airShiftBoundary) = [(true, false), (true, false)]
      ∧ filled (twice .doorShiftBoundary) = [(false, true), (false, true)]
      ∧ filled (after .doorShiftBoundary (twice .airShiftBoundary)) = [(true, false)]
      ∧ (queued (after .doorShiftBoundary (twice .airShiftBoundary))).map Body.kind = [0xC1, 0xC2]
      ∧ (queued (after .airShiftBoundary (after .airShiftBoundary (twice .doorShiftBoundary)))).map Body.kind
          = [0xC1, 0xC2, 0xC1]
      ∧ filled (after .airShiftBoundary (twice .airShiftBoundary)) = [(true, false), (true, false)]
      ∧ filled (after .doorShiftBoundary (twice .doorShiftBoundary)) = [(false, true), (false, true)]
      ∧ ((after .doorShiftBoundary { s with drafts := [] }).doors.doors.get 0).entries = 0
      ∧ queued (after .doorShiftBoundary { s with drafts := [] }) = []
      ∧ goesOn (exec .airShiftBoundary { s with drafts := [] }) = true := by decide +kernel

/-! ### Witnesses: readings, air, heat and light -/

theorem witness_ReadingIsTaken :
    let valueAfter (v : Int) : Option Int := ((after (.reading 0 v) shed).readings.sensors.get 0).value
    shed.takesRequests = true ∧ (shed.readings.sensors.get 0).defn = some ⟨.temp, 0⟩
      ∧ status (.reading 39 0) shed = some .notFound ∧ status (.reading 40 0) shed = some .notFound
      ∧ status (.reading 0 (-400)) shed = some .ok ∧ status (.reading 0 (-401)) shed = some .clamped
      ∧ valueAfter (-401) = some (-400) ∧ valueAfter 601 = some 600 ∧ run.takesRequests = true
      ∧ ((after (.reading 0 600) run).readings.sensors.get 0).quiet = some 3000
      ∧ flights (after (.reading 0 600) run) = [.zoneTemperatureNotice 0 (some 600)]
      ∧ (after (.reading 0 (-35)) shed).readings.temperature 0 = some (-35)
      ∧ (after (.reading 4 30) shed).readings.held 0 .co = some 30 ∧ shed.readings.substitute 0 .co = true
      ∧ (after (.reading 4 30) shed).readings.trustedValues .co 0 = [30] := by decide +kernel

theorem witness_DefSensorIsChecked :
    shed.takesRequests = true ∧ status (.defSensor 39 4 1) shed = some .ok
      ∧ status (.defSensor 40 4 1) shed = some .badField ∧ status (.defSensor 0 5 1) shed = some .badField
      ∧ status (.defSensor 0 4 2) shed = some .notFound ∧ status (.defSensor 0 0 99) shed = some .ok
      ∧ run.takesRequests = true ∧ status (.defSensor 0 0 0) run = some .wrongState := by decide +kernel

theorem witness_UnitSettingsAreTaken :
    run.takesRequests = true ∧ status (.setSensing 10 3600 5 10) run = some .ok
      ∧ status (.setSensing 9 3600 5 10) run = some .badField ∧ status (.setSensing 10 3601 5 10) run = some .badField
      ∧ status (.setSensing 10 3600 4 10) run = some .badField ∧ status (.setSensing 10 3600 600 11) run = some .badField
      ∧ status (.setAir 1 500 1 200 60) run = some .ok ∧ status (.setAir 0 500 1 200 60) run = some .badField
      ∧ status (.setAir 500 501 1 200 60) run = some .badField ∧ status (.setAir 1 1 201 200 60) run = some .badField
      ∧ status (.setAir 1 1 200 0 60) run = some .badField ∧ status (.setAir 1 1 1 1 1801) shed = some .badField
      ∧ status (.setAir 1 1 1 1 1800) shed = some .ok ∧ status (.setHeat 150 60 1800) run = some .ok
      ∧ status (.setHeat 0 1 60) shed = some .ok ∧ status (.setHeat 151 1 60) shed = some .badField
      ∧ status (.setHeat 0 0 60) shed = some .badField ∧ status (.setHeat 0 61 60) shed = some .badField
      ∧ status (.setHeat 0 1 59) shed = some .badField ∧ shed.takesRequests = true := by decide +kernel

theorem witness_SensorsAge :
    let sensor (x : Sensor) : State :=
      { run with readings := { run.readings with sensors := run.readings.sensors.set 4 x } }
    let co : Option SensorDef := some ⟨.co, 0⟩
    run.part.op = .run
      ∧ ((after (.quietTimerExpiry 4) (sensor ⟨co, .fresh, some 30, some 0, none, 0⟩)).readings.sensors.get 4)
          = ⟨co, .quiet, some 30, none, some 200, 1⟩
      ∧ ((after (.quietTimerExpiry 4) (sensor ⟨co, .awaiting, none, some 0, none, 0⟩)).readings.sensors.get 4)
          = ⟨co, .awaiting, none, none, some 200, 1⟩
      ∧ ((after (.dueTimerExpiry 4) (sensor ⟨co, .quiet, some 30, none, some 0, 2⟩)).readings.sensors.get 4)
          = ⟨co, .quiet, some 30, none, some 200, 3⟩
      ∧ ((after (.dueTimerExpiry 4) (sensor ⟨co, .quiet, some 30, none, some 0, 3⟩)).readings.sensors.get 4)
          = ⟨co, .lost, none, none, none, 0⟩ := by decide +kernel

theorem witness_SampleExpirySamplesAndCloses :
    let fifth : State := { run with air := { run.air with clock := some ⟨some 0, 5⟩ } }
    run.part.op = .run ∧ run.air.clock = some ⟨some 100, 0⟩ ∧ fifth.air.clock = some ⟨some 0, 5⟩
      ∧ ((after .sampleExpiry run).air.zones.get 0).co.ring = []
      ∧ ((after .sampleExpiry fifth).air.zones.get 0).co.ring = [⟨0, 0⟩]
      ∧ run.zones.get 0 ≠ .undefined ∧ run.readings.monitors 0 .co = true
      ∧ flights (after (.reading 4 30) run)
          = [.heldValueNotice 0 .co (some 30)]
      ∧ ((after .sampleExpiry (after (.reading 4 30) run)).air.zones.get 0).co.dose = 30
      ∧ ((after .sampleExpiry (after (.reading 4 42) (after (.reading 4 30) run))).air.zones.get 0).co.dose = 42
      ∧ ((after (.reading 4 30) (after .sampleExpiry run)).air.zones.get 0).co.dose = 0
      ∧ flights (after .sampleExpiry (after (.reading 4 30) run)) = [] := by decide +kernel

theorem witness_AirStageIsDecided :
    let stageAfter (ratio stage : Nat) (hold : Timer) (purge : Option Purge) : Nat :=
      ({ AirZone.atRest with
          co := { GasAir.atRest with shortRatio := ratio }, stage := stage, hold := hold, purge := purge }.recompute
        Stored.builtIn.air fun g => g == Gas.co).stage
    stageAfter 39 0 none none = 0 ∧ stageAfter 40 0 none none = 1 ∧ stageAfter 60 0 none none = 2
      ∧ stageAfter 80 0 none none = 3 ∧ stageAfter 99 0 none none = 3 ∧ stageAfter 100 0 none none = 4
      ∧ stageAfter 39 3 (some 1) none = 3 ∧ stageAfter 39 3 none none = 1 ∧ stageAfter 30 3 none none = 1
      ∧ stageAfter 29 3 none none = 0 ∧ stageAfter 0 0 none (some ⟨5, false⟩) = 2 := by decide +kernel

/-- Zone Z0 in RUN with a record at the Air Unit. -/
def aired (a : AirZone) : State := { run with air := { run.air with zones := run.air.zones.set 0 a } }

theorem witness_AirNoticesAreTaken :
    let zone (c : Instr) (s : State) : AirZone := (after c s).air.zones.get 0
    run.part.op = .run ∧ run.zones.get 0 ≠ .undefined ∧ run.readings.monitors 0 .co = true
      ∧ run.inTurn (.heldValueNotice 0 .co none) = true ∧ run.inTurn .airMinuteExpiryNotice = true
      ∧ run.readings.monitors 0 .no2 = false ∧ (zone (.heldValueNotice 0 .co (some 200)) run).stage = 4
      ∧ queued (after (.heldValueNotice 0 .co (some 200)) run)
          = [.airTrip 0 100 100 ⟨true, 100, some 200, true, false⟩ ⟨false, 0, none, false, false⟩]
      ∧ (zone (.heldValueNotice 0 .co (some 199)) run).co.latch = false
      ∧ (zone (.heldValueNotice 0 .co (some 100))
          (aired { AirZone.atRest with co := { GasAir.atRest with latch := true } })).co.latch = true
      ∧ (zone (.heldValueNotice 0 .co (some 99))
          (aired { AirZone.atRest with co := { GasAir.atRest with latch := true } })).co.latch = false
      ∧ zone (.heldValueNotice 0 .no2 (some 200)) run = run.air.zones.get 0
      ∧ (zone (.airSubstituteFlagNotice 0 .co true) run).stage = 3
      ∧ (zone (.airProfileChangeNotice 0 1) run).purge = some ⟨20, false⟩
      ∧ (zone (.airProfileChangeNotice 0 1) run).stage = 2 ∧ (zone (.airProfileChangeNotice 0 2) run).purge = none
      ∧ (zone .airMinuteExpiryNotice (aired { AirZone.atRest with purge := some ⟨1, false⟩ })).purge = none
      ∧ (zone .airMinuteExpiryNotice (aired { AirZone.atRest with purge := some ⟨20, true⟩ })).purge = some ⟨20, false⟩
      ∧ (zone (.airProfileChangeNotice 0 1)
          { run with inFlight := [⟨0, .airMinuteExpiryNotice⟩, ⟨0, .airProfileChangeNotice 0 1⟩] }).purge
          = some ⟨20, true⟩ := by
  decide +kernel

theorem witness_HeatStageIsDecided :
    run.zones.get 0 ≠ .undefined ∧ run.zones.get 1 ≠ .undefined
      ∧ heats none (heatZone 0 none false false (some 100) false) 0 none false false 100 false = true
      ∧ heats none (heatZone 0 none false false (some 90) false) 1 (some 1800) false false 100 false = true
      ∧ heats none (heatZone 0 none false false (some 75) false) 2 (some 1800) false false 100 false = true
      ∧ heats none (heatZone 0 none false false (some 70) false) 3 (some 1800) false false 100 true = true
      ∧ heats none (heatZone 0 none true false (some 60) false) 3 (some 1800) false false 100 true = true
      ∧ heats none (heatZone 0 none true false (some 59) false) 3 (some 1800) true false 100 true = true
      ∧ heats none (heatZone 3 none false false none false) 1 none false false 100 false = true := by decide +kernel

/-- Zone Z0 in RUN with a record at the Heat Unit. -/
def heatedZone (z : HeatZone) : State := { run with heat := { run.heat with zones := run.heat.zones.set 0 z } }

theorem witness_HeatNoticesAreTaken :
    let z : HeatZone := { HeatZone.atRest 0 with temp := some 40, hold := some 0, stage := 1 }
    run.inTurn (.zoneTemperatureNotice 0 (some 20)) = true ∧ run.inTurn (.lookaheadNotice none) = true
      ∧ run.part.op = .run ∧ run.zones.get 0 ≠ .undefined ∧ ((heatedZone z).heat.zones.get 0).hold ≠ none
      ∧ queued (after (.heatStageHoldExpiry 0) (heatedZone z)) = [.frost 0 40 50 1 false 0]
      ∧ flights (after (.zoneTemperatureNotice 0 (some 20)) run) = [.heatNotice 0 true true [(0, 3)]]
      ∧ (after .heatShiftBoundary run).heat.bar = true
      ∧ (after (.lookaheadNotice (some ⟨1, 1⟩)) { run with heat := { run.heat with bar := true } }).heat.bar = false := by
  decide +kernel

theorem witness_LightNoticesAreTaken :
    run.part.op = .run ∧ run.zones.get 0 ≠ .undefined ∧ (run.doors.doors.get 0).defn = some someDoor ∧ someDoor.zone = 0
      ∧ run.inTurn (.zoneLuxNotice 0 7) = true ∧ run.inTurn (.dockLightNotice 0 true) = true
      ∧ flights (after (.lightProfileChangeNotice 1 1) run) = [.lightNotice 1 20 [(4, 80)]]
      ∧ flights (after (.zoneLuxNotice 1 19) run) = [] := by decide +kernel

/-! ### Witnesses: the power budget -/

theorem witness_BudgetNoticesRunPass :
    standing.part.op = .run ∧ standing.zones.get 1 ≠ .undefined ∧ standing.inTurn (.curtainRequestNotice 5 0) = true
      ∧ ((standing.loads.get 5).defn.map fun f => f.type) = some .curtain
      ∧ ((after (.curtainRequestNotice 5 0) standing).loads.get 5).drive = 0
      ∧ (after (.siteProfileNotice 1000 .static) standing).budget.committedDraw ≤ 1000
      ∧ ((after (.exhaustNotice 1 0 [(0, 0)]) standing).loads.get 0).grant = 0
      ∧ ((after (.budgetSubstituteFlagNotice 2 .co true) standing).loads.get 4).priority = 3 := by decide +kernel

theorem witness_DemandCapIsSetAndEnded :
    let held : State := capped ⟨1000, .minutes 1⟩ standing
    standing.takesRequests = true ∧ status (.cap 20000 1440) standing = some .ok
      ∧ status (.cap 20001 0) standing = some .clamped ∧ status (.cap (-1) 0) standing = some .clamped
      ∧ status (.cap 0 1441) standing = some .badField ∧ shed.takesRequests = true
      ∧ status (.cap 0 1440) shed = some .wrongState ∧ status .capEnd shed = some .wrongState
      ∧ status .capEnd standing = some .notFound ∧ held.takesRequests = true ∧ status .capEnd held = some .ok
      ∧ held.part.op = .run ∧ held.budget.cap = some ⟨1000, .minutes 1⟩
      ∧ (after .capExpiry held).budget.inForce = 1200 := by decide +kernel

/-- L3 of section 8.10 after the cap has ended: granted stage 2, waiting for its min-off timer. -/
def waiting (minOff stagger : Timer) : State :=
  { standing with
    loads := standing.loads.set 3 { standing.loads.get 3 with drive := 0, minOff := minOff }
    budget := { standing.budget with queue := [3], stagger := stagger } }

theorem witness_BudgetTimersExpire :
    run.part.op = .run ∧ run.budget.shed = [] ∧ (after .shedRotationExpiry run).budget.tie = 0
      ∧ standing.budget.shed ≠ [] ∧ (after .shedRotationExpiry standing).budget.tie = 5
      ∧ ((after (.minOffExpiry 3) (waiting (some 0) none)).loads.get 3).drive = 2
      ∧ (after (.minOffExpiry 3) (waiting (some 0) none)).budget.stagger = some 200
      ∧ ((after (.minOffExpiry 3) (waiting (some 0) (some 7))).loads.get 3).drive = 0
      ∧ ((after .staggerExpiry (waiting none (some 0))).loads.get 3).drive = 2
      ∧ (after .staggerExpiry (waiting (some 9) (some 0))).budget.stagger = none := by decide +kernel

theorem witness_PassServesByPriority :
    (∀ n f, (standing.loads.get n).defn = some f →
        f.draws.Pairwise (· ≤ ·) ∧ (f.type ≠ .light → (standing.loads.get n).request ≤ f.draws.length))
      ∧ standing.budget.inForce = 1200 ∧ (State.pass standing).budget.protectedDraw = 174
      ∧ (State.pass { standing with budget := { standing.budget with inForce := 173 } }).budget.committedDraw = 174 := by
  refine ⟨?_, by decide +kernel⟩
  have key : ∀ n : LoadNo, (standing.loads.get n).defn.all (fun f =>
      decide (f.draws.Pairwise (· ≤ ·)) && (f.type == .light || decide ((standing.loads.get n).request ≤ f.draws.length)))
        = true := by decide +kernel
  intro n f h
  have := key n
  simp only [h, Option.all_some, Bool.and_eq_true, Bool.or_eq_true, decide_eq_true_eq, beq_iff_eq] at this
  exact ⟨this.1, fun hl => this.2.resolve_left hl⟩

theorem witness_PassMovesDriveLevels :
    let cut : State := { standing with budget := { standing.budget with inForce := 800 } }
    let stopped : State := State.pass (waiting none none)
    standing.budget.stagger = none ∧ (standing.loads.get 3).drive = 2 ∧ ((State.pass cut).loads.get 3).drive = 0
      ∧ ((State.pass cut).loads.get 3).request = 2 ∧ (State.pass cut).budget.tie = 4
      ∧ ((State.pass cut).loads.get 3).minOff = some 1200 ∧ (State.pass cut).link = cut.link
      ∧ ((waiting none none).loads.get 3).drive = 0 ∧ (stopped.loads.get 3).drive = 2
      ∧ stopped.budget.stagger = some 200 ∧ ((State.pass (waiting none (some 9))).loads.get 3).drive = 0
      ∧ (State.pass cut).budget.shed = [4, 8, 9, 3] ∧ (waiting none none).budget.queue = [3] ∧ stopped.budget.queue = []
      ∧ (State.pass (waiting none (some 9))).budget.queue = [3] ∧ (State.pass (waiting (some 9) none)).budget.queue = [3]
      ∧ queued (State.pass { standing with budget := { standing.budget with shed := [] } })
          = [.shedBegin 1200 174 1200 [4, 8, 9]]
      ∧ queued (State.pass { standing with budget := { standing.budget with inForce := 2000 } })
          = [.shedEnd 2000 1326] := by
  decide +kernel

/-! ### Witnesses: invariants -/

theorem witness_StepKeepsBudgetSound : BudgetSound standing ∧ goesOn (step standing) = true := by
  refine ⟨⟨?_, by decide +kernel, by decide +kernel, by decide +kernel, by decide +kernel, by decide +kernel,
    fun h => absurd rfl h⟩, by decide +kernel⟩
  have key : ∀ n : LoadNo,
      let l := standing.loads.get n
      (l.drive = 0 ∨ l.drive = l.grant) ∧ l.grant ≤ l.request ∧ l.request ≤ l.maxLevel
        ∧ (n ∈ standing.budget.shed ↔ l.grant < l.request) ∧ (n ∈ standing.budget.queue ↔ 0 < l.grant ∧ l.drive = 0) := by
    decide +kernel
  intro n
  obtain ⟨h₁, h₂, h₃, h₄, h₅⟩ := key n
  exact ⟨h₁, h₂, h₃, h₄, h₅⟩

theorem witness_StepKeepsLinkSound : LinkSound base ∧ goesOn (step base) = true := by
  refine ⟨⟨?_, ?_, ?_, ?_, ?_, ?_⟩, ?_⟩ <;> decide +kernel

theorem witness_StepKeepsDoorsSound : DoorsSound run ∧ goesOn (step run) = true := by
  refine ⟨⟨?_, fun h => absurd rfl h⟩, by decide +kernel⟩
  have key : ∀ n : DoorNo,
      let d := run.doors.doors.get n
      (d.state = .disabled ↔ d.enabled = false) ∧ (d.dwell.isSome = true ↔ d.state = .opened) ∧ d.opens ≤ 255
        ∧ d.entries ≤ 255 := by decide +kernel
  intro n
  obtain ⟨h₁, h₂, h₃, h₄⟩ := key n
  exact ⟨h₁, h₂, h₃, h₄⟩

theorem witness_StepKeepsStagesSound : StagesSound run ∧ goesOn (step run) = true := by
  refine ⟨⟨?_, by decide +kernel, by decide +kernel⟩, by decide +kernel⟩
  have key : ∀ z : Zone,
      let a := run.air.zones.get z
      a.stage ≤ 4 ∧ (100 ≤ a.raw → a.stage = 4) ∧ (a.co.ring.length ≤ 15 ∧ a.no2.ring.length ≤ 15)
        ∧ (a.co.shortRatio ≤ 255 ∧ a.co.shiftRatio ≤ 255 ∧ a.no2.shortRatio ≤ 255 ∧ a.no2.shiftRatio ≤ 255) := by
    decide +kernel
  intro z
  obtain ⟨h₁, h₂, h₃, h₄⟩ := key z
  exact ⟨h₁, h₂, h₃, h₄⟩

end Sys2Proof.Tests
end

section
/-! SUPPORT. Requests answered in general: a refusal, an acceptance, and what does not depend on the request that is
handed to a block. -/

namespace Sys2Proof.Machine

/-- A request that its block refuses is answered and changes nothing else. -/
theorem answersOnly_of_refuse {c : Instr} {act : State → State × Answer} {st : Status} {s : State}
    (hexec : exec c s = request c act s) (htakes : s.takesRequests = true)
    (hact : act (s.takeHanded c) = refuse st (s.takeHanded c)) : AnswersOnly c st [] s := by
  obtain ⟨t, ht, hreply, hframe⟩ := request_answers (a := Answer.bare st) htakes hact
  exact ⟨t, hexec.trans ht, hreply, hframe⟩

/-- A request that its block accepts completes with OK on the state of its effects, where these leave the operating
state and the handed request alone. -/
theorem completes_of_accept {c : Instr} {act : State → State × Answer} {s b : State}
    (hexec : exec c s = request c act s) (htakes : s.takesRequests = true)
    (hact : act (s.takeHanded c) = accept (b.takeHanded c)) (hpart : b.part = s.part)
    (hhanded : b.link.handed = s.link.handed) : Completes c .ok [] s b := by
  have hop : b.part.op ≠ .starting := by
    rw [hpart]; simp [State.takesRequests] at htakes; exact htakes.1
  obtain ⟨t, ht, hreply, hframe⟩ := request_replied (a := Answer.bare .ok) htakes hact hop
    (by simp [State.inService, hhanded])
  exact ⟨t, hexec.trans ht, hreply, hframe⟩

/-- The status of the reply that a request leaves formed is the one its block answers. -/
theorem request_answered_status {c : Instr} {act : State → State × Answer} {s t : State} {r : Reply}
    (htakes : s.takesRequests = true) (h : request c act s = .next t) (hr : t.link.answered = some r) :
    r.status = (act (s.takeHanded c)).2.status := by
  simp only [request, htakes, if_true, finish, Host.Outcome.next.injEq] at h
  subst h
  rw [State.settle_link] at hr
  split at hr
  · simp only [Link.answered, Link.formReply, Option.some.injEq] at hr
    rw [← hr]
  · rw [Link.answered_kick_formReply, Option.some.injEq] at hr
    rw [← hr]

/-- Where every answer but OK comes with an unchanged state, a reply with another status shows that nothing but the
Link Unit changed. -/
theorem request_refused_frame {c : Instr} {act : State → State × Answer} {s t : State} {r : Reply}
    (htakes : s.takesRequests = true) (hact : ∀ u, (act u).2.status ≠ .ok → (act u).1 = u)
    (h : request c act s = .next t) (hr : t.link.answered = some r) (hst : r.status ≠ .ok) :
    s.onlyChanges t [.link] := by
  have hsame : (act (s.takeHanded c)).1 = s.takeHanded c :=
    hact _ (by rwa [← request_answered_status htakes h hr])
  simp only [request, htakes, if_true, finish, Host.Outcome.next.injEq, hsame] at h
  subst h
  intro region hregion
  cases region <;> simp_all [State.same]

/-- Setting the zone records commutes with taking the handed request. -/
theorem State.takeHanded_withZones (c : Instr) (s : State) (zones : Table 12 ZoneKind) :
    ({ s with zones := zones } : State).takeHanded c = { s.takeHanded c with zones := zones } := by
  unfold State.takeHanded State.inService; split <;> rfl

/-- Setting the load records commutes with taking the handed request. -/
theorem State.takeHanded_withLoads (c : Instr) (s : State) (loads : Table 64 Load) :
    ({ s with loads := loads } : State).takeHanded c = { s.takeHanded c with loads := loads } := by
  unfold State.takeHanded State.inService; split <;> rfl

theorem State.running_iff (s : State) : s.running = true ↔ s.part.op = .run := by simp [State.running]

/-! ### Identifiers of requests -/

@[simp] theorem number?_val {n : Nat} (i : Fin n) : number? n i.val = some i := by simp [number?]

theorem number?_eq_none {n k : Nat} (h : n ≤ k) : number? n k = none := by simp [number?, h]

theorem number?_eq_some_iff {n k : Nat} {i : Fin n} : number? n k = some i ↔ k = i.val := by
  constructor
  · intro h
    unfold number? at h
    split at h
    · cases h; rfl
    · cases h
  · rintro rfl; exact number?_val i

end Sys2Proof.Machine
end

section
/-! SUPPORT. The members of a zone, and DEF-ZONE (chapter 1, section 1.1). -/

namespace Sys2Proof.Machine

/-- Some entry of a table satisfies a test exactly where some numbered record does. -/
theorem any_entries_iff {n : Nat} {α : Type} (t : Table n α) (p : α → Bool) :
    t.entries.any p = true ↔ ∃ i, p (t.get i) = true := by
  simp [Table.entries_eq]

theorem Door.inZone_iff (d : Door) (z : Zone) : d.inZone z = true ↔ (d.defn.map fun f => f.zone) = some z := by
  unfold Door.inZone; cases d.defn <;> simp

theorem Sensor.inZone_iff (n : Sensor) (z : Zone) : n.inZone z = true ↔ (n.defn.map fun f => f.zone) = some z := by
  unfold Sensor.inZone; cases n.defn <;> simp

theorem Load.inZone_iff (l : Load) (z : Zone) : l.inZone z = true ↔ (l.defn.map fun f => f.zone) = some z := by
  unfold Load.inZone; cases l.defn <;> simp

/-- A zone has a member exactly where the definition of a door, a sensor or a load names it. -/
theorem State.hasMember_iff (s : State) (z : Zone) :
    s.hasMember z = true ↔
      (∃ d : DoorNo, ((s.doors.doors.get d).defn.map fun f => f.zone) = some z)
      ∨ (∃ n : SensorNo, ((s.readings.sensors.get n).defn.map fun f => f.zone) = some z)
      ∨ ∃ l : LoadNo, ((s.loads.get l).defn.map fun f => f.zone) = some z := by
  simp only [State.hasMember, Bool.or_eq_true, any_entries_iff, Door.inZone_iff, Sensor.inZone_iff, Load.inZone_iff,
    or_assoc]

@[simp] theorem State.takeHanded_hasMember (c : Instr) (s : State) (z : Zone) :
    (s.takeHanded c).hasMember z = s.hasMember z := by
  simp [State.hasMember]

theorem zoneKind?_eq_none {k : Nat} (h : 3 ≤ k) : zoneKind? k = none := by
  match k, h with
  | k + 3, _ => rfl

theorem exec_defZone (zone kind : Nat) (s : State) : exec (.defZone zone kind) s = execDefZone zone kind s := rfl

/-- DEF-ZONE with a zone or a kind out of range is refused (R2). -/
theorem defZone_badField {s : State} {zone kind : Nat} (htakes : s.takesRequests = true)
    (h : 12 ≤ zone ∨ 3 ≤ kind) : AnswersOnly (.defZone zone kind) .badField [] s := by
  refine answersOnly_of_refuse ((exec_defZone _ _ s).trans rfl) htakes ?_
  rcases h with hzone | hkind
  · simp [number?_eq_none hzone]
  · simp [zoneKind?_eq_none hkind]

section
variable {s : State} {z : Zone} {kind : Nat} {k : ZoneKind}

/-- DEF-ZONE in RUN is refused (R2). -/
theorem defZone_wrongState (htakes : s.takesRequests = true) (hkind : zoneKind? kind = some k)
    (hrun : s.running = true) : AnswersOnly (.defZone z kind) .wrongState [] s := by
  refine answersOnly_of_refuse ((exec_defZone _ _ s).trans rfl) htakes ?_
  simp [hkind, hrun]

/-- DEF-ZONE that would undefine a zone with members, or make a zone with doors a floor zone, is refused (R2). -/
theorem defZone_inUse (htakes : s.takesRequests = true) (hkind : zoneKind? kind = some k) (hrun : s.running = false)
    (huse : (k = .undefined ∧ s.hasMember z = true) ∨ (k = .floor ∧ s.doors.doors.entries.any (·.inZone z) = true)) :
    AnswersOnly (.defZone z kind) .inUse [] s := by
  refine answersOnly_of_refuse ((exec_defZone _ _ s).trans rfl) htakes ?_
  rcases huse with ⟨rfl, hmember⟩ | ⟨rfl, hdoor⟩
  · simp [hkind, hrun, hmember]
  · simp only [number?_val, hkind, State.takeHanded_running, hrun, State.takeHanded_doors, hdoor]
    simp

/-- DEF-ZONE that passes its checks gives the zone record its kind (R2). -/
theorem defZone_accepted (htakes : s.takesRequests = true) (hkind : zoneKind? kind = some k)
    (hrun : s.running = false) (hmember : ¬(k = .undefined ∧ s.hasMember z = true))
    (hdoor : ¬(k = .floor ∧ s.doors.doors.entries.any (·.inZone z) = true)) :
    Completes (.defZone z kind) .ok [] s { s with zones := s.zones.set z k } := by
  refine completes_of_accept ((exec_defZone _ _ s).trans rfl) htakes ?_ rfl rfl
  simp only [number?_val, hkind, State.takeHanded_running, hrun, State.takeHanded_hasMember, State.takeHanded_doors,
    if_neg hmember, if_neg hdoor, State.takeHanded_withZones, State.takeHanded_zones]
  simp

end

/-- Settles O20: the four lemmas above, with the members of a zone as R2 names them, for each of the three kinds. -/
theorem defZoneIsChecked : Obligations.DefZoneIsChecked := by
  intro s zone kind htakes
  refine ⟨defZone_badField htakes, ?_⟩
  rintro z rfl hle
  have hdoor := any_entries_iff s.doors.doors (·.inZone z)
  simp only [Door.inZone_iff] at hdoor
  have hmember := s.hasMember_iff z
  have hstopped : s.part.op ≠ .run → s.running = false := fun h => by simpa [State.running] using h
  obtain rfl | rfl | rfl : kind = 0 ∨ kind = 1 ∨ kind = 2 := by omega
  · refine ⟨fun hrun => defZone_wrongState htakes rfl (s.running_iff.2 hrun), fun hop _ huse => ?_, nofun,
      fun hop hfree _ => ?_⟩
    · exact defZone_inUse htakes rfl (hstopped hop) (.inl ⟨rfl, hmember.2 huse⟩)
    · exact defZone_accepted htakes rfl (hstopped hop) (fun h => hfree ⟨rfl, hmember.1 h.2⟩) nofun
  · refine ⟨fun hrun => defZone_wrongState htakes rfl (s.running_iff.2 hrun), nofun, nofun, fun hop _ _ => ?_⟩
    exact defZone_accepted htakes rfl (hstopped hop) nofun nofun
  · refine ⟨fun hrun => defZone_wrongState htakes rfl (s.running_iff.2 hrun), nofun, fun hop _ huse => ?_,
      fun hop _ hfree => ?_⟩
    · exact defZone_inUse htakes rfl (hstopped hop) (.inr ⟨rfl, hdoor.2 huse⟩)
    · exact defZone_accepted htakes rfl (hstopped hop) nofun fun h => hfree ⟨rfl, hdoor.1 h.2⟩

end Sys2Proof.Machine
end

section
/-! SUPPORT. The order in which a pass serves the loads (R138, R140). -/

namespace Sys2Proof.Machine

/-- The place of a load in the tie order: its distance from the tie pointer, round through 63 (R140). -/
def tieRank (tie n : LoadNo) : Nat := (n.val + 64 - tie.val) % 64

/-- A load stands before another in the order of service: by effective priority, then by the tie order (R140). -/
def ServedBefore (loads : Table 64 Load) (tie m n : LoadNo) : Prop :=
  (loads.get n).priority < (loads.get m).priority
  ∨ ((loads.get m).priority = (loads.get n).priority ∧ tieRank tie m < tieRank tie n)

theorem mem_tieOrder (tie n : LoadNo) : n ∈ tieOrder tie := by
  simp [tieOrder, le_or_gt tie n]

theorem tieOrder_pairwise (tie : LoadNo) : (tieOrder tie).Pairwise fun m n => tieRank tie m < tieRank tie n := by
  have hsorted : ∀ p : LoadNo → Bool, ((List.finRange 64).filter p).Pairwise (· < ·) :=
    fun p => (List.pairwise_lt_finRange 64).filter p
  unfold tieOrder tieRank
  refine List.pairwise_append.2 ⟨(hsorted _).imp_of_mem ?_, (hsorted _).imp_of_mem ?_, ?_⟩ <;>
    · simp only [List.mem_filter, decide_eq_true_eq, Fin.le_def, Fin.lt_def]
      intros
      omega

theorem mem_serveOrder {loads : Table 64 Load} {tie n : LoadNo} :
    n ∈ serveOrder loads tie ↔ (loads.get n).priority ≤ 3 := by
  simp only [serveOrder, List.mem_flatMap, List.mem_filter, mem_tieOrder, true_and, beq_iff_eq, List.mem_cons,
    List.not_mem_nil, or_false, exists_eq_right']
  omega

/-- The order of service runs through the priorities from the highest, and through each in the tie order. -/
theorem serveOrder_pairwise (loads : Table 64 Load) (tie : LoadNo) :
    (serveOrder loads tie).Pairwise (ServedBefore loads tie) := by
  refine List.pairwise_flatMap.2 ⟨fun p _ => ?_, ?_⟩
  · refine ((tieOrder_pairwise tie).filter _).imp_of_mem fun {m n} hm hn h => .inr ⟨?_, h⟩
    simp only [List.mem_filter, beq_iff_eq] at hm hn
    rw [hm.2, hn.2]
  · have hdesc : [3, 2, 1, 0].Pairwise fun p q : Nat => q < p := by decide
    refine hdesc.imp fun {p q} hpq m hm n hn => .inl ?_
    simp only [List.mem_filter, beq_iff_eq] at hm hn
    rwa [hm.2, hn.2]

theorem effectivePriority_le (b : Budget) (l : Load) : effectivePriority b l ≤ 3 := by
  unfold effectivePriority
  split
  · omega
  · dsimp only
    repeat' split
    all_goals omega

end Sys2Proof.Machine
end

section
/-! SUPPORT. What the grants of a pass and its release attempt do to the loads and to the Budget Unit, field by field
(R16, R139 to R144). -/

namespace Sys2Proof.Machine

/-! ### The loads after the grants -/

/-- A load after the grants of a pass: it takes its effective priority, then some grant. -/
theorem passLoads_get (b : Budget) (loads : Table 64 Load) (n : LoadNo) :
    ∃ g, (passLoads b loads).get n
      = Load.regrant g { loads.get n with priority := effectivePriority b (loads.get n) } := by
  unfold passLoads
  exact ⟨_, by rw [Table.get_zipWith, Table.get_map]⟩

section
variable (b : Budget) (loads : Table 64 Load) (n : LoadNo)

@[simp] theorem passLoads_defn : ((passLoads b loads).get n).defn = (loads.get n).defn := by
  obtain ⟨g, h⟩ := passLoads_get b loads n; rw [h]; rfl

@[simp] theorem passLoads_request : ((passLoads b loads).get n).request = (loads.get n).request := by
  obtain ⟨g, h⟩ := passLoads_get b loads n; rw [h]; rfl

@[simp] theorem passLoads_priority :
    ((passLoads b loads).get n).priority = effectivePriority b (loads.get n) := by
  obtain ⟨g, h⟩ := passLoads_get b loads n; rw [h]; rfl

/-- A running load runs at its grant, and one that stands still stays so (R143). -/
theorem passLoads_drive : ((passLoads b loads).get n).drive
    = if 0 < (loads.get n).drive then ((passLoads b loads).get n).grant else 0 := by
  obtain ⟨g, h⟩ := passLoads_get b loads n; rw [h]; rfl

/-- A drive level that falls to 0 starts the min-off timer (R16). -/
theorem passLoads_minOff : ((passLoads b loads).get n).minOff
    = if 0 < (loads.get n).drive ∧ ((passLoads b loads).get n).grant = 0 then minOffStart (loads.get n)
      else (loads.get n).minOff := by
  obtain ⟨g, h⟩ := passLoads_get b loads n; rw [h]; rfl

theorem passLoads_short :
    ((passLoads b loads).get n).short = decide (((passLoads b loads).get n).grant < (loads.get n).request) := by
  simp [Load.short]

/-- The loads that wait after the grants are those that are granted a level and stood still before. -/
theorem passLoads_waits : ((passLoads b loads).get n).waits
    = (decide (0 < ((passLoads b loads).get n).grant) && decide ((loads.get n).drive = 0)) := by
  rw [Load.waits, passLoads_drive]
  by_cases hdrive : (loads.get n).drive = 0
  · simp [hdrive]
  · have hpos : 0 < (loads.get n).drive := Nat.pos_of_ne_zero hdrive
    cases hgrant : ((passLoads b loads).get n).grant <;> simp [hdrive, hpos]

end

/-! ### The lists after the grants -/

/-- The loads that join the shed list stand in the order of service, and are those cut short that were not on it. -/
theorem passShed_eq (b : Budget) (loads : Table 64 Load) (hpriority : ∀ n, (loads.get n).priority ≤ 3) :
    ∃ joins : List LoadNo, passShed b loads = (b.shed.filter fun n => (loads.get n).short) ++ joins
      ∧ joins.Pairwise (ServedBefore loads b.tie) ∧ ∀ n, n ∈ joins ↔ (loads.get n).short = true ∧ n ∉ b.shed := by
  refine ⟨_, rfl, (serveOrder_pairwise loads b.tie).filter _, fun n => ?_⟩
  simp [mem_serveOrder, hpriority]

/-- The loads that join the restart queue do so once each, and are those that wait and were not in it. -/
theorem passQueue_eq (k : Nat) (b : Budget) (loads : Table 64 Load) :
    ∃ joins : List LoadNo, passQueue k b loads = (b.queue.filter fun n => (loads.get n).waits) ++ joins
      ∧ joins.Nodup ∧ ∀ n, n ∈ joins ↔ (loads.get n).waits = true ∧ n ∉ b.queue := by
  have hperm := arrange_perm k (queueJoins b loads)
  refine ⟨_, rfl, hperm.nodup_iff.2 ((List.nodup_finRange 64).filter _), fun n => ?_⟩
  rw [hperm.mem_iff]
  simp [queueJoins]

/-! ### The release attempt (R144) -/

/-- Where the stagger timer runs, or every queued load is in min-off, nothing is released. -/
theorem State.attempt_of_no_release {s : State}
    (h : s.budget.stagger ≠ none ∨ ∀ n ∈ s.budget.queue, (s.loads.get n).minOff ≠ none) : s.attempt = s := by
  unfold State.attempt
  cases hstagger : s.budget.stagger with
  | some k => rfl
  | none =>
    have hfirst : firstEligible s.loads s.budget.queue = none :=
      List.find?_eq_none.2 fun n hn => by simpa using (h.resolve_left (by simp [hstagger])) n hn
    simp [hfirst]

/-- The release of a load. -/
def State.release (n : LoadNo) (s : State) : State :=
  { s with
    loads := s.loads.modify n Load.start
    budget := { s.budget with queue := s.budget.queue.erase n, stagger := staggerFor (s.loads.get n) } }

/-- Where the stagger timer is idle, the first queued load that is not in min-off is released. -/
theorem State.attempt_of_release {s : State} {before after : List LoadNo} {n : LoadNo}
    (hstagger : s.budget.stagger = none) (hqueue : s.budget.queue = before ++ n :: after)
    (hbefore : ∀ k ∈ before, (s.loads.get k).minOff ≠ none) (hn : (s.loads.get n).minOff = none) :
    s.attempt = s.release n := by
  have hfirst : firstEligible s.loads s.budget.queue = some n := by
    have hnone : before.find? (fun k => (s.loads.get k).minOff.isNone) = none :=
      List.find?_eq_none.2 fun k hk => by simpa using hbefore k hk
    rw [firstEligible, hqueue, List.find?_append, hnone]
    simp [hn]
  simp [State.attempt, hstagger, hfirst, State.release]

/-- A release attempt releases one load or changes nothing. -/
theorem State.attempt_cases (s : State) : s.attempt = s ∨ ∃ n, s.attempt = s.release n := by
  unfold State.attempt
  split
  · exact .inl rfl
  · split
    · exact .inl rfl
    · exact .inr ⟨_, rfl⟩

/-- A release attempt changes of a load its drive level alone. -/
theorem State.attempt_load (s : State) (n : LoadNo) :
    s.attempt.loads.get n = { s.loads.get n with drive := (s.attempt.loads.get n).drive } := by
  obtain h | ⟨m, h⟩ := s.attempt_cases
  · rw [h]
  · rw [h]; simp only [State.release, Table.get_modify]; split <;> rfl

/-- A release attempt changes of the Budget Unit its restart queue and stagger timer alone. -/
theorem State.attempt_budget (s : State) :
    s.attempt.budget = { s.budget with queue := s.attempt.budget.queue, stagger := s.attempt.budget.stagger } := by
  obtain h | ⟨m, h⟩ := s.attempt_cases
  · rw [h]
  · rw [h]; rfl

end Sys2Proof.Machine
end

section
/-! SUPPORT. An arbitration pass whole (R136, R139 to R144): its grants and lists, its reports, its release attempt. -/

namespace Sys2Proof.Machine

/-- A pass before its release attempt: grants, lists and sums are in place and the reports are raised. -/
def State.beforeAttempt (s : State) : State := s.regrant.raiseAll (shedReports s.budget s.regrant.budget)

theorem State.pass_eq (s : State) : s.pass = s.beforeAttempt.attempt := rfl

@[simp] theorem State.beforeAttempt_loads (s : State) : s.beforeAttempt.loads = passLoads s.budget s.loads := by
  simp [State.beforeAttempt, State.regrant]

theorem State.regrant_budget (s : State) :
    s.regrant.budget =
      { s.budget with
        shed := passShed s.budget (passLoads s.budget s.loads)
        queue := passQueue s.choices s.budget (passLoads s.budget s.loads)
        protectedDraw := protectedSum s.budget s.loads
        committedDraw := committedSum (passLoads s.budget s.loads) } := by
  simp [State.regrant]

@[simp] theorem State.beforeAttempt_budget (s : State) : s.beforeAttempt.budget = s.regrant.budget := by
  simp [State.beforeAttempt]

/-! ### The loads after a pass -/

section
variable (s : State) (n : LoadNo)

/-- A load after a pass is the load after its grants, but for the drive level of a load that is released. -/
theorem State.pass_load_eq :
    s.pass.loads.get n
      = { (passLoads s.budget s.loads).get n with drive := (s.pass.loads.get n).drive } := by
  have h := s.beforeAttempt.attempt_load n
  rwa [State.beforeAttempt_loads] at h

theorem State.pass_grant : (s.pass.loads.get n).grant = ((passLoads s.budget s.loads).get n).grant := by
  rw [s.pass_load_eq n]

theorem State.pass_minOff : (s.pass.loads.get n).minOff = ((passLoads s.budget s.loads).get n).minOff := by
  rw [s.pass_load_eq n]

theorem State.pass_priority : (s.pass.loads.get n).priority = ((passLoads s.budget s.loads).get n).priority := by
  rw [s.pass_load_eq n]

@[simp] theorem State.pass_defn : (s.pass.loads.get n).defn = (s.loads.get n).defn := by
  rw [s.pass_load_eq n]; exact passLoads_defn _ _ _

@[simp] theorem State.pass_request : (s.pass.loads.get n).request = (s.loads.get n).request := by
  rw [s.pass_load_eq n]; exact passLoads_request _ _ _

/-- The definition and the request of a load stay through a pass. -/
theorem State.pass_load_frame :
    s.pass.loads.get n =
      { s.loads.get n with
        grant := (s.pass.loads.get n).grant, drive := (s.pass.loads.get n).drive
        minOff := (s.pass.loads.get n).minOff, priority := (s.pass.loads.get n).priority } := by
  dsimp only
  rw [← s.pass_defn n, ← s.pass_request n]

/-- The drive level of a load that is not released: its grant where it was running, else 0 (R143). -/
def State.moved (s : State) (n : LoadNo) : Nat := if 0 < (s.loads.get n).drive then (s.pass.loads.get n).grant else 0

theorem State.beforeAttempt_drive : (s.beforeAttempt.loads.get n).drive = s.moved n := by
  rw [State.beforeAttempt_loads, passLoads_drive, State.moved, State.pass_grant]

/-- A running load whose grant is 0 starts its min-off timer, where it has a minimum off time (R16). -/
theorem State.pass_minOff_eq :
    (s.pass.loads.get n).minOff =
      match (s.loads.get n).defn with
      | some f =>
        if 0 < (s.loads.get n).drive ∧ (s.pass.loads.get n).grant = 0 ∧ f.minOff ≠ 0 then Timer.start f.minOff
        else (s.loads.get n).minOff
      | none => (s.loads.get n).minOff := by
  rw [State.pass_minOff, passLoads_minOff, State.pass_grant]
  unfold minOffStart
  cases (s.loads.get n).defn with
  | none => simp
  | some f => by_cases hzero : f.minOff = 0 <;> simp [hzero]

end

/-! ### The Budget Unit after a pass -/

theorem State.servedBefore_pass (s : State) :
    ServedBefore s.pass.loads s.budget.tie = ServedBefore (passLoads s.budget s.loads) s.budget.tie := by
  funext m n
  simp only [ServedBefore, State.pass_priority]

theorem State.pass_budget_eq (s : State) :
    s.pass.budget = { s.regrant.budget with queue := s.pass.budget.queue, stagger := s.pass.budget.stagger } := by
  have h := s.beforeAttempt.attempt_budget
  rwa [State.beforeAttempt_budget] at h

theorem State.pass_shed (s : State) : s.pass.budget.shed = passShed s.budget (passLoads s.budget s.loads) := by
  rw [s.pass_budget_eq, s.regrant_budget]

theorem State.pass_budget_frame (s : State) :
    s.pass.budget =
      { s.budget with
        shed := s.pass.budget.shed, queue := s.pass.budget.queue, protectedDraw := s.pass.budget.protectedDraw
        committedDraw := s.pass.budget.committedDraw, stagger := s.pass.budget.stagger } := by
  rw [s.pass_budget_eq, s.regrant_budget]

/-! ### The Link Unit after a pass (R141) -/

theorem State.raise_regrant_link (s : State) (body : Body) : (s.regrant.raise body).link = (s.raise body).link := by
  simp [State.raise_link]

/-- SHED-BEGIN where the shed list becomes non-empty, SHED-END where it becomes empty, and else no report (R141). -/
theorem State.pass_link (s : State) :
    s.pass.link =
      match s.budget.shed, s.pass.budget.shed with
      | [], [] => s.link
      | [], _ =>
        (s.raise (.shedBegin s.budget.inForce s.pass.budget.protectedDraw s.pass.budget.committedDraw
          s.pass.budget.shed)).link
      | _, [] => (s.raise (.shedEnd s.budget.inForce s.pass.budget.committedDraw)).link
      | _, _ => s.link := by
  have hinForce : s.regrant.budget.inForce = s.budget.inForce := by rw [s.regrant_budget]
  rw [s.pass_budget_eq, s.pass_eq, State.attempt_link, State.beforeAttempt, ← hinForce]
  unfold shedReports
  cases s.budget.shed <;> cases s.regrant.budget.shed <;>
    simp [State.raiseAll, State.raise_regrant_link]

end Sys2Proof.Machine
end

section
/-! The loads, the lists and the reports of an arbitration pass (chapter 8). -/

namespace Sys2Proof.Machine

/-- A pass changes the loads, the Budget Unit, the Link Unit and the count of free orders alone. -/
theorem State.pass_onlyChanges (s : State) : s.onlyChanges s.pass [.loads, .budget, .link, .choices] := by
  intro region hregion
  cases region <;> simp_all [State.same]

/-- The loads that a pass cuts short are those on the shed list, old ones in their places and new ones in the order of
service (R141). -/
theorem State.pass_shed_members (s : State) :
    ∃ joins : List LoadNo,
      s.pass.budget.shed
        = (s.budget.shed.filter fun n => decide ((s.pass.loads.get n).grant < (s.loads.get n).request)) ++ joins
      ∧ joins.Pairwise (ServedBefore s.pass.loads s.budget.tie)
      ∧ ∀ n, n ∈ joins ↔
          decide ((s.pass.loads.get n).grant < (s.loads.get n).request) = true ∧ n ∉ s.budget.shed := by
  have h := passShed_eq s.budget (passLoads s.budget s.loads) fun n => by
    rw [passLoads_priority]; exact effectivePriority_le _ _
  simp only [passLoads_short, ← State.pass_grant, ← State.pass_shed] at h
  rwa [State.servedBefore_pass]

/-- The restart queue before the release attempt: the loads that wait, old ones in their places and new ones at its
tail (R143, R144). -/
theorem State.regrant_queue_members (s : State) :
    ∃ joins : List LoadNo,
      s.regrant.budget.queue
        = (s.budget.queue.filter fun n =>
            decide (0 < (s.pass.loads.get n).grant) && decide ((s.loads.get n).drive = 0)) ++ joins
      ∧ joins.Nodup
      ∧ ∀ n, n ∈ joins ↔
          (decide (0 < (s.pass.loads.get n).grant) && decide ((s.loads.get n).drive = 0)) = true
            ∧ n ∉ s.budget.queue := by
  have h := passQueue_eq s.choices s.budget (passLoads s.budget s.loads)
  simp only [passLoads_waits, ← State.pass_grant] at h
  rwa [State.regrant_budget]

section
variable {s : State}

/-- A pass that releases no load leaves the restart queue and the stagger timer as its grants set them (R144). -/
theorem State.pass_of_no_release
    (h : s.budget.stagger ≠ none ∨ ∀ n ∈ s.regrant.budget.queue, (s.pass.loads.get n).minOff ≠ none) :
    s.pass.budget.queue = s.regrant.budget.queue ∧ s.pass.budget.stagger = s.budget.stagger
      ∧ ∀ n, (s.pass.loads.get n).drive = s.moved n := by
  have hstagger : s.regrant.budget.stagger = s.budget.stagger := by rw [s.regrant_budget]
  have hpass : s.pass = s.beforeAttempt := by
    rw [s.pass_eq]
    refine State.attempt_of_no_release ?_
    simpa only [State.beforeAttempt_budget, State.beforeAttempt_loads, hstagger, ← State.pass_minOff] using h
  refine ⟨by rw [hpass, State.beforeAttempt_budget], by rw [hpass, State.beforeAttempt_budget, hstagger], fun n => ?_⟩
  rw [← s.beforeAttempt_drive n, hpass]

/-- A pass releases the first queued load that is not in min-off, where the stagger timer is idle (R144). -/
theorem State.pass_of_release {before after : List LoadNo} {n : LoadNo} {f : LoadDef}
    (hstagger : s.budget.stagger = none) (hqueue : s.regrant.budget.queue = before ++ n :: after)
    (hbefore : ∀ k ∈ before, (s.pass.loads.get k).minOff ≠ none) (hn : (s.pass.loads.get n).minOff = none)
    (hdefn : (s.loads.get n).defn = some f) :
    s.pass.budget.queue = before ++ after ∧ s.pass.budget.stagger = Timer.start (RestartClass.stagger f.cls)
      ∧ (s.pass.loads.get n).drive = (s.pass.loads.get n).grant
      ∧ ∀ k, k ≠ n → (s.pass.loads.get k).drive = s.moved k := by
  have hpass : s.pass = s.beforeAttempt.release n := by
    rw [s.pass_eq]
    refine State.attempt_of_release (before := before) (after := after) ?_ ?_ ?_ ?_
    · rw [State.beforeAttempt_budget, State.regrant_budget]; exact hstagger
    · rw [State.beforeAttempt_budget]; exact hqueue
    · simpa only [State.beforeAttempt_loads, ← State.pass_minOff] using hbefore
    · simpa only [State.beforeAttempt_loads, ← State.pass_minOff] using hn
  have hfresh : n ∉ before := fun hmem => hbefore n hmem hn
  refine ⟨?_, ?_, ?_, fun k hk => ?_⟩
  · rw [hpass]
    simp [State.release, hqueue, List.erase_append, hfresh]
  · rw [hpass]
    simp [State.release, staggerFor, hdefn]
  · rw [hpass]
    simp [State.release, Load.start]
  · rw [← s.beforeAttempt_drive k, hpass]
    simp [State.release, hk.symm]

end

/-- Settles O55: the frame of a pass, then its lists, its release attempt and its reports, each by the lemma above. -/
theorem passMovesDriveLevels : Obligations.PassMovesDriveLevels := by
  intro s
  refine ⟨s.pass_onlyChanges, s.pass_load_frame, s.pass_budget_frame, s.pass_minOff_eq, s.pass_shed_members, ?_,
    s.pass_link⟩
  obtain ⟨joins, hqueue, hnodup, hmem⟩ := s.regrant_queue_members
  refine ⟨s.regrant.budget.queue, joins, hqueue, hnodup, hmem, State.pass_of_no_release, ?_⟩
  intro before n after f hstagger hsplit hbefore hn hdefn
  obtain ⟨hleft, htimer, hdrive, hothers⟩ := State.pass_of_release hstagger hsplit hbefore hn hdefn
  exact ⟨hleft, by rw [htimer]; cases f.cls <;> rfl, hdrive, hothers⟩

end Sys2Proof.Machine
end

section
/-! SUPPORT. A pass takes no notice of the request that is handed to a block. -/

namespace Sys2Proof.Machine

/-- The state with another handed request. -/
def State.withHanded (o : Option Instr) (s : State) : State := { s with link := { s.link with handed := o } }

theorem State.takeHanded_eq (c : Instr) (s : State) :
    s.takeHanded c = s.withHanded (if s.inService c then none else s.link.handed) := by
  unfold State.takeHanded; split <;> rfl

@[simp] theorem State.withHanded_loads (o : Option Instr) (s : State) : (s.withHanded o).loads = s.loads := rfl
@[simp] theorem State.withHanded_budget (o : Option Instr) (s : State) : (s.withHanded o).budget = s.budget := rfl
@[simp] theorem State.withHanded_running (o : Option Instr) (s : State) : (s.withHanded o).running = s.running := rfl

theorem State.withHanded_withLoads (o : Option Instr) (s : State) (loads : Table 64 Load) :
    ({ s.withHanded o with loads := loads } : State) = State.withHanded o { s with loads := loads } := rfl

theorem Link.offer_withHanded (r : Report) (l : Link) (o : Option Instr) :
    ({ l with handed := o } : Link).offer r = { l.offer r with handed := o } := by
  simp only [Link.offer]
  split_ifs <;> rfl

theorem State.raise_withHanded (b : Body) (s : State) (o : Option Instr) :
    (s.withHanded o).raise b = (s.raise b).withHanded o := by
  simp only [State.raise, State.withHanded, Link.offer_withHanded]
  split <;> rfl

theorem State.raiseAll_withHanded (bs : List Body) (s : State) (o : Option Instr) :
    (s.withHanded o).raiseAll bs = (s.raiseAll bs).withHanded o := by
  induction bs generalizing s with
  | nil => rfl
  | cons b bs ih =>
    calc (s.withHanded o).raiseAll (b :: bs)
      _ = ((s.raise b).withHanded o).raiseAll bs := congrArg (State.raiseAll bs) (s.raise_withHanded b o)
      _ = (s.raiseAll (b :: bs)).withHanded o := ih (s.raise b)

theorem State.countChoice_withHanded (k : Nat) (s : State) (o : Option Instr) :
    (s.withHanded o).countChoice k = (s.countChoice k).withHanded o := by
  unfold State.countChoice
  split <;> rfl

theorem State.regrant_withHanded (s : State) (o : Option Instr) :
    (s.withHanded o).regrant = s.regrant.withHanded o := by
  unfold State.regrant
  refine Eq.trans ?_ (State.countChoice_withHanded _ _ o)
  rfl

theorem State.attempt_withHanded (s : State) (o : Option Instr) :
    (s.withHanded o).attempt = s.attempt.withHanded o := by
  simp only [State.attempt, State.withHanded_loads, State.withHanded_budget]
  split
  · rfl
  · split <;> rfl

theorem State.pass_withHanded (s : State) (o : Option Instr) : (s.withHanded o).pass = s.pass.withHanded o := by
  simp only [State.pass, State.regrant_withHanded, State.withHanded_budget, State.raiseAll_withHanded,
    State.attempt_withHanded]

/-- A pass leaves the handed request where it is. -/
theorem State.pass_handed (s : State) : s.pass.link.handed = s.link.handed := by
  have h := congrArg (fun t : State => t.link.handed) (s.pass_withHanded s.link.handed)
  exact h

end Sys2Proof.Machine
end

section
/-! SUPPORT. The fields of DEF-LOAD: codes, ranges (R6 to R8, Table 1-3), and when they repeat a definition (R11). -/

namespace Sys2Proof.Machine

/-! ### Codes -/

theorem loadType?_eq_some_iff {k : Nat} {t : LoadType} : loadType? k = some t ↔ k = t.code := by
  constructor
  · intro h
    unfold loadType? at h
    split at h <;> cases h <;> rfl
  · rintro rfl; cases t <;> rfl

theorem loadType_code_injective : Function.Injective LoadType.code := by
  intro t u h
  exact Option.some.inj ((loadType?_eq_some_iff.2 rfl).symm.trans (loadType?_eq_some_iff.2 h))

theorem restartClass?_eq_some_iff {k : Nat} {c : RestartClass} : restartClass? k = some c ↔ k = c.code := by
  constructor
  · intro h
    unfold restartClass? at h
    split at h <;> cases h <;> rfl
  · rintro rfl; cases c <;> rfl

theorem restartClass?_of_le {k : Nat} (h : k ≤ 1) :
    restartClass? k = some (if k = 0 then .short else .long) := by
  match k, h with
  | 0, _ => rfl
  | 1, _ => rfl

theorem restartClass?_isSome_iff {k : Nat} : (restartClass? k).isSome = true ↔ k ≤ 1 := by
  constructor
  · intro h
    obtain ⟨c, hc⟩ := Option.isSome_iff_exists.1 h
    rw [restartClass?_eq_some_iff.1 hc]
    cases c <;> decide
  · intro h; simp [restartClass?_of_le h]

/-! ### Ranges -/

theorem nonDecreasing_iff (l : List Nat) : nonDecreasing l = true ↔ l.Pairwise (· ≤ ·) := by
  rw [← List.isChain_iff_pairwise]
  induction l with
  | nil => simp [nonDecreasing]
  | cons a l ih =>
    cases l with
    | nil => simp [nonDecreasing]
    | cons b l => simp [nonDecreasing, ih]

/-- The draw slots that the draw count of DEF-LOAD names. -/
def drawSlots (f : LoadFields) : List Nat := [f.draw1, f.draw2, f.draw3, f.draw4].take f.drawCount

theorem draws_eq_slots {f : LoadFields} (h : f.drawCount ≤ 4) : f.draws = drawSlots f := by
  simp [LoadFields.draws, drawSlots, h]

theorem draws_length (f : LoadFields) : f.draws.length = if f.drawCount ≤ 4 then f.drawCount else 5 := by
  unfold LoadFields.draws
  split
  · next h => simpa using h
  · simp

theorem DefLoadInRange.drawCount_le {f : LoadFields} (h : DefLoadInRange f) : f.drawCount ≤ 4 := by
  obtain ⟨_, _, _, _, h | h | h | h⟩ := h <;> omega

theorem inRange_drawCount_le {f : LoadFields} {t : LoadType} (h : f.inRange t = true) : f.drawCount ≤ 4 := by
  by_contra hcount
  have hlen : f.draws.length = 5 := by rw [draws_length, if_neg hcount]
  cases t <;> simp [LoadFields.inRange, maxLevelInRange, drawsFit, hlen] at h <;> omega

/-- The row of Table 1-3 for a load type: its maximum levels, its draws and its door binding (R6 to R8). -/
def FitsType (f : LoadFields) : LoadType → Prop
  | .heater =>
    1 ≤ f.maxLevel ∧ f.maxLevel ≤ 3 ∧ f.drawCount = f.maxLevel ∧ (drawSlots f).Pairwise (· ≤ ·) ∧ f.door = 255
  | .exhaust =>
    1 ≤ f.maxLevel ∧ f.maxLevel ≤ 4 ∧ f.drawCount = f.maxLevel ∧ (drawSlots f).Pairwise (· ≤ ·) ∧ f.door = 255
  | .curtain => f.maxLevel = 1 ∧ f.drawCount = 1 ∧ f.door ≠ 255
  | .light => f.maxLevel = 100 ∧ f.drawCount = 1

theorem inRange_iff {f : LoadFields} (hcount : f.drawCount ≤ 4) (t : LoadType) :
    f.inRange t = true ↔
      (∀ x ∈ drawSlots f, x ≤ 2000) ∧ f.base ≤ 3 ∧ f.cls ≤ 1 ∧ f.minOff ≤ 900 ∧ FitsType f t := by
  have hlen : (drawSlots f).length = f.drawCount := by
    rw [← draws_eq_slots hcount, draws_length, if_pos hcount]
  cases t <;>
  · simp only [LoadFields.inRange, maxLevelInRange, drawsFit, bindingFits, LoadFields.bound, draws_eq_slots hcount,
      hlen, nonDecreasing_iff, restartClass?_isSome_iff, Bool.and_eq_true, List.all_eq_true, decide_eq_true_eq,
      beq_iff_eq, bne_iff_ne, Bool.not_eq_true', bne_eq_false_iff_eq, FitsType]
    tauto

theorem exists_loadType_iff (p : LoadType → Prop) : (∃ t, p t) ↔ p .heater ∨ p .exhaust ∨ p .curtain ∨ p .light :=
  ⟨fun ⟨t, ht⟩ => by cases t <;> simp [ht], by rintro (h | h | h | h) <;> exact ⟨_, h⟩⟩

/-- The checks that the model makes of the fields of a load of some type are those of Table 1-3. -/
theorem defLoadInRange_iff (f : LoadFields) :
    DefLoadInRange f ↔ ∃ t, loadType? f.type = some t ∧ f.inRange t = true := by
  have hrow : DefLoadInRange f ↔
      ∃ t : LoadType, f.type = t.code ∧
        ((∀ x ∈ drawSlots f, x ≤ 2000) ∧ f.base ≤ 3 ∧ f.cls ≤ 1 ∧ f.minOff ≤ 900 ∧ FitsType f t) := by
    have hfits := exists_loadType_iff fun t => f.type = t.code ∧ FitsType f t
    have hdef : DefLoadInRange f ↔
        (∀ x ∈ drawSlots f, x ≤ 2000) ∧ f.base ≤ 3 ∧ f.cls ≤ 1 ∧ f.minOff ≤ 900
          ∧ ∃ t : LoadType, f.type = t.code ∧ FitsType f t := by
      rw [hfits]; rfl
    rw [hdef]
    exact ⟨fun ⟨hdraws, hbase, hcls, hmin, t, ht, hfit⟩ => ⟨t, ht, hdraws, hbase, hcls, hmin, hfit⟩,
      fun ⟨t, ht, hdraws, hbase, hcls, hmin, hfit⟩ => ⟨hdraws, hbase, hcls, hmin, t, ht, hfit⟩⟩
  constructor
  · intro h
    obtain ⟨t, ht, hfit⟩ := hrow.1 h
    exact ⟨t, loadType?_eq_some_iff.2 ht, (inRange_iff h.drawCount_le t).2 hfit⟩
  · rintro ⟨t, ht, hin⟩
    exact hrow.2 ⟨t, loadType?_eq_some_iff.1 ht, (inRange_iff (inRange_drawCount_le hin) t).1 hin⟩

theorem DefLoadInRange.exists_type {f : LoadFields} (h : DefLoadInRange f) : ∃ t : LoadType, f.type = t.code := by
  obtain ⟨t, ht, _⟩ := (defLoadInRange_iff f).1 h
  exact ⟨t, loadType?_eq_some_iff.1 ht⟩

theorem DefLoadInRange.type_bounds {f : LoadFields} (h : DefLoadInRange f) : 1 ≤ f.type ∧ f.type ≤ 4 := by
  obtain ⟨t, ht⟩ := h.exists_type
  cases t <;> simp [ht, LoadType.code]

theorem DefLoadInRange.draws_eq {f : LoadFields} (h : DefLoadInRange f) : f.draws = drawSlots f :=
  draws_eq_slots h.drawCount_le

theorem DefLoadInRange.cls_le {f : LoadFields} (h : DefLoadInRange f) : f.cls ≤ 1 := by
  obtain ⟨_, _, hcls, _⟩ := h; exact hcls

/-! ### Repeated definitions -/

/-- The fields of DEF-LOAD other than the base priority are those of a definition (R11). -/
def RepeatsDef (f : LoadFields) (d : LoadDef) : Prop :=
  f.type = d.type.code ∧ f.zone = d.zone ∧ f.maxLevel = d.maxLevel ∧ drawSlots f = d.draws
    ∧ f.door = bindingField d.door ∧ f.cls = d.cls.code ∧ f.minOff = d.minOff

theorem matchesDef_iff {f : LoadFields} {t : LoadType} (hrange : DefLoadInRange f) (ht : f.type = t.code)
    (d : LoadDef) : matchesDef f t d = true ↔ RepeatsDef f d := by
  have htype : d.type = t ↔ f.type = d.type.code := by
    rw [ht, eq_comm]; exact loadType_code_injective.eq_iff.symm
  simp only [matchesDef, RepeatsDef, Bool.and_eq_true, beq_iff_eq, htype, hrange.draws_eq,
    restartClass?_eq_some_iff, and_assoc]
  simp only [eq_comm]

/-- The record of a load that DEF-LOAD defines, field by field. -/
theorem atRest_loadDef {f : LoadFields} {t : LoadType} (hrange : DefLoadInRange f) (ht : f.type = t.code) (z : Zone)
    (door : Option DoorNo) :
    Load.atRest (some (loadDef f t z door))
      = { defn := some
            { type := match f.type with | 1 => .heater | 2 => .exhaust | 3 => .curtain | _ => .light
              zone := z, maxLevel := f.maxLevel, draws := drawSlots f, door := door, base := f.base
              cls := if f.cls = 0 then .short else .long, minOff := f.minOff }
          request := 0, grant := 0, drive := 0, minOff := none, priority := f.base } := by
  simp only [Load.atRest, loadDef, hrange.draws_eq, restartClass?_of_le hrange.cls_le, Option.getD_some, ht]
  cases t <;> rfl

end Sys2Proof.Machine
end

section
/-! SUPPORT. DEF-LOAD at its block: the zone and the door that it names, the checks of R10 and R11 in their order, and
what it defines. -/

namespace Sys2Proof.Machine

/-! ### The zone and the door of a request -/

theorem State.zone?_of_defined {s : State} {z : Zone} (h : s.zones.get z ≠ .undefined) : s.zone? z.val = some z := by
  simp [State.zone?, State.definedZone, h]

theorem State.zone?_eq_none {s : State} {k : Nat} (h : ∀ z : Zone, k = z → s.zones.get z = .undefined) :
    s.zone? k = none := by
  unfold State.zone?
  split
  · next z hz => simp [State.definedZone, h z (number?_eq_some_iff.1 hz)]
  · rfl

theorem State.binding?_unbound {s : State} {f : LoadFields} (h : f.door = 255) : s.binding? f = some none := by
  simp [State.binding?, LoadFields.bound, h]

theorem State.binding?_bound {s : State} {f : LoadFields} {d : DoorNo} {g : DoorDef} (hd : f.door = d)
    (hg : (s.doors.doors.get d).defn = some g) : s.binding? f = some (some d) := by
  have hbound : d.val ≠ 255 := by omega
  simp [State.binding?, LoadFields.bound, hd, hbound, hg]

theorem State.binding?_eq_none {s : State} {f : LoadFields} (hbound : f.door ≠ 255)
    (h : ∀ d : DoorNo, f.door = d → (s.doors.doors.get d).defn = none) : s.binding? f = none := by
  simp only [State.binding?, LoadFields.bound, bne_iff_ne, ne_eq, hbound, not_false_eq_true, if_true]
  split
  · rfl
  · next d hd => simp [h d (number?_eq_some_iff.1 hd)]

theorem State.bindingInZone_some {s : State} {d : DoorNo} {g : DoorDef} (hg : (s.doors.doors.get d).defn = some g)
    (z : Zone) : s.bindingInZone (some d) z = decide (g.zone = z) := by
  simp only [State.bindingInZone, Door.inZone, hg]
  rfl

section
variable (c : Instr) (s : State)

@[simp] theorem State.takeHanded_zone? (k : Nat) : (s.takeHanded c).zone? k = s.zone? k := by
  unfold State.zone? State.definedZone
  rw [State.takeHanded_zones]

@[simp] theorem State.takeHanded_binding? (f : LoadFields) : (s.takeHanded c).binding? f = s.binding? f := by
  simp only [State.binding?, State.takeHanded_doors]

@[simp] theorem State.takeHanded_bindingInZone (d : Option DoorNo) (z : Zone) :
    (s.takeHanded c).bindingInZone d z = s.bindingInZone d z := by
  simp only [State.bindingInZone, State.takeHanded_doors]

@[simp] theorem State.takeHanded_loadAllowed (n : LoadNo) (f : LoadFields) (t : LoadType) :
    (s.takeHanded c).loadAllowed n f t = s.loadAllowed n f t := by
  simp only [State.loadAllowed, State.takeHanded_running, State.takeHanded_loads]

end

/-! ### What DEF-LOAD defines -/

section
variable {s : State} {n : LoadNo} {d : LoadDef}

/-- In CONFIGURE the load takes its definition, at rest (R10). -/
theorem State.defineLoad_stopped (h : s.running = false) (n : LoadNo) (d : LoadDef) :
    s.defineLoad n d = { s with loads := s.loads.set n (Load.atRest (some d)) } := by
  simp [State.defineLoad, h]

/-- In RUN the same base priority changes nothing (R11). -/
theorem State.defineLoad_same (h : s.running = true) {old : LoadDef} (hold : (s.loads.get n).defn = some old)
    (hbase : d.base = old.base) : s.defineLoad n d = s := by
  simp [State.defineLoad, State.changeBase, h, hold, hbase]

/-- In RUN another base priority is set, and a pass follows (R11). -/
theorem State.defineLoad_base (h : s.running = true) {old : LoadDef} (hold : (s.loads.get n).defn = some old)
    (hbase : d.base ≠ old.base) :
    s.defineLoad n d = State.pass
      { s with loads := s.loads.set n { s.loads.get n with defn := some { old with base := d.base } } } := by
  simp [State.defineLoad, State.changeBase, h, hold, hbase.symm, Table.modify]

/-- DEF-LOAD that is taken leaves the part as it is, runs a pass on other loads, or sets the load record. -/
theorem State.defineLoad_cases (s : State) (n : LoadNo) (d : LoadDef) :
    s.defineLoad n d = s ∨ ∃ loads, s.defineLoad n d = State.pass { s with loads := loads }
      ∨ s.defineLoad n d = { s with loads := loads } := by
  unfold State.defineLoad State.changeBase
  split
  · split
    · exact .inl rfl
    · exact .inr ⟨_, .inl rfl⟩
  · exact .inr ⟨_, .inr rfl⟩

theorem State.defineLoad_part (s : State) (n : LoadNo) (d : LoadDef) : (s.defineLoad n d).part = s.part := by
  obtain h | ⟨loads, h | h⟩ := s.defineLoad_cases n d
  · rw [h]
  · rw [h, State.pass_part]
  · rw [h]

theorem State.defineLoad_handed (s : State) (n : LoadNo) (d : LoadDef) :
    (s.defineLoad n d).link.handed = s.link.handed := by
  obtain h | ⟨loads, h | h⟩ := s.defineLoad_cases n d
  · rw [h]
  · rw [h, State.pass_handed]
  · rw [h]

theorem State.defineLoad_withHanded (o : Option Instr) (s : State) (n : LoadNo) (d : LoadDef) :
    (s.withHanded o).defineLoad n d = (s.defineLoad n d).withHanded o := by
  simp only [State.defineLoad, State.changeBase, State.withHanded_running, State.withHanded_loads]
  by_cases hrun : s.running = true
  · simp only [hrun, if_true]
    by_cases hbase : (s.loads.get n).defn.any (fun old => old.base == d.base) = true
    · simp only [hbase, if_true]
    · simp only [hbase]
      exact (congrArg State.pass (State.withHanded_withLoads o s _)).trans (State.pass_withHanded _ o)
  · simp only [hrun]
    rfl

theorem State.defineLoad_takeHanded (c : Instr) (s : State) (n : LoadNo) (d : LoadDef) :
    (s.takeHanded c).defineLoad n d = (s.defineLoad n d).takeHanded c := by
  have hservice : (s.defineLoad n d).inService c = s.inService c := by
    simp only [State.inService, State.defineLoad_handed]
  rw [State.takeHanded_eq, State.takeHanded_eq, State.defineLoad_withHanded, hservice, State.defineLoad_handed]

end

/-! ### The block that takes DEF-LOAD -/

section
variable {f : LoadFields} {n : LoadNo} {t : LoadType}

theorem exec_defLoad (f : LoadFields) (s : State) : exec (.defLoad f) s = execDefLoad f s := rfl

/-- A load, a type or fields out of range: the request is refused (R10, checks 1 and 2). -/
theorem exec_defLoad_outOfRange (h : 64 ≤ f.load ∨ f.type ≠ 0 ∧ ¬DefLoadInRange f) (s : State) :
    exec (.defLoad f) s = request (.defLoad f) (refuse .badField) s := by
  rw [exec_defLoad, execDefLoad]
  congr 1
  funext u
  split
  · rfl
  · next n hn =>
    have hload : f.load < 64 := by rw [number?_eq_some_iff.1 hn]; exact n.isLt
    obtain ⟨hzero, hrange⟩ := h.resolve_left (by omega)
    rw [if_neg hzero]
    split
    · rfl
    · next t ht => rw [if_neg fun hin => hrange ((defLoadInRange_iff f).2 ⟨t, ht, hin⟩)]

/-- Type NONE removes the load (R10). -/
theorem exec_defLoad_none (hload : f.load = n) (hzero : f.type = 0) (s : State) :
    exec (.defLoad f) s = request (.defLoad f) (State.removeLoad n) s := by
  rw [exec_defLoad, execDefLoad]
  simp only [hload, number?_val, hzero, if_true]

/-- Fields in range go on to the checks of the state, of the zone and of the door (R10, R11). -/
theorem exec_defLoad_inRange (hload : f.load = n) (ht : f.type = t.code) (hrange : DefLoadInRange f) (s : State) :
    exec (.defLoad f) s = request (.defLoad f) (State.placeLoad n f t) s := by
  have hzero : f.type ≠ 0 := by have := hrange.type_bounds; omega
  have htype : loadType? f.type = some t := loadType?_eq_some_iff.2 ht
  have hin : f.inRange t = true := by
    obtain ⟨u, hu, hin⟩ := (defLoadInRange_iff f).1 hrange
    rwa [Option.some.inj (htype.symm.trans hu)]
  rw [exec_defLoad, execDefLoad]
  simp only [hload, number?_val, hzero, if_false, htype, hin, if_true]

/-- Every DEF-LOAD is out of range, of type NONE, or in range. -/
theorem defLoad_cases (f : LoadFields) :
    (64 ≤ f.load ∨ f.type ≠ 0 ∧ ¬DefLoadInRange f)
    ∨ ∃ n : LoadNo, f.load = n ∧ (f.type = 0 ∨ ∃ t : LoadType, f.type = t.code ∧ DefLoadInRange f) := by
  by_cases hload : f.load < 64
  · by_cases hzero : f.type = 0
    · exact .inr ⟨⟨f.load, hload⟩, rfl, .inl hzero⟩
    · by_cases hrange : DefLoadInRange f
      · obtain ⟨t, ht, _⟩ := (defLoadInRange_iff f).1 hrange
        exact .inr ⟨⟨f.load, hload⟩, rfl, .inr ⟨t, loadType?_eq_some_iff.1 ht, hrange⟩⟩
      · exact .inl (.inr ⟨hzero, hrange⟩)
  · exact .inl (.inl (by omega))

theorem removeLoad_refused (n : LoadNo) (s : State) (h : (s.removeLoad n).2.status ≠ .ok) :
    (s.removeLoad n).1 = s := by
  unfold State.removeLoad at h ⊢
  split
  · rfl
  · next hrun => rw [if_neg hrun] at h; exact absurd rfl h

theorem placeLoad_refused (n : LoadNo) (f : LoadFields) (t : LoadType) (s : State)
    (h : (s.placeLoad n f t).2.status ≠ .ok) : (s.placeLoad n f t).1 = s := by
  have key : (s.placeLoad n f t).1 = s ∨ (s.placeLoad n f t).2.status = .ok := by
    unfold State.placeLoad
    split
    · exact .inl rfl
    · split
      · split
        · exact .inr rfl
        · exact .inl rfl
      · exact .inl rfl
  exact key.resolve_right h

/-- DEF-LOAD that is refused changes nothing but the Link Unit (R12). -/
theorem defLoad_refused_frame {s u : State} {r : Reply} (htakes : s.takesRequests = true)
    (h : exec (.defLoad f) s = .next u) (hr : u.link.answered = some r) (hst : r.status ≠ .ok) :
    s.onlyChanges u [.link] := by
  obtain hout | ⟨n, hload, hzero | ⟨t, ht, hrange⟩⟩ := defLoad_cases f
  · rw [exec_defLoad_outOfRange hout] at h
    exact request_refused_frame htakes (fun _ _ => rfl) h hr hst
  · rw [exec_defLoad_none hload hzero] at h
    exact request_refused_frame htakes (removeLoad_refused n) h hr hst
  · rw [exec_defLoad_inRange hload ht hrange] at h
    exact request_refused_frame htakes (placeLoad_refused n f t) h hr hst

end

end Sys2Proof.Machine
end

section
/-! DEF-LOAD (chapter 1, section 1.2.3): its checks in their order, and what it does where it is taken. -/

namespace Sys2Proof.Machine

section
variable {s : State} {f : LoadFields} {n : LoadNo} {t : LoadType}

theorem defLoad_badField (htakes : s.takesRequests = true)
    (h : 64 ≤ f.load ∨ f.type ≠ 0 ∧ ¬DefLoadInRange f) : AnswersOnly (.defLoad f) .badField [] s :=
  answersOnly_of_refuse (exec_defLoad_outOfRange h s) htakes rfl

/-- Type NONE is refused in RUN (R11). -/
theorem defLoad_none_run (htakes : s.takesRequests = true) (hload : f.load = n) (hzero : f.type = 0)
    (hrun : s.running = true) : AnswersOnly (.defLoad f) .wrongState [] s := by
  refine answersOnly_of_refuse (exec_defLoad_none hload hzero s) htakes ?_
  simp [State.removeLoad, hrun]

/-- Type NONE removes the load in CONFIGURE (R10). -/
theorem defLoad_none_stopped (htakes : s.takesRequests = true) (hload : f.load = n) (hzero : f.type = 0)
    (hrun : s.running = false) :
    Completes (.defLoad f) .ok [] s { s with loads := s.loads.set n (Load.atRest none) } := by
  refine completes_of_accept (exec_defLoad_none hload hzero s) htakes ?_ rfl rfl
  simp [State.removeLoad, hrun, State.takeHanded_withLoads]

section
variable (htakes : s.takesRequests = true) (hload : f.load = n) (ht : f.type = t.code) (hrange : DefLoadInRange f)
include htakes hload ht hrange

/-- The conditions of R11 come before the zone and the door. -/
theorem defLoad_wrongState (hallowed : s.loadAllowed n f t = false) :
    AnswersOnly (.defLoad f) .wrongState [] s := by
  refine answersOnly_of_refuse (exec_defLoad_inRange hload ht hrange s) htakes ?_
  simp [State.placeLoad, hallowed]

/-- An undefined zone or an undefined door (R10, checks 3 and 4). -/
theorem defLoad_notFound (hallowed : s.loadAllowed n f t = true)
    (hmissing : s.zone? f.zone = none ∨ s.binding? f = none) : AnswersOnly (.defLoad f) .notFound [] s := by
  refine answersOnly_of_refuse (exec_defLoad_inRange hload ht hrange s) htakes ?_
  rcases hmissing with hzone | hdoor
  · simp [State.placeLoad, hallowed, hzone]
  · simp [State.placeLoad, hallowed, hdoor]

/-- A door of another zone (R10, check 5). -/
theorem defLoad_otherZone (hallowed : s.loadAllowed n f t = true) {z : Zone} {door : Option DoorNo}
    (hzone : s.zone? f.zone = some z) (hdoor : s.binding? f = some door) (hin : s.bindingInZone door z = false) :
    AnswersOnly (.defLoad f) .badField [] s := by
  refine answersOnly_of_refuse (exec_defLoad_inRange hload ht hrange s) htakes ?_
  simp [State.placeLoad, hallowed, hzone, hdoor, hin]

/-- A DEF-LOAD that passes every check is taken. -/
theorem defLoad_accepted (hallowed : s.loadAllowed n f t = true) {z : Zone} {door : Option DoorNo}
    (hzone : s.zone? f.zone = some z) (hdoor : s.binding? f = some door) (hin : s.bindingInZone door z = true) :
    Completes (.defLoad f) .ok [] s (s.defineLoad n (loadDef f t z door)) := by
  refine completes_of_accept (exec_defLoad_inRange hload ht hrange s) htakes ?_ (s.defineLoad_part _ _)
    (s.defineLoad_handed _ _)
  simp [State.placeLoad, hallowed, hzone, hdoor, hin, State.defineLoad_takeHanded]

end

/-! ### The conditions of R11 -/

theorem loadAllowed_stopped (hrun : s.running = false) (n : LoadNo) (f : LoadFields) (t : LoadType) :
    s.loadAllowed n f t = true := by
  simp [State.loadAllowed, hrun]

theorem loadAllowed_run_iff (hrun : s.running = true) (ht : f.type = t.code) (hrange : DefLoadInRange f) :
    s.loadAllowed n f t = true ↔ ∃ d, (s.loads.get n).defn = some d ∧ RepeatsDef f d := by
  simp [State.loadAllowed, hrun, Option.any_eq_true, matchesDef_iff hrange ht]

/-! ### The cases of the statement -/

/-- In CONFIGURE a DEF-LOAD that names a defined zone and no door of another defines the load. -/
theorem defLoad_defines (htakes : s.takesRequests = true) (hload : f.load = n) (ht : f.type = t.code)
    (hrange : DefLoadInRange f) (hrun : s.running = false) {z : Zone} {door : Option DoorNo}
    (hzone : s.zone? f.zone = some z) (hdoor : s.binding? f = some door) (hin : s.bindingInZone door z = true) :
    Completes (.defLoad f) .ok [] s
      { s with loads := s.loads.set n (Load.atRest (some (loadDef f t z door))) } := by
  have h := defLoad_accepted htakes hload ht hrange (loadAllowed_stopped hrun n f t) hzone hdoor hin
  rwa [State.defineLoad_stopped hrun] at h

/-- In RUN a DEF-LOAD that repeats the definition of a load in a defined zone, with its door in that zone, is taken. -/
theorem defLoad_repeats (htakes : s.takesRequests = true) (hload : f.load = n) (ht : f.type = t.code)
    (hrange : DefLoadInRange f) (hrun : s.running = true) {d : LoadDef} (hd : (s.loads.get n).defn = some d)
    (hrepeats : RepeatsDef f d) (hzone : s.zones.get d.zone ≠ .undefined)
    (hdoor : ∀ k, d.door = some k → ((s.doors.doors.get k).defn.map fun g => g.zone) = some d.zone) :
    Completes (.defLoad f) .ok [] s (s.defineLoad n (loadDef f t d.zone d.door)) := by
  have hallowed := (loadAllowed_run_iff (n := n) hrun ht hrange).2 ⟨d, hd, hrepeats⟩
  obtain ⟨_, hz, _, _, hbinding, _⟩ := hrepeats
  have hzone' : s.zone? f.zone = some d.zone := by rw [hz]; exact State.zone?_of_defined hzone
  cases hk : d.door with
  | none =>
    rw [hk] at hbinding
    exact defLoad_accepted htakes hload ht hrange hallowed hzone' (State.binding?_unbound hbinding) rfl
  | some k =>
    rw [hk] at hbinding
    obtain ⟨g, hg, hgz⟩ := Option.map_eq_some_iff.1 (hdoor k hk)
    exact defLoad_accepted htakes hload ht hrange hallowed hzone' (State.binding?_bound hbinding hg)
      (by rw [State.bindingInZone_some hg]; simpa using hgz)

end

/-- Settles O21: the checks in their order, then what is defined in CONFIGURE and what is changed in RUN, each by the
lemmas above. -/
theorem defLoadIsChecked : Obligations.DefLoadIsChecked := by
  refine ⟨fun s f htakes => ⟨fun h => ?_, fun hzero hrange => defLoad_badField htakes (.inr ⟨hzero, hrange⟩),
    fun n hload => ?_⟩, fun s u f r htakes h hr hst => defLoad_refused_frame htakes h hr hst⟩
  · refine defLoad_badField htakes (h.imp_right fun htype => ⟨by omega, fun hrange => ?_⟩)
    have := hrange.type_bounds
    omega
  have hstopped : s.part.op ≠ .run → s.running = false := fun h => by simpa [State.running] using h
  refine ⟨fun hzero hop => defLoad_none_run htakes hload hzero (s.running_iff.2 hop),
    fun hzero hop => defLoad_none_stopped htakes hload hzero (hstopped hop), fun hrange hop => ?_,
    fun hrange hop => ?_⟩
  · obtain ⟨t, ht⟩ := hrange.exists_type
    have hrun := hstopped hop
    have hallowed := loadAllowed_stopped hrun n f t
    refine ⟨fun hzone => defLoad_notFound htakes hload ht hrange hallowed (.inl (State.zone?_eq_none hzone)),
      fun hbound hdoor => defLoad_notFound htakes hload ht hrange hallowed
        (.inr (State.binding?_eq_none hbound hdoor)), fun z hz hzone => ?_⟩
    have hzone' : s.zone? f.zone = some z := by rw [hz]; exact State.zone?_of_defined hzone
    refine ⟨fun hunbound => ?_, fun d g hd hg => ?_⟩
    · have h := defLoad_defines htakes hload ht hrange hrun hzone' (State.binding?_unbound hunbound) rfl
      rw [atRest_loadDef hrange ht] at h
      exact h
    · have hin := State.bindingInZone_some hg z
      split
      · next hgz =>
        have h := defLoad_defines htakes hload ht hrange hrun hzone' (State.binding?_bound hd hg)
          (by rw [hin]; simpa using hgz)
        rw [atRest_loadDef hrange ht] at h
        exact h
      · next hgz =>
        exact defLoad_otherZone htakes hload ht hrange hallowed hzone' (State.binding?_bound hd hg)
          (by rw [hin]; simpa using hgz)
  · obtain ⟨t, ht⟩ := hrange.exists_type
    have hrun := s.running_iff.2 hop
    refine ⟨fun hnone => ?_, fun d hd hrepeats hzone hdoor => ?_⟩
    · refine defLoad_wrongState htakes hload ht hrange (Bool.eq_false_iff.2 fun hallowed => ?_)
      obtain ⟨d, hd, hrepeats⟩ := (loadAllowed_run_iff hrun ht hrange).1 hallowed
      exact hnone d hd hrepeats
    · have h := defLoad_repeats htakes hload ht hrange hrun hd hrepeats hzone hdoor
      split
      · next hbase => rwa [State.defineLoad_same hrun hd hbase] at h
      · next hbase => rwa [State.defineLoad_base hrun hd hbase] at h

end Sys2Proof.Machine
end

section
/-! PLAN-ROW and DEF-PROFILE (chapter 2, sections 2.2.1 and 2.4): the ranges of their fields, the checks in their
order, and what they set. -/

namespace Sys2Proof.Machine

/-- Setting the calendar commutes with taking the handed request. -/
theorem State.takeHanded_withCalendar (c : Instr) (s : State) (d : Calendar) :
    (s.withCalendar d).takeHanded c = (s.takeHanded c).withCalendar d := by
  unfold State.takeHanded State.inService State.withCalendar; split <;> rfl

/-! ### PLAN-ROW (R28) -/

/-- The fields of a plan row lie in the ranges of Table 2-2. -/
def RowFits (f : RowFields) : Prop :=
  f.kind = 0 ∨ (f.kind = 1 ∧ f.profile ≤ 7 ∧ 1 ≤ f.length ∧ f.length ≤ 1440 ∧ f.crew ≤ 15)
  ∨ (f.kind = 2 ∧ f.count ≤ 99) ∨ f.kind = 3

section
variable {f : RowFields}

theorem row?_empty (h : f.kind = 0) : row? f = some .empty := by simp [row?, h]

theorem row?_shift {p : ProfileNo} (h : f.kind = 1) (hp : f.profile = p) (hlow : 1 ≤ f.length)
    (hhigh : f.length ≤ 1440) (hcrew : f.crew ≤ 15) : row? f = some (.shift p f.length f.crew) := by
  simp [row?, h, hp, hlow, hhigh, hcrew]

theorem row?_repeatGroup (h : f.kind = 2) (hcount : f.count ≤ 99) : row? f = some (.repeatGroup f.count) := by
  simp [row?, h, hcount]

theorem row?_endGroup (h : f.kind = 3) : row? f = some .endGroup := by simp [row?, h]

/-- The model reads a row exactly where its fields are in range. -/
theorem row?_isSome_iff : (row? f).isSome = true ↔ RowFits f := by
  constructor
  · intro h
    unfold row? at h
    split at h
    case h_1 hkind => exact .inl hkind
    case h_2 hkind =>
      split at h
      · next p hp =>
        have hprofile : f.profile = p := number?_eq_some_iff.1 hp
        split at h
        · next hin => exact .inr (.inl ⟨hkind, by omega, hin⟩)
        · cases h
      · cases h
    case h_3 hkind =>
      split at h
      · next hcount => exact .inr (.inr (.inl ⟨hkind, hcount⟩))
      · cases h
    case h_4 hkind => exact .inr (.inr (.inr hkind))
    case h_5 => cases h
  · rintro (hkind | ⟨hkind, hprofile, hlow, hhigh, hcrew⟩ | ⟨hkind, hcount⟩ | hkind)
    · rw [row?_empty hkind]; rfl
    · rw [row?_shift (p := ⟨f.profile, by omega⟩) hkind rfl hlow hhigh hcrew]; rfl
    · rw [row?_repeatGroup hkind hcount]; rfl
    · rw [row?_endGroup hkind]; rfl

end

section
variable {s : State} {row : Nat} {f : RowFields}

theorem exec_planRow (row : Nat) (f : RowFields) (s : State) : exec (.planRow row f) s = execPlanRow row f s := rfl

theorem planRow_badField (htakes : s.takesRequests = true) (h : 24 ≤ row ∨ ¬RowFits f) :
    AnswersOnly (.planRow row f) .badField [] s := by
  refine answersOnly_of_refuse ((exec_planRow _ _ s).trans rfl) htakes ?_
  rcases h with hrow | hfits
  · simp [number?_eq_none hrow]
  · have hnone : row? f = none := by simpa [← row?_isSome_iff] using hfits
    simp [hnone]

theorem planRow_frozen (htakes : s.takesRequests = true) (hrow : row < 24) (hfits : RowFits f)
    (hcommitted : s.calendar.committed = true) : AnswersOnly (.planRow row f) .frozen [] s := by
  obtain ⟨x, hx⟩ := Option.isSome_iff_exists.1 (row?_isSome_iff.2 hfits)
  refine answersOnly_of_refuse ((exec_planRow _ _ s).trans rfl) htakes ?_
  simp [number?, hrow, hx, hcommitted]

theorem planRow_accepted {r : Fin 24} {x : Row} (htakes : s.takesRequests = true) (hx : row? f = some x)
    (hopen : s.calendar.committed = false) :
    Completes (.planRow r f) .ok [] s
      (s.withCalendar { s.calendar with pendingTable := s.calendar.pendingTable.set r x }) := by
  refine completes_of_accept ((exec_planRow _ _ s).trans rfl) htakes ?_ rfl rfl
  simp [hx, hopen, State.takeHanded_withCalendar]

end

/-- Settles O25: the checks in their order, then the row that each kind sets. -/
theorem planRowSetsRow : Obligations.PlanRowSetsRow := by
  intro s row f htakes
  refine ⟨planRow_badField htakes, planRow_frozen htakes, ?_⟩
  rintro r rfl hopen
  exact ⟨fun hkind => planRow_accepted htakes (row?_empty hkind) hopen,
    fun p hkind hp hlow hhigh hcrew => planRow_accepted htakes (row?_shift hkind hp hlow hhigh hcrew) hopen,
    fun hkind hcount => planRow_accepted htakes (row?_repeatGroup hkind hcount) hopen,
    fun hkind => planRow_accepted htakes (row?_endGroup hkind) hopen⟩

/-! ### DEF-PROFILE (R24, R25) -/

/-- The fields of a profile lie in the ranges of Table 2-1, and the egress floor is above neither light level (R24). -/
def ProfileFits (f : ProfileFields) : Prop :=
  -100 ≤ f.dockSetpoint ∧ f.dockSetpoint ≤ 300 ∧ -100 ≤ f.floorSetpoint ∧ f.floorSetpoint ≤ 300
  ∧ f.dockLight ≤ 100 ∧ f.floorLight ≤ 100 ∧ f.egress ≤ 100 ∧ f.budget ≤ 20000 ∧ f.mode ≤ 1 ∧ f.purge ≤ 60
  ∧ f.preheat ≤ 1 ∧ f.egress ≤ f.dockLight ∧ f.egress ≤ f.floorLight

/-- The record that DEF-PROFILE gives. -/
def profileOf (f : ProfileFields) : Profile :=
  { dockSetpoint := f.dockSetpoint, floorSetpoint := f.floorSetpoint, dockLight := f.dockLight
    floorLight := f.floorLight, egress := f.egress, budget := f.budget
    mode := if f.mode = 0 then .static else .dynamic, purge := f.purge, preheat := decide (f.preheat = 1) }

theorem arbMode?_eq (k : Nat) :
    arbMode? k = if k ≤ 1 then some (if k = 0 then ArbMode.static else ArbMode.dynamic) else none := by
  match k with
  | 0 | 1 | _ + 2 => rfl

theorem flag?_eq (k : Nat) : flag? k = if k ≤ 1 then some (decide (k = 1)) else none := by
  match k with
  | 0 | 1 | _ + 2 => rfl

theorem profile?_of_fits {f : ProfileFields} (h : ProfileFits f) : profile? f = some (profileOf f) := by
  obtain ⟨_, _, _, _, _, _, _, _, hmode, _, hpreheat, _, _⟩ := h
  simp only [profile?, arbMode?_eq, flag?_eq, if_pos hmode, if_pos hpreheat]
  exact if_pos (by tauto)

theorem profile?_eq_none {f : ProfileFields} (h : ¬ProfileFits f) : profile? f = none := by
  unfold profile?
  rw [arbMode?_eq, flag?_eq]
  by_cases hmode : f.mode ≤ 1
  · by_cases hpreheat : f.preheat ≤ 1
    · simp only [if_pos hmode, if_pos hpreheat]
      exact if_neg fun hin => h (by unfold ProfileFits; tauto)
    · simp [hpreheat]
  · simp [hmode]

/-- The profile is that of the current shift, of an override or of the lookahead, or it is the default profile and a
zone or the site has it (R25). -/
def ProfileUsed (c : Calendar) (p : ProfileNo) : Prop :=
  (∃ row left stack length crew, c.cursor = some (.inShift row left stack)
    ∧ c.active.get? row = some (.shift p length crew))
  ∨ (∃ z o, c.overrides.get z = some o ∧ o.profile = p) ∨ (∃ l, c.lookahead = some l ∧ l.profile = p)
  ∨ (c.defaultProfile = p ∧ ((∃ z, c.inForce.get z = p) ∨ c.siteProfile = p))

theorem shiftProfile?_eq_some_iff {t : Table 24 Row} {row : Nat} {p : ProfileNo} :
    shiftProfile? t row = some p ↔ ∃ length crew, t.get? row = some (.shift p length crew) := by
  unfold shiftProfile?
  split
  · next q length crew hrow => simp [hrow]
  · next hrow => simpa using fun length crew h => hrow p length crew h

/-- The profile of the current shift is that of the SHIFT row at the cursor. -/
theorem Calendar.shiftProfile?_eq_some_iff {c : Calendar} {p : ProfileNo} :
    c.shiftProfile? = some p ↔ ∃ row left stack length crew, c.cursor = some (.inShift row left stack)
      ∧ c.active.get? row = some (.shift p length crew) := by
  unfold Calendar.shiftProfile?
  split
  · next row left stack hcursor => simp [hcursor, Machine.shiftProfile?_eq_some_iff]
  · next hcursor => simpa using fun row left stack h => (hcursor row left stack h).elim

theorem Calendar.inUse_iff (c : Calendar) (p : ProfileNo) : c.inUse p = true ↔ ProfileUsed c p := by
  have hinForce : c.inForce.entries.contains p = true ↔ ∃ z, c.inForce.get z = p := by
    simp [Table.entries_eq]
  simp only [Calendar.inUse, Bool.or_eq_true, Bool.and_eq_true, beq_iff_eq, any_entries_iff,
    Calendar.shiftProfile?_eq_some_iff, Option.map_eq_some_iff, hinForce, or_assoc, ProfileUsed]

section
variable {s : State} {f : ProfileFields} {p : ProfileNo}

theorem exec_defProfile (f : ProfileFields) (s : State) : exec (.defProfile f) s = execDefProfile f s := rfl

theorem defProfile_badField (htakes : s.takesRequests = true) (h : 8 ≤ f.profile ∨ ¬ProfileFits f) :
    AnswersOnly (.defProfile f) .badField [] s := by
  refine answersOnly_of_refuse ((exec_defProfile _ s).trans rfl) htakes ?_
  rcases h with hprofile | hfits
  · simp [number?_eq_none hprofile]
  · simp [profile?_eq_none hfits]

theorem defProfile_inUse (htakes : s.takesRequests = true) (hp : f.profile = p) (hfits : ProfileFits f)
    (hrun : s.running = true) (hused : ProfileUsed s.calendar p) : AnswersOnly (.defProfile f) .inUse [] s := by
  refine answersOnly_of_refuse ((exec_defProfile _ s).trans rfl) htakes ?_
  simp [hp, profile?_of_fits hfits, hrun, (Calendar.inUse_iff _ _).2 hused]

theorem defProfile_accepted (htakes : s.takesRequests = true) (hp : f.profile = p) (hfits : ProfileFits f)
    (hfree : ¬(s.running = true ∧ ProfileUsed s.calendar p)) :
    Completes (.defProfile f) .ok [] s
      (s.withCalendar { s.calendar with profiles := s.calendar.profiles.set p (profileOf f) }) := by
  refine completes_of_accept ((exec_defProfile _ s).trans rfl) htakes ?_ rfl rfl
  have hfree' : ¬((s.running && s.calendar.inUse p) = true) := by
    rwa [Bool.and_eq_true, Calendar.inUse_iff]
  simp only [hp, number?_val, profile?_of_fits hfits, State.takeHanded_running, State.takeHanded_calendar,
    if_neg hfree', State.takeHanded_withCalendar]

end

/-- Settles O24: the checks in their order, then the record set. -/
theorem defProfileIsChecked : Obligations.DefProfileIsChecked := by
  intro s f htakes
  refine ⟨defProfile_badField htakes, fun p hp hfits => ⟨fun hrun hused => ?_, fun hfree => ?_⟩⟩
  · exact defProfile_inUse htakes hp hfits (s.running_iff.2 hrun) hused
  · exact defProfile_accepted htakes hp hfits fun ⟨hrun, hused⟩ => hfree ⟨s.running_iff.1 hrun, hused⟩

end Sys2Proof.Machine
end

section
/-! SUPPORT. An event of the Calendar Unit: the profiles that hold after it and what it gives (R47 to R49). -/

namespace Sys2Proof.Machine

theorem State.definedZones_eq (s : State) : s.definedZones = s.zonesDefined := by
  exact List.filter_congr fun z _ => Bool.eq_iff_iff.2 (by simp [State.definedZone])

/-- The profiles worked out are those that overrides and cursor choose (R47, R49). -/
theorem Calendar.settled_hold (c : Calendar) : ProfilesHold c.settled := by
  refine ⟨?_, fun z => ?_⟩
  · simp only [Calendar.settled, Calendar.site, Calendar.shiftProfile?, Machine.shiftProfile?]
    cases c.cursor with
    | none => rfl
    | some x =>
      cases x with
      | waiting => rfl
      | inShift row left stack =>
        dsimp only
        cases c.active.get? row with
        | none => rfl
        | some r => cases r <;> rfl
  · simp only [Calendar.settled, Table.get_ofFn]
    rfl

theorem CalendarEvent.plain_calendar (c : Calendar) : (CalendarEvent.plain c).calendar = c := rfl

@[simp] theorem State.calendarEvent_calendar (e : CalendarEvent) (s : State) :
    (s.calendarEvent e).calendar = e.calendar := by
  unfold State.calendarEvent; split <;> rfl

theorem State.calendarEvent_drafts (e : CalendarEvent) (s : State) :
    (s.calendarEvent e).drafts = if s.running then s.drafts ++ e.draft.toList else s.drafts := by
  unfold State.calendarEvent; split <;> rfl

theorem State.calendarEvent_inFlight_stopped {e : CalendarEvent} {s : State} (h : s.running = false) :
    (s.calendarEvent e).inFlight = s.inFlight := by
  simp [State.calendarEvent, h]

theorem State.calendarEvent_given {e : CalendarEvent} {s : State} (h : s.running = true) :
    s.given (s.calendarEvent e) (s.calendarNotices e) := by
  rw [State.calendarEvent, if_pos h]
  exact State.give_notices _ _

/-- The notices of an event beside those of the profiles: the minute, the boundary, the lookahead. -/
def CalendarEvent.others (e : CalendarEvent) : List Instr :=
  (if e.minute then [.airMinuteExpiryNotice] else [])
    ++ (if e.draft.isSome then [.airShiftBoundary, .heatShiftBoundary, .doorShiftBoundary] else [])
    ++ (if e.look then [.lookaheadNotice e.calendar.lookahead] else [])

/-- Three notices for each of some zones, zone by zone or unit by unit. -/
theorem flatMap_triple_perm {α β : Type} (l : List α) (f g h : α → β) :
    (l.map f ++ l.map g ++ l.map h).Perm (l.flatMap fun z => [f z, g z, h z]) := by
  have hgh := List.map_append_flatMap_perm l g fun z => [h z]
  have hfgh := List.map_append_flatMap_perm l f fun z => [g z, h z]
  rw [← List.map_eq_flatMap] at hgh
  rw [List.append_assoc]
  exact (hgh.append_left _).trans hfgh

theorem siteNotices_eq (p : Prop) [Decidable p] (c : Calendar) :
    siteNotices (decide p) c = noticeIf p [siteNotice c] := by
  simp only [siteNotices, noticeIf, siteNotice, decide_eq_true_eq]

/-- The notices of an event, in the order in which R48 and R49 name them. -/
theorem State.calendarNotices_perm (e : CalendarEvent) (s : State) :
    (s.calendarNotices e).Perm (e.others
      ++ (s.reprofiled (s.calendarEvent e)).flatMap (fun z =>
          let p := e.calendar.inForce.get z
          [.airProfileChangeNotice z p, .heatProfileChangeNotice z p, .lightProfileChangeNotice z p])
      ++ noticeIf (s.calendar.siteProfile ≠ e.calendar.siteProfile) [siteNotice e.calendar]) := by
  have hzones : s.definedZones.filter (fun z => s.calendar.inForce.get z != e.calendar.inForce.get z)
      = s.reprofiled (s.calendarEvent e) := by
    rw [State.definedZones_eq, State.reprofiled, State.calendarEvent_calendar]
    exact List.filter_congr fun z _ => Bool.eq_iff_iff.2 (by simp)
  have hsite : (s.calendar.siteProfile != e.calendar.siteProfile)
      = decide (s.calendar.siteProfile ≠ e.calendar.siteProfile) := by
    exact Bool.eq_iff_iff.2 (by simp)
  have hprofiles := flatMap_triple_perm (s.reprofiled (s.calendarEvent e))
    (fun z => Instr.airProfileChangeNotice z (e.calendar.inForce.get z))
    (fun z => Instr.heatProfileChangeNotice z (e.calendar.inForce.get z))
    (fun z => Instr.lightProfileChangeNotice z (e.calendar.inForce.get z))
  unfold State.calendarNotices State.profileNotices CalendarEvent.others
  rw [hzones, hsite, siteNotices_eq]
  refine List.Perm.append_right _ ?_
  simp only [List.append_assoc] at hprofiles ⊢
  refine List.Perm.append_left _ (List.Perm.append_left _ ?_)
  rw [← List.append_assoc, ← List.append_assoc]
  refine List.perm_append_comm.trans (List.Perm.append_left _ ?_)
  rwa [List.append_assoc]

/-- After an event that leaves the profiles as overrides and cursor choose them, they follow (R47 to R49). -/
theorem State.calendarEvent_profilesFollow {e : CalendarEvent} (s : State) (h : ProfilesHold e.calendar) :
    ProfilesFollow s (s.calendarEvent e) e.others where
  hold := by rwa [State.calendarEvent_calendar]
  quiet hop := State.calendarEvent_inFlight_stopped (by simpa [State.running] using hop)
  given hop := by
    rw [State.calendarEvent_calendar]
    exact ⟨_, s.calendarNotices_perm e, State.calendarEvent_given (s.running_iff.2 hop)⟩

/-- An event of the Calendar Unit takes no notice of the request that is handed to a block. -/
theorem State.calendarEvent_withHanded (e : CalendarEvent) (s : State) (o : Option Instr) :
    (s.withHanded o).calendarEvent e = (s.calendarEvent e).withHanded o := by
  unfold State.calendarEvent
  rw [State.withHanded_running]
  split <;> rfl

theorem State.calendarEvent_takeHanded (c : Instr) (e : CalendarEvent) (s : State) :
    (s.takeHanded c).calendarEvent e = (s.calendarEvent e).takeHanded c := by
  have hservice : (s.calendarEvent e).inService c = s.inService c := by
    rw [State.inService, State.calendarEvent_link]; rfl
  rw [State.takeHanded_eq, State.takeHanded_eq, State.calendarEvent_withHanded, hservice, State.calendarEvent_link]

/-- An event of the Calendar Unit changes the calendar, the notices in flight and, where it begins a BOUNDARY report,
the reports being formed. -/
theorem State.calendarEvent_onlyChanges (e : CalendarEvent) (s : State) :
    s.onlyChanges (s.calendarEvent e) [.calendar, .drafts, .inFlight] := by
  intro region hregion
  cases region <;> simp_all [State.same]

end Sys2Proof.Machine
end

section
/-! OVERRIDE and OVERRIDE-END (chapter 2, sections 2.10 and 2.11). -/

namespace Sys2Proof.Machine

/-! ### The zones named (R3) -/

/-- Some number of a list names no defined zone. -/
def State.missesZone (s : State) (ks : List Nat) : Prop :=
  ∃ j ∈ ks, ∀ z : Zone, z.val = j → s.zones.get z = .undefined

section
variable {s : State}

theorem State.zone?_eq_some_iff {k : Nat} {z : Zone} :
    s.zone? k = some z ↔ k = z.val ∧ s.zones.get z ≠ .undefined := by
  constructor
  · intro h
    unfold State.zone? at h
    split at h
    · next y hy =>
      split at h
      · next hdefined =>
        cases h
        exact ⟨number?_eq_some_iff.1 hy, by simpa [State.definedZone] using hdefined⟩
      · cases h
    · cases h
  · rintro ⟨rfl, hdefined⟩
    exact State.zone?_of_defined hdefined

/-- The zones that a list names are those numbers. -/
theorem State.zones?_map_val {ks : List Nat} {zs : List Zone} (h : s.zones? ks = some zs) :
    zs.map (fun z => z.val) = ks := by
  induction ks generalizing zs with
  | nil => cases h; rfl
  | cons k ks ih =>
    simp only [State.zones?, List.mapM_cons, Option.pure_def, Option.bind_eq_bind, Option.bind_eq_some_iff,
      Option.some.injEq] at h
    obtain ⟨z, hz, zs', hzs, rfl⟩ := h
    rw [List.map_cons, ih hzs, (State.zone?_eq_some_iff.1 hz).1]

theorem State.zones?_eq_none {ks : List Nat} (h : s.missesZone ks) : s.zones? ks = none := by
  obtain ⟨j, hj, hmissing⟩ := h
  have hzone : s.zone? j = none := State.zone?_eq_none fun z hz => hmissing z hz.symm
  induction ks with
  | nil => cases hj
  | cons k ks ih =>
    simp only [State.zones?] at ih ⊢
    rcases List.mem_cons.1 hj with rfl | hj
    · simp [List.mapM_cons, hzone]
    · simp [List.mapM_cons, ih hj]

theorem State.exists_zones?_eq_some {ks : List Nat} (h : ¬s.missesZone ks) : ∃ zs, s.zones? ks = some zs := by
  induction ks with
  | nil => exact ⟨[], rfl⟩
  | cons k ks ih =>
    simp only [State.missesZone, List.mem_cons, exists_eq_or_imp, not_or, not_forall] at h
    obtain ⟨⟨z, rfl, hz⟩, hrest⟩ := h
    obtain ⟨zs, hzs⟩ := ih hrest
    refine ⟨z :: zs, ?_⟩
    simp only [State.zones?] at hzs ⊢
    simp [List.mapM_cons, State.zone?_of_defined hz, hzs]

theorem State.mem_zones? {ks : List Nat} {zs : List Zone} (h : s.zones? ks = some zs) (z : Zone) :
    z ∈ zs ↔ z.val ∈ ks := by
  rw [← State.zones?_map_val h, List.mem_map_of_injective Fin.val_injective]

end

@[simp] theorem State.takeHanded_zones? (c : Instr) (s : State) (ks : List Nat) :
    (s.takeHanded c).zones? ks = s.zones? ks := by
  have hzone : (s.takeHanded c).zone? = s.zone? := funext fun k => s.takeHanded_zone? c k
  rw [State.zones?, State.zones?, hzone]

theorem zonesFit_iff (ks : List Nat) : zonesFit ks = true ↔ 1 ≤ ks.length ∧ ks.length ≤ 12 := by
  simp [zonesFit]

/-! ### The override records -/

theorem Calendar.withOverrides_eq (zs : List Zone) (o : Option Override) (c : Calendar) :
    c.withOverrides zs o = { c with overrides := (c.withOverrides zs o).overrides } := by
  unfold Calendar.withOverrides
  induction zs generalizing c with
  | nil => rfl
  | cons z zs ih => exact (ih (c.withOverride z o)).trans rfl

theorem Calendar.withOverrides_get (zs : List Zone) (o : Option Override) (c : Calendar) (z : Zone) :
    (c.withOverrides zs o).overrides.get z = if z ∈ zs then o else c.overrides.get z := by
  unfold Calendar.withOverrides
  induction zs generalizing c with
  | nil => simp
  | cons y zs ih =>
    rw [List.foldl_cons, ih]
    by_cases hmem : z ∈ zs
    · simp [hmem]
    · by_cases heq : z = y <;> simp [hmem, heq, Calendar.withOverride, eq_comm]

/-- The records of some zones are set or removed, and the profiles in force follow. -/
def OverridesBecome (s : State) (ks : List Nat) (o : Option Override) (b : State) : Prop :=
  ProfilesFollow s b []
  ∧ b.calendar =
    { s.calendar with
      overrides := b.calendar.overrides, inForce := b.calendar.inForce, siteProfile := b.calendar.siteProfile }
  ∧ ∀ z : Zone, b.calendar.overrides.get z = if z.val ∈ ks then o else s.calendar.overrides.get z

theorem State.resettle_overridesBecome {s : State} {ks : List Nat} {zs : List Zone} (hzs : s.zones? ks = some zs)
    (o : Option Override) : OverridesBecome s ks o (s.resettle (s.calendar.withOverrides zs o)) := by
  refine ⟨State.calendarEvent_profilesFollow s (Calendar.settled_hold _), ?_, fun z => ?_⟩
  · rw [State.resettle, State.calendarEvent_calendar, CalendarEvent.plain_calendar, Calendar.withOverrides_eq]
    rfl
  · rw [State.resettle, State.calendarEvent_calendar, CalendarEvent.plain_calendar]
    simp only [Calendar.settled, Calendar.withOverrides_get, State.mem_zones? hzs]

/-- Working out the profiles begins no BOUNDARY report. -/
theorem State.resettle_onlyChanges (c : Calendar) (s : State) :
    s.onlyChanges (s.resettle c) [.calendar, .inFlight] := by
  intro region hregion
  by_cases hdrafts : region = .drafts
  · rw [hdrafts]
    simp [State.same, State.resettle, State.calendarEvent_drafts, CalendarEvent.plain]
  · exact State.calendarEvent_onlyChanges _ s region (by simp_all)

/-- A request that is accepted with the records of some zones set or removed. -/
theorem completesWith_overrides {c : Instr} {act : State → State × Answer} {s : State} {ks : List Nat}
    {zs : List Zone} {o : Option Override} (hexec : exec c s = request c act s) (htakes : s.takesRequests = true)
    (hzs : s.zones? ks = some zs)
    (hact : act (s.takeHanded c) = accept ((s.takeHanded c).resettle (s.calendar.withOverrides zs o))) :
    CompletesWith c .ok [] s [.calendar, .inFlight] (OverridesBecome s ks o) := by
  refine ⟨_, completes_of_accept hexec htakes ?_ (State.calendarEvent_part _ _) ?_,
    State.resettle_onlyChanges _ _, State.resettle_overridesBecome hzs o⟩
  · rw [hact]
    exact congrArg accept (State.calendarEvent_takeHanded c _ s)
  · exact congrArg Link.handed (State.calendarEvent_link _ s)

/-! ### OVERRIDE (R44) -/

section
variable {s : State} {k duration : Nat} {ks : List Nat}

theorem exec_override (k duration : Nat) (ks : List Nat) (s : State) :
    exec (.override k duration ks) s = execOverride k duration ks s := rfl

theorem override_badField (htakes : s.takesRequests = true)
    (h : ¬(k ≤ 7 ∧ duration ≤ 1440 ∧ 1 ≤ ks.length ∧ ks.length ≤ 12)) :
    AnswersOnly (.override k duration ks) .badField [] s := by
  refine answersOnly_of_refuse ((exec_override _ _ _ s).trans rfl) htakes ?_
  split
  · rfl
  · next p hp =>
    have hk : k = p := number?_eq_some_iff.1 hp
    have hbad : 1440 < duration ∨ (!zonesFit ks) = true := by
      rw [Bool.not_eq_true', Bool.eq_false_iff, ne_eq, zonesFit_iff]
      omega
    rw [if_pos hbad]

section
variable {p : ProfileNo} (htakes : s.takesRequests = true) (hduration : duration ≤ 1440)
  (hfit : zonesFit ks = true)
include htakes hduration hfit

theorem override_wrongState (hrun : s.running = false) :
    AnswersOnly (.override p duration ks) .wrongState [] s := by
  refine answersOnly_of_refuse ((exec_override _ _ _ s).trans rfl) htakes ?_
  simp [hduration.not_gt, hfit, hrun]

theorem override_notFound (hrun : s.running = true) (hmissing : s.missesZone ks) :
    AnswersOnly (.override p duration ks) .notFound [] s := by
  refine answersOnly_of_refuse ((exec_override _ _ _ s).trans rfl) htakes ?_
  simp [hduration.not_gt, hfit, hrun, State.zones?_eq_none hmissing]

theorem override_accepted (hrun : s.running = true) (hnamed : ¬s.missesZone ks) :
    CompletesWith (.override p duration ks) .ok [] s [.calendar, .inFlight]
      (OverridesBecome s ks (some ⟨p, spanOf duration⟩)) := by
  obtain ⟨zs, hzs⟩ := State.exists_zones?_eq_some hnamed
  refine completesWith_overrides ((exec_override _ _ _ s).trans rfl) htakes hzs ?_
  simp [hduration.not_gt, hfit, hrun, hzs]

end

end

/-! ### OVERRIDE-END (R45) -/

theorem exec_overrideEnd (ks : List Nat) (s : State) : exec (.overrideEnd ks) s = execOverrideEnd ks s := rfl

section
variable {s : State} {ks : List Nat} (htakes : s.takesRequests = true)
include htakes

theorem overrideEnd_badField (h : zonesFit ks = false) : AnswersOnly (.overrideEnd ks) .badField [] s := by
  refine answersOnly_of_refuse ((exec_overrideEnd _ s).trans rfl) htakes ?_
  simp [h]

theorem overrideEnd_wrongState (hfit : zonesFit ks = true) (hrun : s.running = false) :
    AnswersOnly (.overrideEnd ks) .wrongState [] s := by
  refine answersOnly_of_refuse ((exec_overrideEnd _ s).trans rfl) htakes ?_
  simp [hfit, hrun]

theorem overrideEnd_notFound (hfit : zonesFit ks = true) (hrun : s.running = true)
    (hmissing : s.missesZone ks ∨ ∃ z : Zone, z.val ∈ ks ∧ s.calendar.overrides.get z = none) :
    AnswersOnly (.overrideEnd ks) .notFound [] s := by
  refine answersOnly_of_refuse ((exec_overrideEnd _ s).trans rfl) htakes ?_
  simp only [hfit, State.takeHanded_running, hrun, State.takeHanded_zones?, State.takeHanded_calendar]
  cases hzs : s.zones? ks with
  | none => rfl
  | some zs =>
    have hnamed : ¬s.missesZone ks := fun h => by simp [State.zones?_eq_none h] at hzs
    obtain ⟨z, hz, hnone⟩ := hmissing.resolve_left hnamed
    have hall : ¬(zs.all fun z => (s.calendar.overrides.get z).isSome) = true := fun h => by
      simpa [hnone] using List.all_eq_true.1 h z ((State.mem_zones? hzs z).2 hz)
    exact if_neg hall

theorem overrideEnd_accepted (hfit : zonesFit ks = true) (hrun : s.running = true) (hnamed : ¬s.missesZone ks)
    (hheld : ∀ z : Zone, z.val ∈ ks → s.calendar.overrides.get z ≠ none) :
    CompletesWith (.overrideEnd ks) .ok [] s [.calendar, .inFlight] (OverridesBecome s ks none) := by
  obtain ⟨zs, hzs⟩ := State.exists_zones?_eq_some hnamed
  refine completesWith_overrides ((exec_overrideEnd _ s).trans rfl) htakes hzs ?_
  have hall : (zs.all fun z => (s.calendar.overrides.get z).isSome) = true :=
    List.all_eq_true.2 fun z hz => Option.isSome_iff_ne_none.2 (hheld z ((State.mem_zones? hzs z).1 hz))
  simp only [hfit, State.takeHanded_running, hrun, State.takeHanded_zones?, hzs, State.takeHanded_calendar, hall]
  rfl

end

/-- Settles O31: the checks of the two requests in their order, and the records that each leaves. -/
theorem overridesAreSetAndEnded : Obligations.OverridesAreSetAndEnded := by
  intro s k duration ks htakes
  have hstopped : s.part.op ≠ .run → s.running = false := fun h => by simpa [State.running] using h
  refine ⟨override_badField htakes, fun ⟨hk, hduration, hlist⟩ hop => ?_,
    fun ⟨hk, hduration, hlist⟩ hop hmissing => ?_, ?_, fun hlist => ?_, fun hlist hop => ?_,
    fun hlist hop hmissing => ?_, fun hlist hop hnamed hheld => ?_⟩
  · exact override_wrongState (p := ⟨k, by omega⟩) htakes hduration ((zonesFit_iff ks).2 hlist) (hstopped hop)
  · exact override_notFound (p := ⟨k, by omega⟩) htakes hduration ((zonesFit_iff ks).2 hlist)
      (s.running_iff.2 hop) hmissing
  · rintro p rfl ⟨_, hduration, hlist⟩ hop hnamed
    exact override_accepted htakes hduration ((zonesFit_iff ks).2 hlist) (s.running_iff.2 hop) hnamed
  · exact overrideEnd_badField htakes (Bool.eq_false_iff.2 fun h => hlist ((zonesFit_iff ks).1 h))
  · exact overrideEnd_wrongState htakes ((zonesFit_iff ks).2 hlist) (hstopped hop)
  · exact overrideEnd_notFound htakes ((zonesFit_iff ks).2 hlist) (s.running_iff.2 hop) hmissing
  · exact overrideEnd_accepted htakes ((zonesFit_iff ks).2 hlist) (s.running_iff.2 hop) hnamed hheld

end Sys2Proof.Machine
end

section
/-! SUPPORT. The rows of a rotation table: those that take part, counts of REPEAT and END rows, and the rows of the
group that a REPEAT opens (R27). -/

namespace Sys2Proof.Machine

/-! ### The rows that take part -/

/-- The model cuts the trailing EMPTY rows off. -/
theorem takingPart_eq_rdropWhile (rows : List Row) : takingPart rows = rows.rdropWhile (· = .empty) := by
  induction rows with
  | nil => rfl
  | cons r rows ih =>
    have hcons : (r :: rows).rdropWhile (· = .empty)
        = if rows.rdropWhile (· = .empty) = [] then [r].rdropWhile (· = .empty)
          else r :: rows.rdropWhile (· = .empty) := by
      simp only [List.rdropWhile, List.reverse_cons, List.dropWhile_append, List.isEmpty_iff, List.reverse_eq_nil_iff]
      split <;> simp
    rw [hcons, takingPart, ih]
    cases rows.rdropWhile (· = .empty) with
    | nil => simp [List.rdropWhile_singleton]
    | cons r' rows' => simp

theorem rowsOf_eq (t : Table 24 Row) : rowsOf t = partRows t := takingPart_eq_rdropWhile t.entries

theorem partRows_prefix (t : Table 24 Row) : partRows t <+: t.entries := List.rdropWhile_prefix _ _

theorem partRows_length_le (t : Table 24 Row) : (partRows t).length ≤ 24 := by
  have h := (partRows_prefix t).length_le
  rwa [t.size] at h

/-- A row that takes part is that row of the table. -/
theorem get?_of_partRows {t : Table 24 Row} {i : Nat} {r : Row} (h : (partRows t)[i]? = some r) :
    t.get? i = some r := by
  obtain ⟨rest, hrest⟩ := partRows_prefix t
  have hi := (List.getElem?_eq_some_iff.1 h).1
  rw [Table.get?, ← hrest, List.getElem?_append_left hi, h]

theorem holdsRotation_iff (t : Table 24 Row) : holdsRotation t = true ↔ partRows t ≠ [] := by
  simp [holdsRotation, rowsOf_eq]

/-! ### Counts of REPEAT and END rows -/

@[simp] theorem repeats_nil : repeats [] = 0 := rfl
@[simp] theorem ends_nil : ends [] = 0 := rfl

section
variable (rows : List Row) (p : ProfileNo) (length crew count : Nat)

@[simp] theorem repeats_empty : repeats (.empty :: rows) = repeats rows := by simp [repeats]
@[simp] theorem repeats_shift : repeats (.shift p length crew :: rows) = repeats rows := by simp [repeats]
@[simp] theorem repeats_repeatGroup : repeats (.repeatGroup count :: rows) = repeats rows + 1 := by simp [repeats]
@[simp] theorem repeats_endGroup : repeats (.endGroup :: rows) = repeats rows := by simp [repeats]
@[simp] theorem ends_empty : ends (.empty :: rows) = ends rows := by simp [ends]
@[simp] theorem ends_shift : ends (.shift p length crew :: rows) = ends rows := by simp [ends]
@[simp] theorem ends_repeatGroup : ends (.repeatGroup count :: rows) = ends rows := by simp [ends]
@[simp] theorem ends_endGroup : ends (.endGroup :: rows) = ends rows + 1 := by simp [ends]

end

/-! ### The rows of a group -/

section
variable (rows : List Row) (d : Nat) (p : ProfileNo) (length crew count : Nat)

@[simp] theorem groupRows_empty : groupRows (.empty :: rows) d = groupRows rows d + 1 := by simp [groupRows]

@[simp] theorem groupRows_shift : groupRows (.shift p length crew :: rows) d = groupRows rows d + 1 := by
  simp [groupRows]

@[simp] theorem groupRows_repeatGroup :
    groupRows (.repeatGroup count :: rows) d = groupRows rows (d + 1) + 1 := rfl

@[simp] theorem groupRows_endGroup_zero : groupRows (.endGroup :: rows) 0 = 1 := rfl

@[simp] theorem groupRows_endGroup_succ : groupRows (.endGroup :: rows) (d + 1) = groupRows rows d + 1 := rfl

end

/-- From a row inside `d` further groups, the END that closes the group lies where the ENDs first outnumber the REPEATs
by more than `d`. -/
theorem groupRows_of_closing {rows : List Row} {d q : Nat}
    (hopen : ∀ m ≤ q, ends (rows.take m) ≤ repeats (rows.take m) + d) (hend : rows[q]? = some .endGroup)
    (hcloses : ends (rows.take q) = repeats (rows.take q) + d) : groupRows rows d = q + 1 := by
  induction rows generalizing d q with
  | nil => simp at hend
  | cons r rows ih =>
    cases q with
    | zero =>
      obtain rfl : r = .endGroup := by simpa using hend
      obtain rfl : d = 0 := by simpa using hcloses.symm
      rfl
    | succ q =>
      have hend' : rows[q]? = some .endGroup := by simpa using hend
      have hopen' : ∀ m ≤ q, ends (r :: rows.take m) ≤ repeats (r :: rows.take m) + d :=
        fun m hm => hopen (m + 1) (by omega)
      rw [List.take_succ_cons] at hcloses
      cases r with
      | empty =>
        simp only [ends_empty, repeats_empty] at hopen' hcloses
        rw [groupRows_empty, ih hopen' hend' hcloses]
      | shift p length crew =>
        simp only [ends_shift, repeats_shift] at hopen' hcloses
        rw [groupRows_shift, ih hopen' hend' hcloses]
      | repeatGroup n =>
        simp only [ends_repeatGroup, repeats_repeatGroup] at hopen' hcloses
        rw [groupRows_repeatGroup, ih (fun m hm => by have := hopen' m hm; omega) hend' (by omega)]
      | endGroup =>
        simp only [ends_endGroup, repeats_endGroup] at hopen' hcloses
        cases d with
        | zero => have := hopen' 0 (Nat.zero_le q); simp at this
        | succ d => rw [groupRows_endGroup_succ, ih (fun m hm => by have := hopen' m hm; omega) hend' (by omega)]

theorem encloses_iff {rows : List Row} {i k : Nat} :
    encloses rows i k = true ↔
      i < k ∧ ∀ m < k - i, ends (rowsAfter rows i m) ≤ repeats (rowsAfter rows i m) := by
  simp [encloses]

/-- The row after the END that closes a group is the one that the model goes on from. -/
theorem groupRows_of_closes {rows : List Row} {i j : Nat} (h : closes rows i j) :
    i + 1 + groupRows (rows.drop (i + 1)) 0 = j + 1 := by
  obtain ⟨hencloses, hend, hcount⟩ := h
  obtain ⟨hij, hopen⟩ := encloses_iff.1 hencloses
  have hrows : groupRows (rows.drop (i + 1)) 0 = (j - i - 1) + 1 := by
    refine groupRows_of_closing (fun m hm => hopen m (by omega)) ?_ hcount
    rw [List.getElem?_drop, ← hend]
    congr 1
    omega
  omega

end Sys2Proof.Machine
end

section
/-! The walk over the rows of a table, and the placement of minutes (R34, R37). -/

namespace Sys2Proof.Machine

/-! ### One row of the walk -/

section
variable {rows : List Row} {i : Nat} {stack : List LoopFrame}

theorem meet_shift {p : ProfileNo} {n crew : Nat} (h : rows[i]? = some (.shift p n crew)) :
    meet rows i stack = .shift i n p crew := by simp [meet, h]

theorem meet_empty (h : rows[i]? = some .empty) : meet rows i stack = .goOn (i + 1) stack := by simp [meet, h]

theorem meet_repeatGroup {n : Nat} (h : rows[i]? = some (.repeatGroup n)) (hn : 0 < n) :
    meet rows i stack = .goOn (i + 1) (⟨i, n⟩ :: stack) := by
  obtain ⟨n, rfl⟩ := Nat.exists_eq_succ_of_ne_zero hn.ne'
  simp [meet, h]

theorem meet_repeatGroup_zero (h : rows[i]? = some (.repeatGroup 0)) :
    meet rows i stack = .goOn (i + 1 + groupRows (rows.drop (i + 1)) 0) stack := by simp [meet, h]

theorem meet_endGroup_again {row passes : Nat} (h : rows[i]? = some .endGroup) (hpasses : 2 ≤ passes) :
    meet rows i (⟨row, passes⟩ :: stack) = .goOn (row + 1) (⟨row, passes - 1⟩ :: stack) := by
  simp [meet, h, hpasses]

theorem meet_endGroup_last {row passes : Nat} (h : rows[i]? = some .endGroup) (hpasses : passes ≤ 1) :
    meet rows i (⟨row, passes⟩ :: stack) = .goOn (i + 1) stack := by
  simp [meet, h, show ¬2 ≤ passes by omega]

theorem meet_past (h : rows.length ≤ i) : meet rows i stack = .goOn 0 [] := by
  simp [meet, List.getElem?_eq_none h]

/-- The walk meets a SHIFT only at the row where it stands. -/
theorem row_of_meet_shift {row n : Nat} {p : ProfileNo} {crew : Nat} (h : meet rows i stack = .shift row n p crew) :
    row = i ∧ rows[i]? = some (.shift p n crew) := by
  unfold meet at h
  repeat' split at h
  all_goals cases h
  next hrow => exact ⟨rfl, hrow⟩

end

/-! ### The walk with more rows to read -/

/-- A walk that arrives does so with more rows to read as well. -/
theorem walkFrom_mono {rows : List Row} {n m i : Nat} {stack : List LoopFrame} {x : Cursor} (hnm : n ≤ m)
    (h : walkFrom rows n i stack = some x) : walkFrom rows m i stack = some x := by
  induction n generalizing m i stack with
  | zero => cases h
  | succ n ih =>
    obtain ⟨m, rfl⟩ := Nat.exists_eq_add_one_of_ne_zero (show m ≠ 0 by omega)
    rw [walkFrom] at h ⊢
    split at h
    · exact h
    · exact ih (by omega) h

/-- The walk from a row where it goes on is the walk from the place it goes on from. -/
theorem walkFrom_goOn {rows : List Row} {n i i' : Nat} {stack stack' : List LoopFrame} {x : Cursor}
    (hmeet : meet rows i stack = .goOn i' stack') (h : walkFrom rows n i stack = some x) :
    walkFrom rows n i' stack' = some x := by
  cases n with
  | zero => cases h
  | succ n =>
    rw [walkFrom, hmeet] at h
    exact walkFrom_mono (Nat.le_succ n) h

section
variable {t : Table 24 Row} {i : Nat} {stack : List LoopFrame} {x : Cursor}

theorem walk_eq_some_iff :
    walk t i stack = some x ↔ partRows t ≠ [] ∧ walkFrom (partRows t) walkFuel i stack = some x := by
  rw [walk, ← holdsRotation_iff, rowsOf_eq]
  split <;> simp_all

theorem walk_goOn {i' : Nat} {stack' : List LoopFrame} (hmeet : meet (partRows t) i stack = .goOn i' stack')
    (h : walk t i stack = some x) : walk t i' stack' = some x := by
  obtain ⟨hne, hwalk⟩ := walk_eq_some_iff.1 h
  exact walk_eq_some_iff.2 ⟨hne, walkFrom_goOn hmeet hwalk⟩

theorem walk_shift {p : ProfileNo} {n crew : Nat} (hrow : (partRows t)[i]? = some (.shift p n crew))
    (h : walk t i stack = some x) : x = .inShift i n stack := by
  obtain ⟨_, hwalk⟩ := walk_eq_some_iff.1 h
  obtain ⟨fuel, hfuel⟩ : ∃ fuel, walkFuel = fuel + 1 := ⟨walkFuel - 1, by simp [walkFuel]⟩
  rw [hfuel, walkFrom, meet_shift hrow] at hwalk
  exact (Option.some.inj hwalk).symm

end

/-! ### The placement -/

/-- A placement that arrives is reached from the first shift on the walk (R37). -/
theorem placed_of_placeFrom {t : Table 24 Row} {fuel i use : Nat} {stack : List LoopFrame} {x : Cursor}
    (hne : partRows t ≠ []) (hfuel : fuel ≤ walkFuel) (h : placeFrom (partRows t) fuel i stack use = some x) :
    ∃ first, walkFrom (partRows t) fuel i stack = some first ∧ Placed t first use x := by
  induction fuel generalizing i stack use with
  | zero => cases h
  | succ fuel ih =>
    rw [placeFrom] at h
    rw [walkFrom]
    split at h
    · next row n p crew _ =>
      refine ⟨_, rfl, ?_⟩
      split at h
      · next hlt =>
        cases h
        exact .stops hlt
      · next hle =>
        obtain ⟨next, hnext, hplaced⟩ := ih (by omega) h
        exact .uses (by omega) (walk_eq_some_iff.2 ⟨hne, walkFrom_mono (by omega) hnext⟩) hplaced
    · exact ih (by omega) h

theorem placed_of_place {t : Table 24 Row} {elapsed : Nat} {x : Cursor} (h : place t elapsed = some x) :
    ∃ first, walk t 0 [] = some first ∧ Placed t first (elapsed % cycleLength t) x := by
  rw [place, rowsOf_eq] at h
  split at h
  · next hholds =>
    have hne := (holdsRotation_iff t).1 hholds
    obtain ⟨first, hfirst, hplaced⟩ := placed_of_placeFrom hne le_rfl h
    exact ⟨first, walk_eq_some_iff.2 ⟨hne, hfirst⟩, hplaced⟩
  · cases h

/-- Settles O27: what the walk does at each kind of row, then the placement. -/
theorem walkFollowsRows : Obligations.WalkFollowsRows := by
  intro t
  refine ⟨fun i stack x h => ⟨fun p n crew hrow => walk_shift hrow h, fun hrow => walk_goOn (meet_empty hrow) h,
    fun n hrow hn => walk_goOn (meet_repeatGroup hrow hn) h, fun j hrow hcloses => ?_, ?_,
    fun hpast => walk_goOn (meet_past hpast) h⟩, fun elapsed x h => placed_of_place h⟩
  · have hmeet := meet_repeatGroup_zero (stack := stack) hrow
    rw [groupRows_of_closes hcloses] at hmeet
    exact walk_goOn hmeet h
  · rintro row passes outer hrow rfl
    exact ⟨fun hagain => walk_goOn (meet_endGroup_again hrow hagain) h,
      fun hlast => walk_goOn (meet_endGroup_last hrow hlast) h⟩

end Sys2Proof.Machine
end

section
/-! SUPPORT. The checks of Table 2-3 by counts of REPEAT and END rows: UNBALANCED and TOO_DEEP. -/

namespace Sys2Proof.Machine

/-- What holds of some first rows holds of none of them, or of the first row with some that follow. -/
theorem exists_take_cons {p : List Row → Prop} {r : Row} {rows : List Row} :
    (∃ k, p ((r :: rows).take k)) ↔ p [] ∨ ∃ k, p (r :: rows.take k) := by
  constructor
  · rintro ⟨_ | k, h⟩
    · exact .inl h
    · exact .inr ⟨k, h⟩
  · rintro (h | ⟨k, h⟩)
    · exact ⟨0, h⟩
    · exact ⟨k + 1, h⟩

/-- With `d` groups open, a table is not unbalanced by its next row where it is not so from the row after it. -/
theorem unbalanced_iff (rows : List Row) (d : Nat) :
    unbalanced rows d = true ↔
      (∃ k, repeats (rows.take k) + d < ends (rows.take k)) ∨ repeats rows + d ≠ ends rows := by
  induction rows generalizing d with
  | nil => simp [unbalanced]
  | cons r rows ih =>
    rw [exists_take_cons (p := fun l => repeats l + d < ends l)]
    cases r with
    | empty => simp [unbalanced, ih]
    | shift p length crew => simp [unbalanced, ih]
    | repeatGroup n => simp [unbalanced, ih, Nat.add_assoc, Nat.add_comm 1 d]
    | endGroup =>
      cases d with
      | zero => exact iff_of_true rfl (.inl (.inr ⟨0, by simp⟩))
      | succ d => simp [unbalanced, ih, ← Nat.add_assoc]

/-- In a table that is not unbalanced, more than three groups are open at some row exactly where the REPEATs down to
some row outnumber the ENDs by more than three. -/
theorem tooDeep_iff {rows : List Row} {d : Nat} (hd : d ≤ 3) (h : unbalanced rows d = false) :
    tooDeep rows d = true ↔ ∃ k, ends (rows.take k) + 3 < repeats (rows.take k) + d := by
  induction rows generalizing d with
  | nil => simpa [tooDeep] using hd
  | cons r rows ih =>
    rw [exists_take_cons (p := fun l => ends l + 3 < repeats l + d)]
    have hnone : ¬(ends [] + 3 < repeats [] + d) := by simpa using hd
    rw [or_iff_right hnone]
    cases r with
    | empty => simpa [tooDeep] using ih hd (by simpa [unbalanced] using h)
    | shift p length crew => simpa [tooDeep] using ih hd (by simpa [unbalanced] using h)
    | repeatGroup n =>
      simp only [tooDeep, Bool.or_eq_true, decide_eq_true_eq, ends_repeatGroup, repeats_repeatGroup, Nat.add_assoc,
        Nat.add_comm 1 d]
      by_cases hfull : 3 ≤ d
      · exact iff_of_true (.inl hfull) ⟨0, by simp; omega⟩
      · rw [or_iff_right hfull]
        exact ih (by omega) h
    | endGroup =>
      cases d with
      | zero => simp [unbalanced] at h
      | succ d =>
        rw [tooDeep, Nat.add_sub_cancel, ih (by omega) h]
        simp only [ends_endGroup, repeats_endGroup]
        exact exists_congr fun k => by omega

end Sys2Proof.Machine
end

section
/-! SUPPORT. The cycle length: what the model adds up row by row is each SHIFT row's length times the counts of the
groups that enclose it (R27). -/

namespace Sys2Proof.Machine

/-- The length of a SHIFT row, 0 for any other. -/
def shiftLength : Row → Nat
  | .shift _ n _ => n
  | _ => 0

/-- The count of a REPEAT row, 1 for any other. -/
def groupCount : Row → Nat
  | .repeatGroup c => c
  | _ => 1

/-- The row with a number, EMPTY past the last. -/
def rowAt (rows : List Row) (k : Nat) : Row := rows[k]?.getD .empty

/-- The product of the counts of the groups among some rows that enclose row `k`. -/
def enclosingCounts (rows : List Row) (k : Nat) : Nat :=
  ((List.range rows.length).map fun i => if encloses rows i k then groupCount (rowAt rows i) else 1).prod

theorem unrolledMinutes_eq (rows : List Row) :
    unrolledMinutes rows
      = ((List.range rows.length).map fun k => shiftLength (rowAt rows k) * enclosingCounts rows k).sum := by
  unfold unrolledMinutes enclosingCounts rowAt
  refine congrArg List.sum (List.map_congr_left fun k _ => ?_)
  cases rows[k]? with
  | none => exact (Nat.zero_mul _).symm
  | some r =>
    cases r with
    | shift p n crew =>
      refine congrArg (n * ·) (congrArg List.prod (List.map_congr_left fun i _ => ?_))
      cases rows[i]? with
      | none => exact (ite_self 1).symm
      | some r =>
        cases r with
        | repeatGroup c => rfl
        | empty => exact (ite_self 1).symm
        | shift p n crew => exact (ite_self 1).symm
        | endGroup => exact (ite_self 1).symm
    | empty => exact (Nat.zero_mul _).symm
    | repeatGroup c => exact (Nat.zero_mul _).symm
    | endGroup => exact (Nat.zero_mul _).symm

/-! ### Groups that stand open before the first of some rows -/

/-- A group that stands open before the first of some rows, with `d` others open inside it, encloses row `k`. -/
def stays (rows : List Row) (k d : Nat) : Bool :=
  (List.range (k + 1)).all fun m => decide (ends (rows.take m) ≤ repeats (rows.take m) + d)

/-- The product of the counts of those groups that enclose row `k`, where such groups stand open, innermost first, with
`d` others inside the innermost. -/
def heldCounts (rows : List Row) (k : Nat) : List Nat → Nat → Nat
  | [], _ => 1
  | c :: cs, d => (if stays rows k d then c else 1) * heldCounts rows k cs (d + 1)

/-- The minutes of some rows, where groups of some counts stand open before the first. -/
def heldMinutes (rows : List Row) (cs : List Nat) : Nat :=
  ((List.range rows.length).map fun k =>
    shiftLength (rowAt rows k) * (heldCounts rows k cs 0 * enclosingCounts rows k)).sum

/-- The products that the model keeps for those groups: each group's with the groups around it. -/
def openProducts : List Nat → List Nat
  | [] => []
  | c :: cs => (c :: cs).prod :: openProducts cs

theorem openProducts_headD (cs : List Nat) : (openProducts cs).headD 1 = cs.prod := by cases cs <;> rfl

theorem openProducts_tail (cs : List Nat) : (openProducts cs).tail = openProducts cs.tail := by cases cs <;> rfl

theorem stays_iff {rows : List Row} {k d : Nat} :
    stays rows k d = true ↔ ∀ m ≤ k, ends (rows.take m) ≤ repeats (rows.take m) + d := by
  simp [stays]

theorem stays_zero (rows : List Row) (d : Nat) : stays rows 0 d = true := by simp [stays]

theorem stays_cons_iff {r : Row} {rows : List Row} {k d : Nat} :
    stays (r :: rows) (k + 1) d = true ↔
      ∀ m ≤ k, ends (r :: rows.take m) ≤ repeats (r :: rows.take m) + d := by
  rw [stays_iff]
  refine ⟨fun h m hm => h (m + 1) (by omega), fun h m hm => ?_⟩
  cases m with
  | zero => simp
  | succ m => exact h m (by omega)

section
variable (rows : List Row) (k d : Nat)

theorem stays_empty : stays (.empty :: rows) (k + 1) d = stays rows k d :=
  Bool.eq_iff_iff.2 (stays_cons_iff.trans (by simp [stays_iff]))

theorem stays_shift (p : ProfileNo) (length crew : Nat) :
    stays (.shift p length crew :: rows) (k + 1) d = stays rows k d :=
  Bool.eq_iff_iff.2 (stays_cons_iff.trans (by simp [stays_iff]))

theorem stays_repeatGroup (n : Nat) : stays (.repeatGroup n :: rows) (k + 1) d = stays rows k (d + 1) :=
  Bool.eq_iff_iff.2 (stays_cons_iff.trans (by simp [stays_iff, Nat.add_assoc, Nat.add_comm 1 d]))

theorem stays_endGroup_zero : stays (.endGroup :: rows) (k + 1) 0 = false :=
  Bool.eq_false_iff.2 fun h => by simpa using stays_cons_iff.1 h 0 (Nat.zero_le k)

theorem stays_endGroup_succ : stays (.endGroup :: rows) (k + 1) (d + 1) = stays rows k d :=
  Bool.eq_iff_iff.2 (stays_cons_iff.trans (by simp [stays_iff, ← Nat.add_assoc]))

variable (cs : List Nat)

theorem heldCounts_zero : heldCounts rows 0 cs d = cs.prod := by
  induction cs generalizing d with
  | nil => rfl
  | cons c cs ih => simp [heldCounts, stays_zero, ih]

/-- Where the first row moves every group's place by the same number, it moves all their counts. -/
theorem heldCounts_cons {r : Row} {a b : Nat} (h : ∀ d, stays (r :: rows) (k + 1) (d + a) = stays rows k (d + b)) :
    heldCounts (r :: rows) (k + 1) cs (d + a) = heldCounts rows k cs (d + b) := by
  induction cs generalizing d with
  | nil => rfl
  | cons c cs ih => rw [heldCounts, heldCounts, h, Nat.add_right_comm d a 1, Nat.add_right_comm d b 1, ih]

/-- An END closes the innermost group. -/
theorem heldCounts_endGroup : heldCounts (.endGroup :: rows) (k + 1) cs 0 = heldCounts rows k cs.tail 0 := by
  cases cs with
  | nil => rfl
  | cons c cs =>
    rw [heldCounts, stays_endGroup_zero, List.tail_cons]
    simpa using heldCounts_cons rows k 0 cs (r := .endGroup) (a := 1) (b := 0) fun d => stays_endGroup_succ rows k d

end

/-! ### Rows enclosed by groups among the rows -/

theorem encloses_zero (rows : List Row) (i : Nat) : encloses rows i 0 = false := by simp [encloses]

theorem encloses_succ (r : Row) (rows : List Row) (i k : Nat) :
    encloses (r :: rows) (i + 1) (k + 1) = encloses rows i k :=
  Bool.eq_iff_iff.2 (by simp [encloses_iff, rowsAfter])

theorem encloses_first (r : Row) (rows : List Row) (k : Nat) : encloses (r :: rows) 0 (k + 1) = stays rows k 0 :=
  Bool.eq_iff_iff.2 (by simp [encloses_iff, stays_iff, rowsAfter])

theorem enclosingCounts_zero (rows : List Row) : enclosingCounts rows 0 = 1 := by
  simp [enclosingCounts, encloses_zero]

theorem rowAt_cons_zero (r : Row) (rows : List Row) : rowAt (r :: rows) 0 = r := rfl

theorem rowAt_cons_succ (r : Row) (rows : List Row) (k : Nat) : rowAt (r :: rows) (k + 1) = rowAt rows k := by
  simp [rowAt]

theorem enclosingCounts_succ (r : Row) (rows : List Row) (k : Nat) :
    enclosingCounts (r :: rows) (k + 1) = (if stays rows k 0 then groupCount r else 1) * enclosingCounts rows k := by
  simp [enclosingCounts, List.range_succ_eq_map, Function.comp_def, encloses_first, encloses_succ, rowAt_cons_zero,
    rowAt_cons_succ]

/-- The minutes of some rows: those of the first row, and those of the others with their groups. -/
theorem heldMinutes_cons {r : Row} {rows : List Row} {cs ds : List Nat}
    (h : ∀ k, heldCounts (r :: rows) (k + 1) cs 0 * enclosingCounts (r :: rows) (k + 1)
      = heldCounts rows k ds 0 * enclosingCounts rows k) :
    heldMinutes (r :: rows) cs = shiftLength r * cs.prod + heldMinutes rows ds := by
  simp [heldMinutes, List.range_succ_eq_map, Function.comp_def, rowAt_cons_zero, rowAt_cons_succ, heldCounts_zero,
    enclosingCounts_zero, h]

/-! ### What the model adds up -/

/-- The minutes of some rows as the model adds them up, with a product for each open group. -/
def weighedMinutes (rows : List Row) (st : List Nat) : Nat := ((weighedShifts rows st).map fun p => p.1 * p.2).sum

section
variable (rows : List Row) (st : List Nat)

@[simp] theorem weighedMinutes_nil : weighedMinutes [] st = 0 := rfl

@[simp] theorem weighedMinutes_empty : weighedMinutes (.empty :: rows) st = weighedMinutes rows st := rfl

@[simp] theorem weighedMinutes_shift (p : ProfileNo) (n crew : Nat) :
    weighedMinutes (.shift p n crew :: rows) st = n * st.headD 1 + weighedMinutes rows st := by
  simp [weighedMinutes, weighedShifts]

@[simp] theorem weighedMinutes_repeatGroup (n : Nat) :
    weighedMinutes (.repeatGroup n :: rows) st = weighedMinutes rows (st.headD 1 * n :: st) := rfl

@[simp] theorem weighedMinutes_endGroup : weighedMinutes (.endGroup :: rows) st = weighedMinutes rows st.tail := rfl

end

theorem weighedMinutes_eq_heldMinutes (rows : List Row) (cs : List Nat) :
    weighedMinutes rows (openProducts cs) = heldMinutes rows cs := by
  induction rows generalizing cs with
  | nil => rfl
  | cons r rows ih =>
    cases r with
    | empty =>
      rw [weighedMinutes_empty, ih, heldMinutes_cons (ds := cs)]
      · simp [shiftLength]
      · intro k
        rw [heldCounts_cons rows k 0 cs (a := 0) (b := 0) fun d => stays_empty rows k d, enclosingCounts_succ]
        simp [groupCount]
    | shift p n crew =>
      rw [weighedMinutes_shift, openProducts_headD, ih, heldMinutes_cons (ds := cs)]
      · rfl
      · intro k
        rw [heldCounts_cons rows k 0 cs (a := 0) (b := 0) fun d => stays_shift rows k d p n crew, enclosingCounts_succ]
        simp [groupCount]
    | repeatGroup n =>
      have hproducts : (openProducts cs).headD 1 * n :: openProducts cs = openProducts (n :: cs) := by
        rw [openProducts_headD, openProducts, List.prod_cons, Nat.mul_comm]
      rw [weighedMinutes_repeatGroup, hproducts, ih, heldMinutes_cons (ds := n :: cs)]
      · simp [shiftLength]
      · intro k
        rw [heldCounts_cons rows k 0 cs (a := 0) (b := 1) fun d => stays_repeatGroup rows k d n, enclosingCounts_succ,
          heldCounts, groupCount]
        ring
    | endGroup =>
      rw [weighedMinutes_endGroup, openProducts_tail, ih, heldMinutes_cons (ds := cs.tail)]
      · simp [shiftLength]
      · intro k
        rw [heldCounts_endGroup, enclosingCounts_succ]
        simp [groupCount]

/-- The cycle length is that of one unrolled pass (R27). -/
theorem cycleLength_eq (t : Table 24 Row) : cycleLength t = unrolledMinutes (partRows t) := by
  calc cycleLength t
    _ = weighedMinutes (partRows t) (openProducts []) := by rw [cycleLength, rowsOf_eq]; rfl
    _ = heldMinutes (partRows t) [] := weighedMinutes_eq_heldMinutes _ _
    _ = unrolledMinutes (partRows t) := by simp [heldMinutes, heldCounts, unrolledMinutes_eq]

/-! ### NO_SHIFT -/

theorem exists_row_of_mem_weighedShifts {rows : List Row} {st : List Nat} {x : Nat × Nat}
    (h : x ∈ weighedShifts rows st) : ∃ p crew, .shift p x.1 crew ∈ rows := by
  induction rows generalizing st with
  | nil => cases h
  | cons r rows ih =>
    have hrest : ∀ {st}, x ∈ weighedShifts rows st → ∃ p crew, .shift p x.1 crew ∈ r :: rows := fun hx =>
      (ih hx).imp fun p => Exists.imp fun crew => List.mem_cons_of_mem r
    cases r with
    | empty => exact hrest h
    | shift p n crew =>
      rcases List.mem_cons.1 h with rfl | h
      · exact ⟨p, crew, List.mem_cons_self⟩
      · exact hrest h
    | repeatGroup n => exact hrest h
    | endGroup => exact hrest h

/-- Where every SHIFT has a length, no SHIFT is reached exactly where a pass has no minutes. -/
theorem noShift_iff {t : Table 24 Row} (h : ∀ p n crew, .shift p n crew ∈ partRows t → 1 ≤ n) :
    noShift (partRows t) = true ↔ cycleLength t = 0 := by
  have hzero : cycleLength t = 0 ↔ ∀ x ∈ weighedShifts (partRows t) [], x.1 * x.2 = 0 := by
    rw [cycleLength, rowsOf_eq, List.sum_eq_zero_iff, List.forall_mem_map]
  rw [hzero, noShift, List.all_eq_true]
  refine forall₂_congr fun x hx => ?_
  obtain ⟨p, crew, hrow⟩ := exists_row_of_mem_weighedShifts hx
  have hlength : x.1 ≠ 0 := by have := h p x.1 crew hrow; omega
  simp [hlength]

end Sys2Proof.Machine
end

section
/-! The validation of a plan (R29, Table 2-3). -/

namespace Sys2Proof.Machine

section
variable {t : Table 24 Row}

theorem planDetail_unbalanced (h : unbalanced (partRows t) 0 = true) : planDetail t = some 1 := by
  rw [planDetail, rowsOf_eq, if_pos h]

theorem planDetail_balanced (h : unbalanced (partRows t) 0 = false) :
    planDetail t =
      if tooDeep (partRows t) 0 then some 2
      else if noShift (partRows t) then some 3
      else if cycleLength t < 60 then some 4
      else if 40320 < cycleLength t then some 5
      else none := by
  rw [planDetail, rowsOf_eq]
  exact if_neg (by simp [h])

theorem planDetail_eq_one_iff : planDetail t = some 1 ↔ unbalanced (partRows t) 0 = true := by
  refine ⟨fun h => ?_, planDetail_unbalanced⟩
  by_contra hbalanced
  rw [planDetail_balanced (by simpa using hbalanced)] at h
  split_ifs at h <;> simp at h

theorem planDetail_eq_two_iff :
    planDetail t = some 2 ↔ unbalanced (partRows t) 0 = false ∧ tooDeep (partRows t) 0 = true := by
  cases h : unbalanced (partRows t) 0 with
  | true => simp [planDetail_unbalanced h]
  | false =>
    rw [planDetail_balanced h]
    split_ifs with hdeep <;> simp [hdeep]

/-- The rows of a table are unbalanced as the counts of Table 2-3 say. -/
theorem unbalanced_partRows_iff :
    unbalanced (partRows t) 0 = true ↔
      (∃ k, repeats ((partRows t).take k) < ends ((partRows t).take k))
      ∨ repeats ((partRows t).take 24) ≠ ends ((partRows t).take 24) := by
  rw [List.take_of_length_le (partRows_length_le t)]
  exact unbalanced_iff (partRows t) 0

/-- The checks by the minutes of a pass, in a table that passes the checks before them. -/
theorem planDetail_by_minutes (hbalanced : unbalanced (partRows t) 0 = false)
    (hshallow : tooDeep (partRows t) 0 = false) (h : ∀ p n crew, .shift p n crew ∈ partRows t → 1 ≤ n) :
    planDetail t =
      if cycleLength t = 0 then some 3
      else if cycleLength t < 60 then some 4
      else if 40320 < cycleLength t then some 5
      else none := by
  rw [planDetail_balanced hbalanced, hshallow, if_neg Bool.false_ne_true]
  simp only [noShift_iff h]

end

/-- Settles O26: the checks by counts of rows, the cycle length, then the checks by the minutes of a pass. -/
theorem planValidationFollowsTable : Obligations.PlanValidationFollowsTable := by
  intro t
  have hbalanced := unbalanced_partRows_iff (t := t)
  have hdeep (h : unbalanced (partRows t) 0 = false) := tooDeep_iff (Nat.zero_le 3) h
  refine ⟨planDetail_eq_one_iff.trans hbalanced, ?_, fun _ => cycleLength_eq t, fun hnot hshallow hlengths => ?_⟩
  · rw [planDetail_eq_two_iff, ← hbalanced, Bool.not_eq_true]
    exact and_congr_right fun h => hdeep h
  · rw [← hbalanced, Bool.not_eq_true] at hnot
    have hshallow' : tooDeep (partRows t) 0 = false := by
      rw [← Bool.not_eq_true, hdeep hnot]
      exact hshallow
    rw [planDetail_by_minutes hnot hshallow' hlengths, ← cycleLength_eq]
    refine ⟨?_, ?_, ?_, ?_⟩
    all_goals
      split_ifs <;> simp <;> omega

end Sys2Proof.Machine
end

section
/-! SUPPORT. A table that is neither unbalanced nor too deep nests its groups (Table 2-3): the rows, the minutes of the
rows, and the passes of each group. -/

namespace Sys2Proof.Machine

/-- Rows whose groups all close among them, with at most `d` open at once, and the minutes of one pass over them. -/
inductive Nests : Nat → List Row → Nat → Prop where
  | nil {d} : Nests d [] 0
  | empty {d rows m} : Nests d rows m → Nests d (.empty :: rows) m
  | shift {d rows m p n crew} : Nests d rows m → Nests d (.shift p n crew :: rows) (n + m)
  | group {d c body rest m m'} : Nests d body m → Nests (d + 1) rest m' →
      Nests (d + 1) (.repeatGroup c :: (body ++ .endGroup :: rest)) (c * m + m')

/-- With `d` groups open, and room for `e` more, the rows down to the END that closes the innermost nest; with none
open, all rows do. -/
def SplitsAt (d e : Nat) (rows : List Row) : Prop :=
  ∃ body m, Nests e body m ∧
    ((d = 0 ∧ rows = body)
      ∨ ∃ rest, 0 < d ∧ rows = body ++ .endGroup :: rest ∧ unbalanced rest (d - 1) = false
        ∧ tooDeep rest (d - 1) = false)

/-- Rows that join those that nest, at their front. -/
theorem SplitsAt.prepend {d e : Nat} {front rows : List Row} (h : SplitsAt d e rows)
    (hfront : ∀ {body m}, Nests e body m → ∃ m', Nests e (front ++ body) m') : SplitsAt d e (front ++ rows) := by
  obtain ⟨body, m, hbody, hrows⟩ := h
  obtain ⟨m', hm'⟩ := hfront hbody
  refine ⟨front ++ body, m', hm', ?_⟩
  rcases hrows with ⟨hd, rfl⟩ | ⟨rest, hd, rfl, hrest⟩
  · exact .inl ⟨hd, rfl⟩
  · exact .inr ⟨rest, hd, (List.append_assoc _ _ _).symm, hrest⟩

theorem splitsAt_of_balanced {rows : List Row} {d e : Nat} (hde : d + e = 3) (hbalanced : unbalanced rows d = false)
    (hshallow : tooDeep rows d = false) : SplitsAt d e rows := by
  induction hlength : rows.length using Nat.strong_induction_on generalizing rows d e with
  | _ size ih =>
    cases rows with
    | nil => exact ⟨[], 0, .nil, .inl ⟨by simpa [unbalanced] using hbalanced, rfl⟩⟩
    | cons r rows =>
      have hsize : rows.length < size := by rw [← hlength]; exact Nat.lt_succ_self _
      cases r with
      | empty =>
        have hrest := ih _ hsize hde (by simpa [unbalanced] using hbalanced) (by simpa [tooDeep] using hshallow) rfl
        exact hrest.prepend (front := [.empty]) fun h => ⟨_, .empty h⟩
      | shift p n crew =>
        have hrest := ih _ hsize hde (by simpa [unbalanced] using hbalanced) (by simpa [tooDeep] using hshallow) rfl
        exact hrest.prepend (front := [.shift p n crew]) fun h => ⟨_, .shift h⟩
      | endGroup =>
        cases d with
        | zero => simp [unbalanced] at hbalanced
        | succ d => exact ⟨[], 0, .nil, .inr ⟨rows, by omega, rfl, hbalanced, hshallow⟩⟩
      | repeatGroup c =>
        simp only [tooDeep, Bool.or_eq_false_iff, decide_eq_false_iff_not] at hshallow
        obtain ⟨hroom, hshallow⟩ := hshallow
        obtain ⟨e, rfl⟩ := Nat.exists_eq_add_one_of_ne_zero (show e ≠ 0 by omega)
        obtain ⟨body, m, hbody, ⟨hzero, _⟩ | ⟨rest, _, rfl, hrest, hrest'⟩⟩ :=
          ih _ hsize (d := d + 1) (e := e) (by omega) hbalanced hshallow rfl
        · exact absurd hzero (Nat.succ_ne_zero d)
        · have hshorter : rest.length < size := by
            rw [List.length_append, List.length_cons] at hsize
            omega
          have hsplits := ih _ hshorter hde hrest hrest' rfl
          have hfront := hsplits.prepend (front := .repeatGroup c :: (body ++ [.endGroup]))
            fun {after m'} h => ⟨c * m + m', by simpa using Nests.group hbody h⟩
          simpa using hfront

/-- The rows of a table that passes the first two checks nest. -/
theorem exists_nests {rows : List Row} (hbalanced : unbalanced rows 0 = false) (hshallow : tooDeep rows 0 = false) :
    ∃ m, Nests 3 rows m := by
  obtain ⟨body, m, hnests, ⟨_, rfl⟩ | ⟨_, hpos, _⟩⟩ := splitsAt_of_balanced (Nat.zero_add 3) hbalanced hshallow
  · exact ⟨m, hnests⟩
  · exact absurd hpos (lt_irrefl 0)

section
variable {d m : Nat} {rows : List Row}

/-- The minutes that the model adds up for rows that nest are those of one pass, times the counts around them. -/
theorem Nests.weighedMinutes_append (h : Nests d rows m) (after : List Row) (st : List Nat) :
    weighedMinutes (rows ++ after) st = m * st.headD 1 + weighedMinutes after st := by
  induction h generalizing after st with
  | nil => simp
  | empty _ ih => simpa using ih after st
  | shift _ ih => rw [List.cons_append, weighedMinutes_shift, ih]; ring
  | group _ _ ihbody ihrest =>
    rw [List.cons_append, weighedMinutes_repeatGroup, List.append_assoc, ihbody, List.cons_append,
      weighedMinutes_endGroup, List.tail_cons, ihrest, List.headD_cons]
    ring

theorem Nests.weighedMinutes_eq (h : Nests d rows m) : weighedMinutes rows [] = m := by
  simpa using h.weighedMinutes_append [] []

/-- A group whose rows nest ends with the END after them. -/
theorem Nests.groupRows_append (h : Nests d rows m) (after : List Row) (k : Nat) :
    groupRows (rows ++ after) k = rows.length + groupRows after k := by
  induction h generalizing after k with
  | nil => simp
  | empty _ ih => rw [List.cons_append, groupRows_empty, ih, List.length_cons]; omega
  | shift _ ih => rw [List.cons_append, groupRows_shift, ih, List.length_cons]; omega
  | group _ _ ihbody ihrest =>
    rw [List.cons_append, groupRows_repeatGroup, List.append_assoc, ihbody, List.cons_append,
      groupRows_endGroup_succ, ihrest]
    simp only [List.length_cons, List.length_append]
    omega

end

end Sys2Proof.Machine
end

section
/-! SUPPORT. Runs of the walk: the places that it passes, one row after the other, and the minutes of the SHIFT rows
among them (R34, R37). -/

namespace Sys2Proof.Machine

/-- A place of the walk: the row at which it stands, and the loop stack. -/
abbrev Spot := Nat × List LoopFrame

/-- The place after a place, a SHIFT row being passed. -/
def nextSpot (rows : List Row) (a : Spot) : Spot :=
  match meet rows a.1 a.2 with
  | .shift row _ _ _ => (row + 1, a.2)
  | .goOn row stack => (row, stack)

/-- The walk passes from one place to another in at most `n` rows, the lengths of the SHIFT rows passed adding up to
`m`, and with at most three frames on the loop stack at each of those rows. -/
inductive Run (rows : List Row) : Nat → Nat → Spot → Spot → Prop where
  | refl {n a} : Run rows n 0 a a
  | step {n m a a' b} : a.2.length ≤ 3 → nextSpot rows a = a' → Run rows n m a' b →
      Run rows (n + 1) (shiftLength (rowAt rows a.1) + m) a b

section
variable {rows : List Row} {n n' m m' : Nat} {a b c : Spot}

theorem Run.mono (h : Run rows n m a b) (hn : n ≤ n') : Run rows n' m a b := by
  induction h generalizing n' with
  | refl => exact .refl
  | step hstack hnext _ ih =>
    obtain ⟨k, rfl⟩ := Nat.exists_eq_add_one_of_ne_zero (show n' ≠ 0 by omega)
    exact .step hstack hnext (ih (by omega))

/-- A run read with a larger bound, and with its minutes and its last row written in another way. -/
theorem Run.rewrite {i i' : Nat} {stack : List LoopFrame} (h : Run rows n m a (i, stack)) (hn : n ≤ n')
    (hm : m = m') (hi : i = i') : Run rows n' m' a (i', stack) := by
  subst hm hi
  exact h.mono hn

theorem Run.trans (h : Run rows n m a b) (h' : Run rows n' m' b c) : Run rows (n + n') (m + m') a c := by
  induction h with
  | refl => rw [Nat.zero_add]; exact h'.mono (by omega)
  | step hstack hnext _ ih =>
    rw [Nat.add_right_comm, Nat.add_assoc (shiftLength _)]
    exact .step hstack hnext (ih h')

end

section
variable {rows : List Row} {i : Nat} {stack : List LoopFrame}

/-- The walk passes a SHIFT row. -/
theorem Run.passShift {p : ProfileNo} {n crew : Nat} (h : rows[i]? = some (.shift p n crew))
    (hstack : stack.length ≤ 3) : Run rows 1 n (i, stack) (i + 1, stack) := by
  have hnext : nextSpot rows (i, stack) = (i + 1, stack) := by simp [nextSpot, meet_shift h]
  simpa [rowAt, h, shiftLength] using Run.step hstack hnext (Run.refl (n := 0))

/-- The length of the row at a place where the walk goes on. -/
theorem shiftLength_of_goOn {i' : Nat} {stack' : List LoopFrame} (h : meet rows i stack = .goOn i' stack') :
    shiftLength (rowAt rows i) = 0 := by
  unfold rowAt
  cases hrow : rows[i]? with
  | none => rfl
  | some r =>
    cases r with
    | shift p n crew => rw [meet_shift hrow] at h; cases h
    | empty => rfl
    | repeatGroup n => rfl
    | endGroup => rfl

/-- The walk passes a row that is no SHIFT row. -/
theorem Run.passOther {i' : Nat} {stack' : List LoopFrame} (h : meet rows i stack = .goOn i' stack')
    (hstack : stack.length ≤ 3) : Run rows 1 0 (i, stack) (i', stack') := by
  have hnext : nextSpot rows (i, stack) = (i', stack') := by simp [nextSpot, h]
  simpa [shiftLength_of_goOn h] using Run.step hstack hnext (Run.refl (n := 0))

end

/-! ### Runs over rows that nest -/

/-- The passes of a group: its rows and its END, once for each pass left (R34). -/
theorem Run.passes {rows : List Row} {i j m size : Nat} {outer : List LoopFrame}
    (hbody : ∀ passes, Run rows size m (i + 1, ⟨i, passes⟩ :: outer) (j, ⟨i, passes⟩ :: outer))
    (hend : rows[j]? = some .endGroup) (houter : outer.length < 3) (passes : Nat) :
    Run rows ((passes + 1) * (size + 1)) ((passes + 1) * m) (i + 1, ⟨i, passes + 1⟩ :: outer) (j + 1, outer) := by
  induction passes with
  | zero =>
    have hleave := Run.passOther (meet_endGroup_last (row := i) (stack := outer) hend le_rfl) houter
    exact ((hbody 1).trans hleave).rewrite (by omega) (by omega) rfl
  | succ passes ih =>
    have hagain := Run.passOther
      (meet_endGroup_again (row := i) (passes := passes + 2) (stack := outer) hend (by omega)) houter
    exact (((hbody (passes + 2)).trans hagain).trans ih).rewrite (by rw [Nat.succ_mul (passes + 1)]; omega)
      (by rw [Nat.succ_mul (passes + 1)]; omega) rfl

theorem getElem?_of_drop {rows l : List Row} {i : Nat} {r : Row} (h : rows.drop i = r :: l) : rows[i]? = some r := by
  rw [← List.head?_drop, h]; rfl

theorem drop_succ_of_drop {rows l : List Row} {i : Nat} {r : Row} (h : rows.drop i = r :: l) :
    rows.drop (i + 1) = l := by
  rw [← List.tail_drop, h]; rfl

theorem drop_of_drop_append {rows l l' : List Row} {i : Nat} (h : rows.drop i = l ++ l') :
    rows.drop (i + l.length) = l' := by
  rw [← List.drop_drop, h, List.drop_left]

/-- One row before others is within the bound of `Nests.run`. -/
theorem row_rows_le (d size : Nat) : 1 + size * 99 ^ d ≤ (size + 1) * 99 ^ d := by
  have hpos : 1 ≤ 99 ^ d := Nat.one_le_pow _ _ (by omega)
  rw [Nat.succ_mul]
  omega

/-- The rows that a group's passes read, and those after it, are within the bound of `Nests.run`. -/
theorem group_rows_le {c b r d : Nat} (hc : c ≤ 99) :
    1 + c * (b * 99 ^ d + 1) + r * 99 ^ (d + 1) ≤ (b + (r + 1) + 1) * 99 ^ (d + 1) := by
  have hpasses := Nat.mul_le_mul_right (b * 99 ^ d + 1) hc
  have hpos : 1 ≤ 99 ^ d := Nat.one_le_pow _ _ (by omega)
  rw [pow_succ]
  nlinarith

/-- The walk over rows that nest comes out after them with the loop stack it came with, having passed the minutes of one
pass; it reads no row more often than the groups around it repeat. -/
theorem Nests.run {d m : Nat} {seg : List Row} (h : Nests d seg m) {rows after : List Row} {i : Nat}
    {stack : List LoopFrame} (hcounts : ∀ c, .repeatGroup c ∈ rows → c ≤ 99) (hrows : rows.drop i = seg ++ after)
    (hstack : stack.length + d ≤ 3) :
    Run rows (seg.length * 99 ^ d) m (i, stack) (i + seg.length, stack) := by
  induction h generalizing i stack after with
  | nil => exact .refl
  | empty _ ih =>
    have hpass := Run.passOther (meet_empty (stack := stack) (getElem?_of_drop hrows)) (by omega)
    exact (hpass.trans (ih (drop_succ_of_drop hrows) hstack)).rewrite (row_rows_le _ _) (by omega)
      (by rw [List.length_cons]; omega)
  | shift _ ih =>
    have hpass := Run.passShift (stack := stack) (getElem?_of_drop hrows) (by omega)
    exact (hpass.trans (ih (drop_succ_of_drop hrows) hstack)).rewrite (row_rows_le _ _) rfl
      (by rw [List.length_cons]; omega)
  | @group d c body rest m m' hbody _ ihbody ihrest =>
    rw [List.cons_append] at hrows
    have hrow := getElem?_of_drop hrows
    have hdrop : rows.drop (i + 1) = body ++ .endGroup :: (rest ++ after) := by
      rw [drop_succ_of_drop hrows, List.append_assoc, List.cons_append]
    have hend := drop_of_drop_append hdrop
    have hrest := ihrest (drop_succ_of_drop hend) hstack
    have hlast : i + 1 + body.length + 1 + rest.length
        = i + (.repeatGroup c :: (body ++ .endGroup :: rest)).length := by
      rw [List.length_cons, List.length_append, List.length_cons]
      omega
    have hgroup : Run rows (1 + c * (body.length * 99 ^ d + 1)) (c * m) (i, stack)
        (i + 1 + body.length + 1, stack) := by
      cases c with
      | zero =>
        have hskip := Run.passOther (meet_repeatGroup_zero (stack := stack) hrow) (by omega)
        rw [hdrop, hbody.groupRows_append] at hskip
        exact hskip.rewrite (by omega) (by omega) (by rw [groupRows_endGroup_zero]; omega)
      | succ passes =>
        have hopen := Run.passOther (meet_repeatGroup (stack := stack) hrow (by omega)) (by omega)
        have hpasses := Run.passes (outer := stack) (i := i)
          (fun passes => ihbody (stack := ⟨i, passes⟩ :: stack) hdrop (by rw [List.length_cons]; omega))
          (getElem?_of_drop hend) (by omega) passes
        exact (hopen.trans hpasses).rewrite le_rfl (by omega) rfl
    refine (hgroup.trans hrest).rewrite ?_ rfl hlast
    rw [List.length_cons, List.length_append, List.length_cons]
    exact group_rows_le (hcounts c (List.mem_of_getElem? hrow))

/-! ### Placements on a run -/

section
variable {rows : List Row}

/-- A placement stops at a SHIFT row that is longer than the minutes to be used. -/
theorem placeFrom_stops {i use fuel : Nat} {stack : List LoopFrame} {p : ProfileNo} {n crew : Nat}
    (hrow : rows[i]? = some (.shift p n crew)) (huse : use < n) :
    placeFrom rows (fuel + 1) i stack use = some (.inShift i (n - use) stack) := by
  rw [placeFrom, meet_shift hrow]
  exact if_pos huse

/-- At any other row it goes on, with the row's minutes used. -/
theorem placeFrom_passes {a : Spot} {use fuel : Nat} (huse : shiftLength (rowAt rows a.1) ≤ use) :
    placeFrom rows (fuel + 1) a.1 a.2 use
      = placeFrom rows fuel (nextSpot rows a).1 (nextSpot rows a).2 (use - shiftLength (rowAt rows a.1)) := by
  rw [placeFrom, nextSpot]
  cases hmeet : meet rows a.1 a.2 with
  | shift row n p crew =>
    obtain ⟨rfl, hrow⟩ := row_of_meet_shift hmeet
    have hlength : shiftLength (rowAt rows a.1) = n := by simp [rowAt, hrow, shiftLength]
    rw [hlength] at huse ⊢
    exact if_neg (by omega)
  | goOn i stack => rw [shiftLength_of_goOn hmeet, Nat.sub_zero]

/-- A row that has a length is a SHIFT row. -/
theorem exists_shift_of_shiftLength_pos {i : Nat} (h : 0 < shiftLength (rowAt rows i)) :
    ∃ p crew, rows[i]? = some (.shift p (shiftLength (rowAt rows i)) crew) := by
  unfold rowAt at h ⊢
  cases hrow : rows[i]? with
  | none => simp [hrow, shiftLength] at h
  | some r =>
    cases r with
    | shift p n crew => exact ⟨p, crew, rfl⟩
    | empty => simp [hrow, shiftLength] at h
    | repeatGroup n => simp [hrow, shiftLength] at h
    | endGroup => simp [hrow, shiftLength] at h

/-- A placement arrives at a SHIFT row with 1 to its length of minutes left, and with its whole length where none are to
be used; from the row after it the walk goes on to a place. -/
def ArrivesBefore (rows : List Row) (n use : Nat) (b : Spot) (x : Option Cursor) : Prop :=
  ∃ row left stack p length crew, x = some (.inShift row left stack) ∧ rows[row]? = some (.shift p length crew)
    ∧ 1 ≤ left ∧ left ≤ length ∧ (use = 0 → left = length) ∧ stack.length ≤ 3
    ∧ ∃ m, Run rows n m (row + 1, stack) b

/-- A placement of fewer minutes than a run passes arrives on the run. -/
theorem Run.arrives {n m use fuel : Nat} {a b : Spot} (h : Run rows n m a b) (huse : use < m) (hfuel : n ≤ fuel) :
    ArrivesBefore rows n use b (placeFrom rows fuel a.1 a.2 use) := by
  induction h generalizing use fuel with
  | refl => exact absurd huse (Nat.not_lt_zero use)
  | @step n m a a' b hstack hnext hrun ih =>
    obtain ⟨fuel, rfl⟩ := Nat.exists_eq_add_one_of_ne_zero (show fuel ≠ 0 by omega)
    by_cases hlt : use < shiftLength (rowAt rows a.1)
    · obtain ⟨p, crew, hrow⟩ := exists_shift_of_shiftLength_pos (by omega : 0 < shiftLength (rowAt rows a.1))
      have hafter : a' = (a.1 + 1, a.2) := by rw [← hnext, nextSpot, meet_shift hrow]
      exact ⟨a.1, _, a.2, p, _, crew, placeFrom_stops hrow hlt, hrow, by omega, by omega, by omega, hstack, m,
        hafter ▸ hrun.mono (Nat.le_succ n)⟩
    · rw [placeFrom_passes (by omega), hnext]
      obtain ⟨row, left, stack, p, length, crew, hx, hrow, hlow, hhigh, hwhole, hframes, m', hrest⟩ :=
        ih (use := use - shiftLength (rowAt rows a.1)) (fuel := fuel) (by omega) (by omega)
      exact ⟨row, left, stack, p, length, crew, hx, hrow, hlow, hhigh, fun hzero => hwhole (by omega), hframes, m',
        hrest.mono (Nat.le_succ n)⟩

/-- Where every SHIFT has a length, the walk is the placement of no minutes. -/
theorem walkFrom_eq_placeFrom (hlengths : ∀ p n crew, .shift p n crew ∈ rows → 1 ≤ n) (fuel i : Nat)
    (stack : List LoopFrame) : walkFrom rows fuel i stack = placeFrom rows fuel i stack 0 := by
  induction fuel generalizing i stack with
  | zero => rfl
  | succ fuel ih =>
    rw [walkFrom, placeFrom]
    cases hmeet : meet rows i stack with
    | shift row n p crew =>
      have hpos := hlengths p n crew (List.mem_of_getElem? (row_of_meet_shift hmeet).2)
      simp [show 0 < n by omega]
    | goOn i' stack' => exact ih i' stack'

end

end Sys2Proof.Machine
end

section
/-! The rotation of a valid table is placed (R29, R33, R34, R37). -/

namespace Sys2Proof.Machine

/-- A valid table passes the checks of Table 2-3 that the rotation rests on. -/
theorem planDetail_eq_none {t : Table 24 Row} (h : planDetail t = none) :
    unbalanced (partRows t) 0 = false ∧ tooDeep (partRows t) 0 = false ∧ 60 ≤ cycleLength t := by
  rw [planDetail, rowsOf_eq] at h
  split_ifs at h with hbalanced hshallow hshift hshort
  exact ⟨by simpa using hbalanced, by simpa using hshallow, by omega⟩

/-- The rows that a pass over a valid table reads at most. -/
def passRows : Nat := 24 * 99 ^ 3

section
variable {t : Table 24 Row} (h : ValidTable t)
include h

theorem ValidTable.lengths : ∀ p n crew, .shift p n crew ∈ partRows t → 1 ≤ n := by
  obtain ⟨_, hlengths, _⟩ := h
  exact fun p n crew hrow => (hlengths p n crew ((partRows_prefix t).mem hrow)).1

theorem ValidTable.ne_nil : partRows t ≠ [] := by
  obtain ⟨hvalid, _, _⟩ := h
  obtain ⟨_, _, hcycle⟩ := planDetail_eq_none hvalid
  intro hnil
  rw [cycleLength, rowsOf_eq, hnil] at hcycle
  simp [weighedShifts] at hcycle

/-- One pass over a valid table, from row 0 past its last row, passes the minutes of the cycle. -/
theorem ValidTable.pass : Run (partRows t) passRows (cycleLength t) (0, []) ((partRows t).length, []) := by
  obtain ⟨hvalid, _, hcounts⟩ := h
  obtain ⟨hbalanced, hshallow, _⟩ := planDetail_eq_none hvalid
  obtain ⟨m, hnests⟩ := exists_nests hbalanced hshallow
  have hcycle : m = cycleLength t := by rw [← hnests.weighedMinutes_eq, cycleLength, rowsOf_eq]; rfl
  have hrun := hnests.run (stack := []) (i := 0) (after := [])
    (fun c hc => hcounts c ((partRows_prefix t).mem hc)) (by simp) le_rfl
  exact hrun.rewrite (Nat.mul_le_mul_right _ (partRows_length_le t)) hcycle (Nat.zero_add _)

/-- Past the last row a valid table is read again. -/
theorem ValidTable.passAgain :
    Run (partRows t) (1 + passRows) (0 + cycleLength t) ((partRows t).length, []) ((partRows t).length, []) :=
  (Run.passOther (meet_past (stack := []) le_rfl) (Nat.zero_le 3)).trans h.pass

theorem ValidTable.walk_eq (i : Nat) (stack : List LoopFrame) :
    walk t i stack = placeFrom (partRows t) walkFuel i stack 0 := by
  rw [walk, rowsOf_eq, if_pos ((holdsRotation_iff t).2 h.ne_nil), walkFrom_eq_placeFrom h.lengths]

theorem ValidTable.place_eq (e : Nat) :
    place t e = placeFrom (partRows t) walkFuel 0 [] (e % cycleLength t) := by
  rw [place, rowsOf_eq, if_pos ((holdsRotation_iff t).2 h.ne_nil)]

theorem ValidTable.cycleLength_pos : 0 < cycleLength t := by
  obtain ⟨hvalid, _, _⟩ := h
  obtain ⟨_, _, hcycle⟩ := planDetail_eq_none hvalid
  omega

/-- A walk from a place on a pass arrives, on that pass or on the next. -/
theorem ValidTable.walk_arrives {n m i : Nat} {stack : List LoopFrame} (hn : n ≤ passRows)
    (hrun : Run (partRows t) n m (i, stack) ((partRows t).length, [])) :
    ArrivesBefore (partRows t) (n + (1 + passRows)) 0 ((partRows t).length, []) (walk t i stack) := by
  rw [h.walk_eq]
  have hpos := h.cycleLength_pos
  have hfuel : n + (1 + passRows) ≤ walkFuel := by
    have : passRows + (1 + passRows) ≤ walkFuel := by norm_num [passRows, walkFuel]
    omega
  exact (hrun.trans h.passAgain).arrives (by omega) hfuel

theorem ValidTable.place_arrives (e : Nat) :
    ArrivesBefore (partRows t) passRows (e % cycleLength t) ((partRows t).length, []) (place t e) := by
  rw [h.place_eq]
  exact h.pass.arrives (Nat.mod_lt _ h.cycleLength_pos) (by norm_num [passRows, walkFuel])

end

/-- A cursor stands at a SHIFT row of a table, with 1 to its length of minutes left or the whole of it, and with at most
three loop frames. -/
def InShift (t : Table 24 Row) (x : Option Cursor) (whole : Bool) : Prop :=
  ∃ row left stack p n crew, x = some (.inShift row left stack) ∧ t.get? row = some (.shift p n crew)
    ∧ 1 ≤ left ∧ left ≤ n ∧ (whole = true → left = n) ∧ stack.length ≤ 3

theorem ArrivesBefore.inShift {t : Table 24 Row} {n use : Nat} {b : Spot} {x : Option Cursor} {whole : Bool}
    (h : ArrivesBefore (partRows t) n use b x) (hwhole : whole = true → use = 0) : InShift t x whole := by
  obtain ⟨row, left, stack, p, length, crew, hx, hrow, hlow, hhigh, huse, hframes, _⟩ := h
  exact ⟨row, left, stack, p, length, crew, hx, get?_of_partRows hrow, hlow, hhigh, fun h => huse (hwhole h), hframes⟩

/-- From the row after the place where it arrives, a run goes on. -/
theorem ArrivesBefore.run {rows : List Row} {n use row left : Nat} {stack : List LoopFrame} {b : Spot}
    (h : ArrivesBefore rows n use b (some (.inShift row left stack))) : ∃ m, Run rows n m (row + 1, stack) b := by
  obtain ⟨_, _, _, _, _, _, hx, _, _, _, _, _, hrun⟩ := h
  cases hx
  exact hrun

/-- Settles O28: the walk and the placement arrive on a pass over the table, and the walk from the row after the place
goes on along the same pass. -/
theorem rotationIsPlaced : Obligations.RotationIsPlaced := by
  intro t h
  refine ⟨(h.walk_arrives le_rfl h.pass).inShift fun _ => rfl, fun e => ?_⟩
  have hplaced := h.place_arrives e
  refine ⟨hplaced.inShift nofun, fun row left stack hx => ?_⟩
  rw [hx] at hplaced
  obtain ⟨m, hrun⟩ := hplaced.run
  exact (h.walk_arrives le_rfl hrun).inShift fun _ => rfl

end Sys2Proof.Machine
end

section
/-! The values of the Door Unit and the notices of their changes (R68 to R70). -/

namespace Sys2Proof.Machine

/-! ### The values (R68, R69) -/

theorem Door.unsealed_iff (d : Door) : d.unsealed = true ↔ d.state = .opened ∨ d.state = .dwell := by
  simp [Door.unsealed]

theorem Doors.openUnsealed_eq (d : Doors) (z : Zone) :
    d.openUnsealed z = ((List.finRange 32).filter fun n =>
      (d.doors.get n).inZone z && (d.doors.get n).unsealed).length := by
  rw [Doors.openUnsealed, Table.entries_eq, List.countP_map, List.countP_eq_length_filter]
  rfl

theorem Doors.holdDown_iff (d : Doors) (z : Zone) :
    d.holdDown z = true ↔ ∃ n, (d.doors.get n).inZone z = true ∧ (d.doors.get n).state = .dwell := by
  simp only [Doors.holdDown, any_entries_iff, Bool.and_eq_true, beq_iff_eq]

theorem Doors.curtainRequest_curtain (d : Doors) {f : LoadDef} {n : DoorNo} (htype : f.type = .curtain)
    (hdoor : f.door = some n) : d.curtainRequest (some f) = if (d.doors.get n).unsealed then 1 else 0 := by
  simp only [Doors.curtainRequest, htype, hdoor]

/-- A load of another type has no curtain request. -/
theorem Doors.curtainRequest_other (d : Doors) {l : Option LoadDef} (h : (l.map fun f => f.type) ≠ some .curtain) :
    d.curtainRequest l = 0 := by
  cases l with
  | none => rfl
  | some f =>
    simp only [Doors.curtainRequest]
    split
    · next htype _ => exact absurd (by simp [htype]) h
    · rfl

theorem doorValuesHold (d : Doors) : DoorValuesHold d where
  openUnsealed z := by
    simp only [d.openUnsealed_eq, ← Door.inZone_iff, ← Door.unsealed_iff, Bool.decide_and, Bool.decide_eq_true]
  holdDown z := by
    simp only [d.holdDown_iff, Door.inZone_iff, Option.map_eq_some_iff, ← exists_and_right, and_assoc]
  curtain f n htype hdoor := by simp only [d.curtainRequest_curtain htype hdoor, Door.unsealed_iff]
  dock n := by simp [Doors.dockSealed]

/-! ### The notices of changed values (R70) -/

theorem zoneDoorNotices_eq (old new : Doors) (z : Zone) :
    zoneDoorNotices old new z =
      noticeIf (old.holdDown z ≠ new.holdDown z) [.holdDownFlagNotice z (new.holdDown z)]
      ++ noticeIf (old.openUnsealed z ≠ new.openUnsealed z)
          [.heatOpenUnsealedCountNotice z (new.openUnsealed z), .airOpenUnsealedCountNotice z (new.openUnsealed z)] := by
  simp only [zoneDoorNotices, noticeIf, ite_not]

/-- Only a CURTAIN load's request changes. -/
theorem curtainNotices_eq (old new : Doors) (l : Option LoadDef) (n : LoadNo) :
    curtainNotices old new l n =
      noticeIf ((l.map fun f => f.type) = some .curtain ∧ old.curtainRequest l ≠ new.curtainRequest l)
        [.curtainRequestNotice n (new.curtainRequest l)] := by
  by_cases hcurtain : (l.map fun f => f.type) = some .curtain
  · simp only [curtainNotices, noticeIf, hcurtain, true_and, ite_not]
  · simp [curtainNotices, noticeIf, hcurtain, Doors.curtainRequest_other]

theorem hasDockLight_iff (loads : Table 64 Load) (d : DoorNo) :
    hasDockLight loads d = true ↔ ∃ n, ((loads.get n).defn.map fun f => f.type) = some .light
      ∧ ((loads.get n).defn.bind fun f => f.door) = some d := by
  have hload (l : Load) : (l.isType .light && l.boundTo d) = true ↔
      (l.defn.map fun f => f.type) = some .light ∧ (l.defn.bind fun f => f.door) = some d := by
    unfold Load.isType Load.boundTo
    cases l.defn <;> simp
  simp only [hasDockLight, any_entries_iff, hload]

theorem dockNotices_eq (loads : Table 64 Load) (old new : Doors) (d : DoorNo) :
    dockNotices loads old new d =
      noticeIf ((∃ n, ((loads.get n).defn.map fun f => f.type) = some .light
          ∧ ((loads.get n).defn.bind fun f => f.door) = some d) ∧ old.dockSealed d ≠ new.dockSealed d)
        [.dockLightNotice d (new.dockSealed d)] := by
  simp only [← hasDockLight_iff, dockNotices, noticeIf]
  by_cases hsame : old.dockSealed d = new.dockSealed d
  · simp [hsame]
  · simp [hsame]

/-- The notices that the model gives are those of the values that differ. -/
theorem doorNotices_eq_due (s b : State) : doorNotices s.loads s.doors b.doors = s.doorNoticesDue b := by
  simp only [doorNotices, State.doorNoticesDue, funext (zoneDoorNotices_eq _ _), curtainNotices_eq,
    funext (dockNotices_eq _ _ _)]

/-- Where no door record changes, no value does: the lines and the filter time play no part in them. -/
theorem doorNotices_of_doors_eq (loads : Table 64 Load) {old new : Doors} (h : new.doors = old.doors) :
    doorNotices loads old new = [] := by
  have hzone (z : Zone) : zoneDoorNotices old new z = [] := by
    simp [zoneDoorNotices, Doors.holdDown, Doors.openUnsealed, h]
  have hcurtain (l : Option LoadDef) (n : LoadNo) : curtainNotices old new l n = [] := by
    simp [curtainNotices, Doors.curtainRequest, h]
  have hdock (d : DoorNo) : dockNotices loads old new d = [] := by simp [dockNotices, Doors.dockSealed, h]
  simp [doorNotices, hzone, hcurtain, hdock]

/-! ### Events that give the changed values -/

theorem doorValuesGiven_of_given {s b : State} (h : s.given b (doorNotices s.loads s.doors b.doors)) :
    DoorValuesGiven s b :=
  ⟨s.doorNoticesDue b, .refl _, doorNotices_eq_due s b ▸ h⟩

/-- Nothing is given, and nothing has to be, where no door record changes. -/
theorem doorValuesGiven_of_doors_eq {s b : State} (hdoors : b.doors.doors = s.doors.doors)
    (hflight : b.inFlight = s.inFlight) : DoorValuesGiven s b := by
  apply doorValuesGiven_of_given
  rw [doorNotices_of_doors_eq s.loads hdoors]
  simp [State.given, hflight]

theorem State.doorEvent_doorValuesGiven (new : Doors) (s : State) : DoorValuesGiven s (s.doorEvent new) :=
  doorValuesGiven_of_given (State.give_notices _ _)

/-- Whether the changed values are given rests on the records of the Door Unit, the loads and the notices in flight. -/
theorem DoorValuesGiven.congr {s s' b b' : State} (h : DoorValuesGiven s b) (hdoors : s'.doors = s.doors)
    (hloads : s'.loads = s.loads) (hflight : s'.inFlight = s.inFlight) (hdoors' : b'.doors = b.doors)
    (hflight' : b'.inFlight = b.inFlight) : DoorValuesGiven s' b' := by
  simpa only [DoorValuesGiven, State.gives, State.given, State.doorNoticesDue, hdoors, hloads, hflight, hdoors',
    hflight'] using h

theorem finish_doorValuesGiven {s u t : State} (hu : DoorValuesGiven s u) (h : finish u = .next t) :
    DoorValuesGiven s t := by
  cases h
  exact hu.congr rfl rfl rfl u.settle_doors u.settle_inFlight

/-- A request gives the changed values where its effects do. -/
theorem request_doorValuesGiven {c : Instr} {act : State → State × Answer} {s t : State}
    (hact : DoorValuesGiven (s.takeHanded c) (act (s.takeHanded c)).1) (h : request c act s = .next t) :
    DoorValuesGiven s t := by
  unfold request at h
  split at h
  · refine finish_doorValuesGiven ?_ h
    exact hact.congr (by simp) (by simp) (by simp) rfl rfl
  · exact finish_doorValuesGiven (doorValuesGiven_of_doors_eq rfl rfl) h

theorem State.settleLine_doorValuesGiven (s : State) (n : LineNo) : DoorValuesGiven s (s.settleLine n) := by
  simp only [State.settleLine]
  split
  · exact s.doorEvent_doorValuesGiven _
  · exact doorValuesGiven_of_doors_eq rfl rfl

theorem settledChange_doorValuesGiven {s t : State} {n : LineNo} (h : exec (.settledChange n) s = .next t) :
    DoorValuesGiven s t := by
  refine finish_doorValuesGiven ?_ h
  split
  · exact s.settleLine_doorValuesGiven n
  · exact doorValuesGiven_of_doors_eq rfl rfl

theorem dwellTimerExpiry_doorValuesGiven {s t : State} {n : DoorNo} (h : exec (.dwellTimerExpiry n) s = .next t) :
    DoorValuesGiven s t := by
  refine finish_doorValuesGiven ?_ h
  split
  · dsimp only
    split
    · exact (State.doorEvent_doorValuesGiven _ _).congr (by simp) (by simp) (by simp) rfl rfl
    · exact doorValuesGiven_of_doors_eq rfl rfl
  · exact doorValuesGiven_of_doors_eq rfl rfl

/-- In RUN a definition that is taken is an event at the Door Unit (R58). -/
theorem State.placeDoor_doorValuesGiven {s : State} (hrun : s.running = true) (n : DoorNo) (f : DoorDef) :
    DoorValuesGiven s (s.placeDoor n (some f)).1 := by
  have hdefine : DoorValuesGiven s (s.defineDoor n (some f)) := by
    simp only [State.defineDoor, hrun]
    exact s.doorEvent_doorValuesGiven _
  have hrefuse : DoorValuesGiven s s := doorValuesGiven_of_doors_eq rfl rfl
  unfold State.placeDoor
  dsimp only
  split_ifs
  · exact hdefine
  · exact hrefuse
  · exact hrefuse
  · exact hdefine

/-- In RUN a door stays defined (R56, check 2): this leaves only definitions, which are events. -/
theorem allowedInRun_remove (present : Option DoorDef) : DoorOrder.remove.allowedInRun present = false := rfl

theorem exec_defDoor (f : DoorFields) (s : State) : exec (.defDoor f) s = execDefDoor f s := rfl

theorem defDoor_doorValuesGiven {s t : State} {f : DoorFields} (hrun : s.running = true)
    (h : exec (.defDoor f) s = .next t) : DoorValuesGiven s t := by
  rw [exec_defDoor, execDefDoor] at h
  refine request_doorValuesGiven ?_ h
  have hrun' : (s.takeHanded (.defDoor f)).running = true := by simpa using hrun
  generalize s.takeHanded (.defDoor f) = u at hrun'
  have hrefuse (st : Status) : DoorValuesGiven u (refuse st u).1 := doorValuesGiven_of_doors_eq rfl rfl
  split
  · next n order _ _ =>
    split
    · exact hrefuse _
    · next hallowed =>
      cases order with
      | remove => simp [hrun', allowedInRun_remove] at hallowed
      | define k defn =>
        dsimp only
        split
        · exact hrefuse _
        · split
          · exact hrefuse _
          · exact State.placeDoor_doorValuesGiven hrun' n _
  · exact hrefuse _

/-- Settles O38: the values by R68 and R69, then the notices of each of the three commands. -/
theorem doorEventsGiveNotices : Obligations.DoorEventsGiveNotices := by
  refine ⟨doorValuesHold, ?_⟩
  rintro s t c hrun (⟨n, rfl⟩ | ⟨n, rfl⟩ | ⟨f, rfl⟩) h
  · exact settledChange_doorValuesGiven h
  · exact dwellTimerExpiry_doorValuesGiven h
  · exact defDoor_doorValuesGiven (s.running_iff.2 hrun) h

end Sys2Proof.Machine
end

section
/-! SUPPORT. Effects that take no notice of the request that is handed to a block, and the reports and notices that
the zones of one event give. -/

namespace Sys2Proof.Machine

/-! ### Effects beside the handed request -/

/-- An effect on the state neither reads nor changes which request is handed to a block. -/
def IgnoresHanded (effect : State → State) : Prop :=
  ∀ (s : State) (o : Option Instr), effect (s.withHanded o) = (effect s).withHanded o

section
variable {effect : State → State}

theorem IgnoresHanded.handed (h : IgnoresHanded effect) (s : State) : (effect s).link.handed = s.link.handed := by
  have hsame := congrArg (fun t : State => t.link.handed) (h s s.link.handed)
  exact hsame

theorem IgnoresHanded.takeHanded (h : IgnoresHanded effect) (c : Instr) (s : State) :
    effect (s.takeHanded c) = (effect s).takeHanded c := by
  have hservice : (effect s).inService c = s.inService c := by rw [State.inService, h.handed]; rfl
  rw [State.takeHanded_eq, State.takeHanded_eq, h, hservice, h.handed]

/-- A request completes with the status that its block answers, on the state of its effect. -/
theorem completes_of_effect {c : Instr} {act : State → State × Answer} {st : Status} {s : State}
    (hexec : exec c s = request c act s) (htakes : s.takesRequests = true) (heffect : IgnoresHanded effect)
    (hpart : (effect s).part = s.part) (hact : act (s.takeHanded c) = (effect (s.takeHanded c), Answer.bare st)) :
    Completes c st [] s (effect s) := by
  have hop : (effect s).part.op ≠ .starting := by
    rw [hpart]; simp [State.takesRequests] at htakes; exact htakes.1
  have hservice : (effect s).inService c = s.inService c := by rw [State.inService, heffect.handed]; rfl
  rw [heffect.takeHanded] at hact
  obtain ⟨t, ht, hreply, hframe⟩ := request_replied htakes hact hop hservice
  exact ⟨t, hexec.trans ht, hreply, hframe⟩

end

/-! ### Reports and notices of one event -/

/-- What reports raised do to the Link Unit rests on the Link Unit and the clock alone (R153). -/
theorem State.raiseAll_link_congr {s t : State} (hlink : s.link = t.link) (hcalendar : s.calendar = t.calendar)
    (bs : List Body) : (s.raiseAll bs).link = (t.raiseAll bs).link := by
  induction bs generalizing s t with
  | nil => exact hlink
  | cons b bs ih =>
    refine ih (s := s.raise b) (t := t.raise b) ?_ ?_
    · rw [State.raise_link, State.raise_link, hlink, hcalendar]
    · rw [State.raise_calendar, State.raise_calendar, hcalendar]

/-- Leaving out empty lists of reports loses no report. -/
theorem busyReports_flatten (es : List Effects) : (busyReports es).flatten = es.flatMap fun e => e.reports := by
  rw [busyReports, List.flatten_filter_not_isEmpty, List.flatMap_def]

section
variable {α : Type} {s u : State} (l : List α) (e : α → Effects)

/-- The reports of several zones or records, all of them in some order. -/
theorem State.emit_raised (hlink : u.link = s.link) (hcalendar : u.calendar = s.calendar) :
    s.raised (u.emit (l.map e)) (l.flatMap fun a => (e a).reports) := by
  refine ⟨(arrange u.choices (busyReports (l.map e))).flatten, ?_, ?_⟩
  · rw [← List.flatMap_map (f := e), ← busyReports_flatten]
    exact (arrange_perm _ _).flatten
  · exact State.raiseAll_link_congr (by simpa using hlink) (by simpa using hcalendar) _

theorem State.emit_gives (hflight : u.inFlight = s.inFlight) :
    s.gives (u.emit (l.map e)) (l.flatMap fun a => (e a).notices) := by
  refine ⟨_, .refl _, ?_⟩
  rw [State.given, State.emit_notices, hflight, List.flatMap_map]

end

theorem State.emit_ignoresHanded (es : List Effects) : IgnoresHanded (State.emit es) := by
  intro s o
  simp only [State.emit, State.countChoice_withHanded, State.raiseAll_withHanded]
  rfl

/-- The requests that a unit gives for the loads of a type in a zone, as their definitions say. -/
theorem loadsOf_requests (s : State) (t : LoadType) (z : Zone) (level : Nat) :
    (loadsOf s.loads t z).map (fun n => (n, min level (s.loads.get n).maxLevel))
      = s.requestsIn t z fun f => min level f.maxLevel := by
  rw [loadsOf, State.requestsIn, ← List.filterMap_eq_map, ← List.filterMap_eq_filter,
    List.filterMap_filterMap]
  refine List.filterMap_congr fun n _ => ?_
  simp only [Load.isType, Load.inZone, Load.maxLevel, Option.guard_apply]
  cases hdefn : (s.loads.get n).defn with
  | none => rfl
  | some f => by_cases hf : f.type = t ∧ f.zone = z <;> simp [hf, hdefn]

end Sys2Proof.Machine
end

section
/-! SUPPORT. The zone figures of the Reading Unit (R84, R85) and the notices of those that an event changes (R86). -/

namespace Sys2Proof.Machine

/-! ### The figures (R84, R85) -/

theorem Sensor.serves_iff (x : Sensor) (k : SensorKind) (z : Zone) : x.serves k z = true ↔ x.defn = some ⟨k, z⟩ := by
  simp [Sensor.serves]

theorem Sensor.trusted_eq (x : Sensor) :
    x.trusted = if x.state = .fresh ∨ x.state = .quiet then x.value else none := by
  unfold Sensor.trusted
  cases x.state <;> simp

theorem Readings.values_eq_trusted (r : Readings) (k : SensorKind) (z : Zone) :
    r.values k z = r.trustedValues k z := by
  rw [Readings.values, Readings.trustedValues, Table.entries_eq, ← List.filterMap_eq_filter, List.filterMap_filterMap,
    List.filterMap_map]
  refine List.filterMap_congr fun n _ => ?_
  simp only [Function.comp_apply, Option.guard_apply, Sensor.serves_iff, Sensor.trusted_eq]
  by_cases hserves : (r.sensors.get n).defn = some ⟨k, z⟩ <;> simp [hserves]

theorem highest_eq_max? (l : List Int) : highest l = l.max?.map Int.toNat := by cases l <;> rfl

theorem highest_eq_none_iff (l : List Int) : highest l = none ↔ l = [] := by
  rw [highest_eq_max?, Option.map_eq_none_iff, List.max?_eq_none_iff]

/-- Of values none of which is negative the model's highest is one of them, and no smaller than any. -/
theorem isHighest_of_highest {l : List Int} {n : Nat} (h : highest l = some n) (hpos : ∀ v ∈ l, 0 ≤ v) :
    IsHighest n l := by
  rw [highest_eq_max?] at h
  obtain ⟨v, hv, rfl⟩ := Option.map_eq_some_iff.1 h
  obtain ⟨hmem, hle⟩ := List.max?_eq_some_iff.1 hv
  rw [IsHighest, Int.toNat_of_nonneg (hpos v hmem)]
  exact ⟨hmem, hle⟩

section
variable (r : Readings) (z : Zone) (g : Gas)

theorem Readings.temperature_eq_none_iff : r.temperature z = none ↔ r.trustedValues .temp z = [] := by
  rw [← r.values_eq_trusted, Readings.temperature]
  cases r.values .temp z <;> simp

/-- The zone temperature is the mean rounded toward minus infinity (R84). -/
theorem Readings.temperature_bounds {t : Int} (h : r.temperature z = some t) :
    t * (r.trustedValues .temp z).length ≤ (r.trustedValues .temp z).sum
      ∧ (r.trustedValues .temp z).sum < (t + 1) * (r.trustedValues .temp z).length := by
  rw [← r.values_eq_trusted]
  rw [Readings.temperature] at h
  cases hvalues : r.values .temp z with
  | nil => simp [hvalues] at h
  | cons v vs =>
    simp only [hvalues, Option.some.injEq] at h
    have hlength : (0 : Int) < (v :: vs).length := by simp
    rw [← h]
    exact ⟨Int.ediv_mul_le _ hlength.ne', Int.lt_ediv_add_one_mul_self _ hlength⟩

theorem Readings.lux_of_none (h : r.trustedValues .lux z = []) : r.lux z = 0 := by
  simp [Readings.lux, r.values_eq_trusted, h, highest]

theorem Readings.isHighest_lux (hne : r.trustedValues .lux z ≠ []) (hpos : ∀ v ∈ r.trustedValues .lux z, 0 ≤ v) :
    IsHighest (r.lux z) (r.trustedValues .lux z) := by
  obtain ⟨n, hn⟩ := Option.ne_none_iff_exists'.1 (mt (highest_eq_none_iff _).1 hne)
  rw [Readings.lux, r.values_eq_trusted, hn]
  exact isHighest_of_highest hn hpos

theorem Readings.held_eq_none_iff : r.held z g = none ↔ r.trustedValues (gasKind g) z = [] := by
  rw [Readings.held, r.values_eq_trusted, highest_eq_none_iff]

theorem Readings.isHighest_held {n : Nat} (h : r.held z g = some n)
    (hpos : ∀ v ∈ r.trustedValues (gasKind g) z, 0 ≤ v) : IsHighest n (r.trustedValues (gasKind g) z) := by
  rw [Readings.held, r.values_eq_trusted] at h
  exact isHighest_of_highest h hpos

theorem Readings.monitors_iff :
    r.monitors z g = true ↔ ∃ n, (r.sensors.get n).defn = some ⟨gasKind g, z⟩ := by
  simp only [Readings.monitors, any_entries_iff, Sensor.serves_iff]

theorem Readings.substitute_iff :
    r.substitute z g = true ↔ ∃ n, (r.sensors.get n).defn = some ⟨gasKind g, z⟩
      ∧ ((r.sensors.get n).state = .awaiting ∨ (r.sensors.get n).state = .lost) := by
  simp only [Readings.substitute, any_entries_iff, Bool.and_eq_true, Bool.or_eq_true, beq_iff_eq, Sensor.serves_iff]

end

theorem Readings.figuresHold (r : Readings) : FiguresHold r where
  unknown := r.temperature_eq_none_iff
  mean z _ h := r.temperature_bounds z h
  dark := r.lux_of_none
  lux := r.isHighest_lux
  none := r.held_eq_none_iff
  held z g _ h := r.isHighest_held z g h
  monitors := r.monitors_iff
  substitute := r.substitute_iff

/-! ### Zones without the sensor that changes -/

/-- In two states of the unit a zone has the same sensors, with the same records. -/
def Readings.SameIn (z : Zone) (r r' : Readings) : Prop :=
  ∀ n, r'.sensors.get n = r.sensors.get n ∨ ((r.sensors.get n).inZone z = false ∧ (r'.sensors.get n).inZone z = false)

theorem Sensor.defn_ne_of_not_inZone {x : Sensor} {z : Zone} (h : x.inZone z = false) (k : SensorKind) :
    x.defn ≠ some ⟨k, z⟩ := by
  intro hdefn
  simp [Sensor.inZone, hdefn] at h

section
variable {z : Zone} {r r' : Readings} (h : r.SameIn z r')
include h

theorem Readings.SameIn.values (k : SensorKind) : r'.values k z = r.values k z := by
  rw [r'.values_eq_trusted, r.values_eq_trusted]
  refine List.filterMap_congr fun n _ => ?_
  rcases h n with hsame | ⟨hout, hout'⟩
  · rw [hsame]
  · simp [Sensor.defn_ne_of_not_inZone hout, Sensor.defn_ne_of_not_inZone hout']

theorem Readings.SameIn.substitute (g : Gas) : r'.substitute z g = r.substitute z g := by
  rw [Bool.eq_iff_iff, Readings.substitute_iff, Readings.substitute_iff]
  refine exists_congr fun n => ?_
  rcases h n with hsame | ⟨hout, hout'⟩
  · rw [hsame]
  · simp [Sensor.defn_ne_of_not_inZone hout, Sensor.defn_ne_of_not_inZone hout']

/-- A zone whose sensors stay as they are gives no notice. -/
theorem zoneFigures_of_sameIn : zoneFigures (fun changed => changed) r r' z = [] := by
  have htemperature : r'.temperature z = r.temperature z := by simp [Readings.temperature, h.values]
  have hlux : r'.lux z = r.lux z := by simp [Readings.lux, h.values]
  have hheld (g : Gas) : r'.held z g = r.held z g := by simp [Readings.held, h.values]
  simp [zoneFigures, plainFigures, gasFigures, htemperature, hlux, hheld, h.substitute]

end

/-- A sensor that keeps its definition changes nothing in the other zones. -/
theorem Readings.sameIn_onSensor {r : Readings} {n : SensorNo} {f : Sensor → Sensor} {d : SensorDef} {z : Zone}
    (hdefn : (r.sensors.get n).defn = some d) (hkeeps : ∀ x, (f x).defn = x.defn) (hz : z ≠ d.zone) :
    r.SameIn z (r.onSensor n f) := by
  intro m
  by_cases hm : n = m
  · subst hm
    have hout (x : Sensor) (hx : x.defn = some d) : x.inZone z = false := by simp [Sensor.inZone, hx, hz.symm]
    refine .inr ⟨hout _ hdefn, hout _ ?_⟩
    simp [Readings.onSensor, hkeeps, hdefn]
  · exact .inl (by simp [Readings.onSensor, hm])

/-! ### The notices of changed figures (R86) -/

theorem zoneFigures_eq (old new : Readings) (z : Zone) :
    zoneFigures (fun changed => changed) old new z =
      noticeIf (old.temperature z ≠ new.temperature z) [.zoneTemperatureNotice z (new.temperature z)]
      ++ noticeIf (old.lux z ≠ new.lux z) [.zoneLuxNotice z (new.lux z)]
      ++ [Gas.co, Gas.no2].flatMap fun g =>
        noticeIf (old.held z g ≠ new.held z g) [.heldValueNotice z g (new.held z g)]
        ++ noticeIf (old.substitute z g ≠ new.substitute z g)
            [.airSubstituteFlagNotice z g (new.substitute z g),
              .budgetSubstituteFlagNotice z g (new.substitute z g)] := by
  simp only [zoneFigures, plainFigures, gasFigures, noticeIf, bne_iff_ne, List.flatMap_cons, List.flatMap_nil,
    List.append_nil, List.append_assoc]

/-- Where one entry of a list alone gives anything, the list gives what that entry gives. -/
theorem flatMap_eq_of_unique {α β : Type} {l : List α} {f : α → List β} {a : α} (hnodup : l.Nodup) (hmem : a ∈ l)
    (hothers : ∀ x, x ≠ a → f x = []) : l.flatMap f = f a := by
  obtain ⟨before, after, rfl⟩ := List.append_of_mem hmem
  have hnot : a ∉ before ∧ a ∉ after := by
    obtain ⟨_, hrest, hdisjoint⟩ := List.nodup_append.1 hnodup
    exact ⟨fun h => hdisjoint a h a (by simp) rfl, (List.nodup_cons.1 hrest).1⟩
  have hempty (l' : List α) (h : a ∉ l') : l'.flatMap f = [] :=
    List.flatMap_eq_nil_iff.2 fun x hx => hothers x fun hxa => h (hxa ▸ hx)
  simp [hempty _ hnot.1, hempty _ hnot.2]

@[simp] theorem State.readingEvent_readings (n : SensorNo) (f : Sensor → Sensor) (s : State) :
    (s.readingEvent n f).readings = s.readings.onSensor n f := rfl

theorem figuresGiven_of_given {s b : State}
    (h : s.given b ((List.finRange 12).flatMap (zoneFigures (fun changed => changed) s.readings b.readings))) :
    FiguresGiven s b := by
  rw [funext (zoneFigures_eq _ _)] at h
  exact ⟨_, .refl _, h⟩

/-- An event at a sensor that keeps its definition gives each zone figure that it changes, and nothing else (R86). -/
theorem State.readingEvent_figuresGiven {s : State} {n : SensorNo} {f : Sensor → Sensor} {d : SensorDef}
    (hdefn : (s.readings.sensors.get n).defn = some d) (hkeeps : ∀ x, (f x).defn = x.defn) :
    FiguresGiven s (s.readingEvent n f) := by
  apply figuresGiven_of_given
  rw [State.readingEvent_readings, flatMap_eq_of_unique (List.nodup_finRange 12) (List.mem_finRange d.zone)
    fun z hz => zoneFigures_of_sameIn (Readings.sameIn_onSensor hdefn hkeeps hz)]
  simp only [State.readingEvent, hdefn]
  exact State.give_notices _ _

end Sys2Proof.Machine
end

section
/-! READING (chapter 4, section 4.2): its checks, the value clamped, and what it changes. -/

namespace Sys2Proof.Machine

theorem exec_reading (sensor : Nat) (value : Int) (s : State) :
    exec (.reading sensor value) s = execReading sensor value s := rfl

/-- The status that tells whether a value was clamped (R78). -/
def readingStatus (k : SensorKind) (value : Int) : Status := if clampReading k value = value then .ok else .clamped

section
variable (k : SensorKind) (value : Int)

theorem sensorRange_le : k.range.1 ≤ k.range.2 := by cases k <;> decide

theorem clampReading_eq :
    clampReading k value
      = if value < k.range.1 then k.range.1 else if k.range.2 < value then k.range.2 else value := by
  have hrange := sensorRange_le k
  unfold clampReading clampTo
  split_ifs <;> omega

theorem readingStatus_eq :
    readingStatus k value = if k.range.1 ≤ value ∧ value ≤ k.range.2 then .ok else .clamped := by
  have hrange := sensorRange_le k
  have hself : clampReading k value = value ↔ k.range.1 ≤ value ∧ value ≤ k.range.2 := by
    unfold clampReading clampTo
    omega
  rw [readingStatus, if_congr hself rfl rfl]

end

section
variable {s : State} {n : SensorNo} {sensor : Nat} {value : Int} {d : SensorDef}

theorem State.readingEvent_ignoresHanded (n : SensorNo) (f : Sensor → Sensor) :
    IgnoresHanded (State.readingEvent n f) := fun _ _ => rfl

theorem State.readingEvent_onlyChanges (n : SensorNo) (f : Sensor → Sensor) (s : State) :
    s.onlyChanges (s.readingEvent n f) [.readings, .inFlight] := by
  intro region hregion
  cases region <;> simp_all [State.same]

variable (htakes : s.takesRequests = true)
include htakes

theorem reading_noSensor (h : 40 ≤ sensor) : AnswersOnly (.reading sensor value) .notFound [] s := by
  refine answersOnly_of_refuse ((exec_reading _ _ s).trans rfl) htakes ?_
  simp [number?_eq_none h]

theorem reading_undefined (h : (s.readings.sensors.get n).defn = none) :
    AnswersOnly (.reading n value) .notFound [] s := by
  refine answersOnly_of_refuse ((exec_reading _ _ s).trans rfl) htakes ?_
  simp [h]

theorem reading_stopped (h : (s.readings.sensors.get n).defn = some d) (hrun : s.running = false) :
    Completes (.reading n value) (readingStatus d.kind value) [] s
      (s.onSensor n (Sensor.read (clampReading d.kind value))) := by
  refine completes_of_effect ((exec_reading _ _ s).trans rfl) htakes (fun _ _ => rfl) rfl ?_
  simp [h, hrun, readingStatus]

theorem reading_run (h : (s.readings.sensors.get n).defn = some d) (hrun : s.running = true) :
    Completes (.reading n value) (readingStatus d.kind value) [] s
      (s.readingEvent n (Sensor.readInRun (quietTime s.readings.settings d.kind) (clampReading d.kind value))) := by
  refine completes_of_effect ((exec_reading _ _ s).trans rfl) htakes (State.readingEvent_ignoresHanded n _)
    (State.readingEvent_part n _ s) ?_
  simp [h, hrun, readingStatus]

end

/-- Settles O41: the figures by R84 and R85, then the checks of READING and what it changes in and outside RUN. -/
theorem readingIsTaken : Obligations.ReadingIsTaken := by
  refine ⟨Readings.figuresHold, fun s k value htakes => ⟨reading_noSensor htakes, ?_⟩⟩
  rintro n rfl
  refine ⟨reading_undefined htakes, fun d hd => ?_⟩
  have hstopped := reading_stopped (value := value) htakes hd
  have hrun := reading_run (value := value) htakes hd
  simp only [clampReading_eq, readingStatus_eq] at hstopped hrun
  have hgiven (quiet : Nat) (v : Int) : FiguresGiven s (s.readingEvent n (Sensor.readInRun quiet v)) :=
    State.readingEvent_figuresGiven hd fun _ => rfl
  obtain ⟨kind, zone⟩ := d
  -- each kind has its own range (R78) and quiet time (R79), which the model's tables give by evaluation
  cases kind
  all_goals
    exact ⟨fun hop => hstopped (by simpa [State.running] using hop), fun hop =>
      ⟨_, hrun (s.running_iff.2 hop), State.readingEvent_onlyChanges _ _ s, hgiven _ _, rfl⟩⟩

end Sys2Proof.Machine
end

section
/-! DEF-SENSOR (chapter 4, section 4.1.1): its checks in their order, and the new definition. -/

namespace Sys2Proof.Machine

theorem sensorKind?_eq_none {k : Nat} (h : 5 ≤ k) : sensorKind? k = none := by
  match k, h with
  | _ + 5, _ => rfl

theorem ne_zero_of_sensorKind? {k : Nat} {kind : SensorKind} (h : sensorKind? k = some kind) : k ≠ 0 := by
  rintro rfl
  cases h

theorem exists_sensorKind {k : Nat} (hne : k ≠ 0) (hle : k ≤ 4) : ∃ kind, sensorKind? k = some kind := by
  obtain rfl | rfl | rfl | rfl : k = 1 ∨ k = 2 ∨ k = 3 ∨ k = 4 := by omega
  · exact ⟨.temp, rfl⟩
  · exact ⟨.co, rfl⟩
  · exact ⟨.no2, rfl⟩
  · exact ⟨.lux, rfl⟩

section
variable {s : State} {n : SensorNo} {sensor kind zone : Nat} {k : SensorKind}

theorem exec_defSensor (sensor kind zone : Nat) (s : State) :
    exec (.defSensor sensor kind zone) s = execDefSensor sensor kind zone s := rfl

theorem State.defineSensor_ignoresHanded (n : SensorNo) (d : Option SensorDef) :
    IgnoresHanded (State.defineSensor n d) := fun _ _ => rfl

variable (htakes : s.takesRequests = true)
include htakes

theorem defSensor_badField (h : 40 ≤ sensor ∨ 5 ≤ kind) :
    AnswersOnly (.defSensor sensor kind zone) .badField [] s := by
  refine answersOnly_of_refuse ((exec_defSensor _ _ _ s).trans rfl) htakes ?_
  rcases h with hsensor | hkind
  · simp [number?_eq_none hsensor]
  · have hne : kind ≠ 0 := by omega
    cases number? 40 sensor <;> simp [sensorKind?_eq_none hkind]

theorem defSensor_none_run (hrun : s.running = true) : AnswersOnly (.defSensor n 0 zone) .wrongState [] s := by
  refine answersOnly_of_refuse ((exec_defSensor _ _ _ s).trans rfl) htakes ?_
  simp [hrun]

theorem defSensor_none_stopped (hrun : s.running = false) :
    Completes (.defSensor n 0 zone) .ok [] s (s.defineSensor n none) := by
  refine completes_of_effect ((exec_defSensor _ _ _ s).trans rfl) htakes
    (State.defineSensor_ignoresHanded n none) rfl ?_
  simp [hrun, accept]

section
variable (hkind : sensorKind? kind = some k)
include hkind

theorem defSensor_wrongState (hrun : s.running = true) : AnswersOnly (.defSensor n kind zone) .wrongState [] s := by
  refine answersOnly_of_refuse ((exec_defSensor _ _ _ s).trans rfl) htakes ?_
  have hne := ne_zero_of_sensorKind? hkind
  simp [hkind, hrun]

theorem defSensor_notFound (hrun : s.running = false) (hzone : ∀ z : Zone, zone = z → s.zones.get z = .undefined) :
    AnswersOnly (.defSensor n kind zone) .notFound [] s := by
  refine answersOnly_of_refuse ((exec_defSensor _ _ _ s).trans rfl) htakes ?_
  have hne := ne_zero_of_sensorKind? hkind
  simp [hkind, hrun, State.zone?_eq_none hzone]

theorem defSensor_defines (hrun : s.running = false) {z : Zone} (hzone : s.zones.get z ≠ .undefined) :
    Completes (.defSensor n kind z) .ok [] s (s.defineSensor n (some ⟨k, z⟩)) := by
  refine completes_of_effect ((exec_defSensor _ _ _ s).trans rfl) htakes (State.defineSensor_ignoresHanded n _) rfl ?_
  have hne := ne_zero_of_sensorKind? hkind
  simp [hkind, hrun, State.zone?_of_defined hzone, accept]

end

end

/-- Settles O42: the checks in their order, then the definition that is removed or made. -/
theorem defSensorIsChecked : Obligations.DefSensorIsChecked := by
  intro s sensor kind zone htakes
  refine ⟨defSensor_badField htakes, ?_⟩
  rintro n rfl hle
  have hstopped : s.part.op ≠ .run → s.running = false := fun h => by simpa [State.running] using h
  refine ⟨fun hop => ?_, ?_, fun hop hne hzone => ?_, ?_⟩
  · have hrun := s.running_iff.2 hop
    by_cases hzero : kind = 0
    · rw [hzero]
      exact defSensor_none_run htakes hrun
    · obtain ⟨k, hk⟩ := exists_sensorKind hzero hle
      exact defSensor_wrongState htakes hk hrun
  · rintro hop rfl
    exact defSensor_none_stopped htakes (hstopped hop)
  · obtain ⟨k, hk⟩ := exists_sensorKind hne hle
    exact defSensor_notFound htakes hk (hstopped hop) hzone
  · rintro z rfl hop hne hzone
    obtain rfl | rfl | rfl | rfl : kind = 1 ∨ kind = 2 ∨ kind = 3 ∨ kind = 4 := by omega
    · exact defSensor_defines htakes rfl (hstopped hop) hzone
    · exact defSensor_defines htakes rfl (hstopped hop) hzone
    · exact defSensor_defines htakes rfl (hstopped hop) hzone
    · exact defSensor_defines htakes rfl (hstopped hop) hzone

end Sys2Proof.Machine
end

section
/-! SUPPORT. Recomputations of the Air Unit and of the Heat Unit (R97, R103, R104, R114, R120, R122): the records that
they leave, the reports and the notices. -/

namespace Sys2Proof.Machine

/-- A recomputation goes over the defined zones, and over no other. -/
theorem State.mem_recomputed_iff (s : State) (which : Zone → Bool) (z : Zone) :
    z ∈ s.zonesDefined.filter which ↔ (which z && s.definedZone z) = true := by
  simp [← State.definedZones_eq, State.definedZones]

/-! ### The Air Unit -/

section
variable (s : State) (which : Zone → Bool) (change : Zone → AirZone → AirZone)

/-- The record of a zone that is changed and recomputed (R97). -/
def State.airRecord (z : Zone) : AirZone :=
  (change z (s.air.zones.get z)).recompute s.air.settings (s.readings.monitors z)

theorem State.airZonesAfter_get (z : Zone) :
    (s.airZonesAfter which change).get z
      = if z ∈ s.zonesDefined.filter which then s.airRecord change z else s.air.zones.get z := by
  simp only [State.mem_recomputed_iff, State.airZonesAfter, Table.get_mapIdx]
  rfl

theorem airReports_eq_due (z : Zone) (new : AirZone) :
    airReports z (s.readings.monitors z) (s.air.zones.get z) new = airReportsDue s z new := rfl

/-- An exhaust notice is given where the stage changes, with the requests of the zone's EXHAUST loads (R103). -/
theorem airEffects_notices (z : Zone) (old new : AirZone) :
    (airEffects s z old new).notices = noticeIf (new.stage ≠ old.stage)
      [.exhaustNotice z new.stage (s.requestsIn .exhaust z fun f => min new.stage f.maxLevel)] := by
  simp only [airEffects, State.exhaustNoticeOf, exhaustRequests, loadsOf_requests, noticeIf, ne_comm (a := new.stage),
    ite_not]

theorem State.recomputeAir_eq :
    s.recomputeAir which change = (s.withAirZones (s.airZonesAfter which change)).emit
      ((s.zonesDefined.filter which).map fun z => airEffects s z (s.air.zones.get z) (s.airRecord change z)) := by
  simp only [State.recomputeAir, State.definedZones_eq]
  congr 1
  refine List.map_congr_left fun z hz => ?_
  rw [State.airZonesAfter_get, if_pos hz]

theorem State.recomputeAir_air :
    (s.recomputeAir which change).air = { s.air with zones := s.airZonesAfter which change } := by
  simp only [State.recomputeAir, State.emit_air]
  rfl

theorem State.recomputeAir_recomputed :
    AirRecomputed s (s.recomputeAir which change) (s.zonesDefined.filter which) (s.airRecord change) where
  air := by rw [State.recomputeAir_air]
  zones z := by rw [State.recomputeAir_air, State.airZonesAfter_get]
  reports := by
    rw [State.recomputeAir_eq]
    simp only [← airReports_eq_due]
    exact State.emit_raised _ _ rfl rfl
  given := by
    rw [State.recomputeAir_eq]
    simp only [← airEffects_notices]
    exact State.emit_gives _ _ rfl

theorem State.recomputeAir_onlyChanges :
    s.onlyChanges (s.recomputeAir which change) [.air, .link, .inFlight, .choices] := by
  intro region hregion
  cases region <;> simp_all [State.same]

theorem State.recomputeAir_ignoresHanded : IgnoresHanded (State.recomputeAir which change) := by
  intro s o
  exact State.emit_ignoresHanded _ (s.withAirZones (s.airZonesAfter which change)) o

end

/-! ### The Heat Unit -/

section
variable (s : State) (which : Zone → Bool) (change : HeatZone → HeatZone)

/-- The record of a zone that is changed and recomputed (R120). -/
def State.heatRecord (z : Zone) : HeatZone :=
  (change (s.heat.zones.get z)).recompute (s.heatInputs z (change (s.heat.zones.get z)))

theorem State.heatZonesAfter_get (z : Zone) :
    (s.heatZonesAfter which change).get z
      = if z ∈ s.zonesDefined.filter which then s.heatRecord change z else s.heat.zones.get z := by
  simp only [State.mem_recomputed_iff, State.heatZonesAfter, Table.get_mapIdx]
  rfl

theorem heatReports_eq_due (z : Zone) (new : HeatZone) :
    heatReports z s.heat.settings.floor (s.heat.zones.get z) new = frostReportsDue s z new := by
  unfold heatReports frostReportsDue
  rfl

/-- A heat notice is given where stage, cold flag or frost state changes, with the requests of the zone's HEATER loads
(R122). -/
theorem heatEffects_notices (z : Zone) (old new : HeatZone) :
    (heatEffects s z old new).notices
      = noticeIf (¬(new.stage = old.stage ∧ new.cold = old.cold ∧ new.frost = old.frost))
        [.heatNotice z new.cold new.frost (s.requestsIn .heater z fun f => min new.stage f.maxLevel)] := by
  simp only [heatEffects, heaterRequests, loadsOf_requests, noticeIf, eq_comm (a := new.stage), eq_comm (a := new.cold),
    eq_comm (a := new.frost), ite_not]

theorem State.recomputeHeat_eq :
    s.recomputeHeat which change = (s.withHeatZones (s.heatZonesAfter which change)).emit
      ((s.zonesDefined.filter which).map fun z => heatEffects s z (s.heat.zones.get z) (s.heatRecord change z)) := by
  simp only [State.recomputeHeat, State.definedZones_eq]
  congr 1
  refine List.map_congr_left fun z hz => ?_
  rw [State.heatZonesAfter_get, if_pos hz]

theorem State.recomputeHeat_heat :
    (s.recomputeHeat which change).heat = { s.heat with zones := s.heatZonesAfter which change } := by
  simp only [State.recomputeHeat, State.emit_heat]
  rfl

theorem State.recomputeHeat_recomputed :
    HeatRecomputed s (s.recomputeHeat which change) (s.zonesDefined.filter which) (s.heatRecord change) where
  heat := by rw [State.recomputeHeat_heat]
  zones z := by rw [State.recomputeHeat_heat, State.heatZonesAfter_get]
  reports := by
    rw [State.recomputeHeat_eq]
    simp only [← heatReports_eq_due]
    exact State.emit_raised _ _ rfl rfl
  given := by
    rw [State.recomputeHeat_eq]
    simp only [← heatEffects_notices]
    exact State.emit_gives _ _ rfl

theorem State.recomputeHeat_onlyChanges :
    s.onlyChanges (s.recomputeHeat which change) [.heat, .link, .inFlight, .choices] := by
  intro region hregion
  cases region <;> simp_all [State.same]

theorem State.recomputeHeat_ignoresHanded : IgnoresHanded (State.recomputeHeat which change) := by
  intro s o
  exact State.emit_ignoresHanded _ (s.withHeatZones (s.heatZonesAfter which change)) o

end

end Sys2Proof.Machine
end

section
/-! SET-SENSING, SET-AIR and SET-HEAT (chapters 4 to 6, sections 4.1.2, 5.2.5 and 6.1): their ranges, what they set, and
the recomputations that follow in RUN. -/

namespace Sys2Proof.Machine

section
variable {s : State}

/-! ### SET-SENSING (R77) -/

section
variable {gas other interval count : Nat}

theorem exec_setSensing (s : State) :
    exec (.setSensing gas other interval count) s = execSetSensing gas other interval count s := rfl

theorem sensingInRange_iff : SensingSettings.inRange ⟨gas, other, interval, count⟩ = true ↔
    10 ≤ gas ∧ gas ≤ 3600 ∧ 10 ≤ other ∧ other ≤ 3600 ∧ 5 ≤ interval ∧ interval ≤ 600 ∧ 1 ≤ count ∧ count ≤ 10 := by
  simp [SensingSettings.inRange, and_assoc]

theorem setSensing_refused (htakes : s.takesRequests = true)
    (hrange : SensingSettings.inRange ⟨gas, other, interval, count⟩ = false) :
    AnswersOnly (.setSensing gas other interval count) .badField [] s := by
  refine answersOnly_of_refuse ((exec_setSensing s).trans rfl) htakes ?_
  simp [hrange]

theorem setSensing_accepted (htakes : s.takesRequests = true)
    (hrange : SensingSettings.inRange ⟨gas, other, interval, count⟩ = true) :
    Completes (.setSensing gas other interval count) .ok [] s
      { s with readings := { s.readings with settings := ⟨gas, other, interval, count⟩ } } := by
  refine completes_of_effect (effect := fun s =>
    { s with readings := { s.readings with settings := ⟨gas, other, interval, count⟩ } })
    ((exec_setSensing s).trans rfl) htakes (fun _ _ => rfl) rfl ?_
  simp [hrange, accept]

end

/-! ### SET-AIR (R95) -/

section
variable {a b c d e : Nat}

/-- The Air Unit with other settings. -/
def State.withAirSettings (settings : AirSettings) (s : State) : State :=
  { s with air := { s.air with settings := settings } }

/-- SET-AIR in RUN: the ratios of the monitored gases by the new limits, and every defined zone recomputed (R95). -/
def State.resetAir (settings : AirSettings) (s : State) : State :=
  (s.withAirSettings settings).recomputeAir (fun _ => true) fun z =>
    AirZone.onMonitored (s.readings.monitors z) (GasAir.withRatios settings)

theorem exec_setAir (s : State) : exec (.setAir a b c d e) s = execSetAir a b c d e s := rfl

theorem airInRange_iff : AirSettings.inRange ⟨a, b, c, d, e⟩ = true ↔
    1 ≤ a ∧ a ≤ 500 ∧ 1 ≤ b ∧ b ≤ 500 ∧ 1 ≤ c ∧ c ≤ 200 ∧ 1 ≤ d ∧ d ≤ 200 ∧ 60 ≤ e ∧ e ≤ 1800 := by
  simp [AirSettings.inRange, and_assoc]

theorem setAir_refused (htakes : s.takesRequests = true) (hrange : AirSettings.inRange ⟨a, b, c, d, e⟩ = false) :
    AnswersOnly (.setAir a b c d e) .badField [] s := by
  refine answersOnly_of_refuse ((exec_setAir s).trans rfl) htakes ?_
  simp [hrange]

section
variable (htakes : s.takesRequests = true) (hrange : AirSettings.inRange ⟨a, b, c, d, e⟩ = true)
include htakes hrange

theorem setAir_stopped (hrun : s.running = false) :
    Completes (.setAir a b c d e) .ok [] s (s.withAirSettings ⟨a, b, c, d, e⟩) := by
  refine completes_of_effect ((exec_setAir s).trans rfl) htakes (fun _ _ => rfl) rfl ?_
  simp [hrange, hrun, accept, State.withAirSettings]

theorem setAir_run (hrun : s.running = true) :
    Completes (.setAir a b c d e) .ok [] s (s.resetAir ⟨a, b, c, d, e⟩) := by
  refine completes_of_effect ((exec_setAir s).trans rfl) htakes ?_ (State.recomputeAir_part _ _ _) ?_
  · intro s o
    exact State.recomputeAir_ignoresHanded _ _ (s.withAirSettings _) o
  · simp only [hrange, State.takeHanded_running, hrun]
    rfl

end

theorem State.resetAir_onlyChanges (settings : AirSettings) (s : State) :
    s.onlyChanges (s.resetAir settings) [.air, .link, .inFlight, .choices] := by
  intro region hregion
  have hframe := State.recomputeAir_onlyChanges (s.withAirSettings settings) (fun _ => true)
    (fun z => AirZone.onMonitored (s.readings.monitors z) (GasAir.withRatios settings)) region hregion
  cases region <;> simp_all [State.same, State.withAirSettings, State.resetAir]

end

/-! ### SET-HEAT (R111) -/

section
variable {a b c : Nat}

/-- The Heat Unit with other settings. -/
def State.withHeatSettings (settings : HeatSettings) (s : State) : State :=
  { s with heat := { s.heat with settings := settings } }

/-- SET-HEAT in RUN: every defined zone recomputed under the new settings (R111). -/
def State.resetHeat (settings : HeatSettings) (s : State) : State :=
  (s.withHeatSettings settings).recomputeHeat (fun _ => true) id

theorem exec_setHeat (s : State) : exec (.setHeat a b c) s = execSetHeat a b c s := rfl

theorem heatInRange_iff :
    HeatSettings.inRange ⟨a, b, c⟩ = true ↔ a ≤ 150 ∧ 1 ≤ b ∧ b ≤ 60 ∧ 60 ≤ c ∧ c ≤ 1800 := by
  simp [HeatSettings.inRange, and_assoc]

theorem setHeat_refused (htakes : s.takesRequests = true) (hrange : HeatSettings.inRange ⟨a, b, c⟩ = false) :
    AnswersOnly (.setHeat a b c) .badField [] s := by
  refine answersOnly_of_refuse ((exec_setHeat s).trans rfl) htakes ?_
  simp [hrange]

section
variable (htakes : s.takesRequests = true) (hrange : HeatSettings.inRange ⟨a, b, c⟩ = true)
include htakes hrange

theorem setHeat_stopped (hrun : s.running = false) :
    Completes (.setHeat a b c) .ok [] s (s.withHeatSettings ⟨a, b, c⟩) := by
  refine completes_of_effect ((exec_setHeat s).trans rfl) htakes (fun _ _ => rfl) rfl ?_
  simp [hrange, hrun, accept, State.withHeatSettings]

theorem setHeat_run (hrun : s.running = true) :
    Completes (.setHeat a b c) .ok [] s (s.resetHeat ⟨a, b, c⟩) := by
  refine completes_of_effect ((exec_setHeat s).trans rfl) htakes ?_ (State.recomputeHeat_part _ _ _) ?_
  · intro s o
    exact State.recomputeHeat_ignoresHanded _ _ (s.withHeatSettings _) o
  · simp only [hrange, State.takeHanded_running, hrun]
    rfl

end

theorem State.resetHeat_onlyChanges (settings : HeatSettings) (s : State) :
    s.onlyChanges (s.resetHeat settings) [.heat, .link, .inFlight, .choices] := by
  intro region hregion
  have hframe := State.recomputeHeat_onlyChanges (s.withHeatSettings settings) (fun _ => true) id region hregion
  cases region <;> simp_all [State.same, State.withHeatSettings, State.resetHeat]

end

end

theorem State.filter_true_zones (s : State) : (s.zonesDefined.filter fun _ => true) = s.zonesDefined :=
  List.filter_true _

/-- Settles O43: each request's range, then the settings alone outside RUN, and in RUN the recomputation under them. -/
theorem unitSettingsAreTaken : Obligations.UnitSettingsAreTaken := by
  intro s a b c d e htakes
  have hstopped : s.part.op ≠ .run → s.running = false := fun h => by simpa [State.running] using h
  simp only [← sensingInRange_iff, ← airInRange_iff, ← heatInRange_iff]
  refine ⟨?_, ?_, ?_⟩
  · split
    · next hrange => exact setSensing_accepted htakes hrange
    · next hrange => exact setSensing_refused htakes (by simpa using hrange)
  · split
    · next hrange =>
      refine ⟨fun hop => setAir_stopped htakes hrange (hstopped hop), fun hop => ?_⟩
      refine ⟨_, setAir_run htakes hrange (s.running_iff.2 hop), State.resetAir_onlyChanges _ s, ?_⟩
      rw [← State.filter_true_zones]
      -- the statement's ratios are `GasAir.withRatios`, and its new record is `State.airRecord`, by definition
      exact State.recomputeAir_recomputed _ _ _
    · next hrange => exact setAir_refused htakes (by simpa using hrange)
  · split
    · next hrange =>
      refine ⟨fun hop => setHeat_stopped htakes hrange (hstopped hop), fun hop => ?_⟩
      refine ⟨_, setHeat_run htakes hrange (s.running_iff.2 hop), State.resetHeat_onlyChanges _ s, ?_⟩
      rw [← State.filter_true_zones]
      exact State.recomputeHeat_recomputed _ _ _
    · next hrange => exact setHeat_refused htakes (by simpa using hrange)

end Sys2Proof.Machine
end

section
/-! SUPPORT. What the shared operations leave alone, as one relation: nothing outside some parts of the state changes,
and of the Link Unit neither supervision, its timers, the receive buffer nor the frame being sent. -/

namespace Sys2Proof.Machine

/-! ### Frames -/

theorem State.onlyChanges.mono {s t : State} {R R' : List Region} (h : s.onlyChanges t R) (hsub : R ⊆ R') :
    s.onlyChanges t R' := fun r hr => h r fun hm => hr (hsub hm)

theorem State.same.trans {s t u : State} {r : Region} (hst : s.same t r) (htu : t.same u r) : s.same u r := by
  cases r <;> exact Eq.trans htu hst

theorem State.onlyChanges.trans {s t u : State} {R : List Region} (hst : s.onlyChanges t R)
    (htu : t.onlyChanges u R) : s.onlyChanges u R := fun r hr => (hst r hr).trans (htu r hr)

theorem State.onlyChanges_refl (s : State) (R : List Region) : s.onlyChanges s R := fun r _ => by cases r <;> rfl

/-! ### What an event leaves of the Link Unit -/

/-- The Link Unit after an event that is not its own: reports may have been raised, a reply formed, and a free
transmitter may have chosen; supervision and the receive buffer are as they were. -/
structure Link.Kept (l m : Link) : Prop where
  buffer : m.buffer = l.buffer
  supervision : m.supervision = l.supervision
  idle : m.idle = l.idle
  interval : m.interval = l.interval
  probes : m.probes = l.probes
  reports : l.reports.length ≤ 32 → m.reports.length ≤ 32
  sends : ∀ x, l.sending = some x → m.sending = some x

theorem Link.Kept.refl (l : Link) : l.Kept l := ⟨rfl, rfl, rfl, rfl, rfl, id, fun _ => id⟩

theorem Link.Kept.trans {l m n : Link} (h : l.Kept m) (h' : m.Kept n) : l.Kept n where
  buffer := h'.buffer.trans h.buffer
  supervision := h'.supervision.trans h.supervision
  idle := h'.idle.trans h.idle
  interval := h'.interval.trans h.interval
  probes := h'.probes.trans h.probes
  reports := h'.reports ∘ h.reports
  sends x := h'.sends x ∘ h.sends x

theorem Link.kick_reports_length (l : Link) : l.kick.reports.length ≤ l.reports.length := by
  unfold Link.kick
  repeat' split
  all_goals simp_all

theorem Link.kick_kept (l : Link) : l.Kept l.kick where
  buffer := l.kick_frame.2.1
  supervision := l.kick_frame.2.2.2.2.2.1
  idle := l.kick_frame.2.2.2.2.2.2.1
  interval := l.kick_frame.2.2.2.2.2.2.2.1
  probes := l.kick_frame.2.2.2.2.2.2.2.2.1
  reports := l.kick_reports_length.trans
  sends x h := by rw [Link.kick_busy h, h]

theorem Link.offer_kept (r : Report) (l : Link) : l.Kept (l.offer r) := by
  have h := Link.offer_frame r l
  refine ⟨?_, ?_, ?_, ?_, ?_, Link.offer_length r, fun x hx => ?_⟩ <;> rw [h]
  exact hx

theorem Link.formReply_kept (k : Byte) (a : Answer) (b : Bool) (l : Link) : l.Kept (l.formReply k a b) :=
  ⟨rfl, rfl, rfl, rfl, rfl, id, fun _ => id⟩

/-! ### Events within some parts of the state -/

/-- An event that is not the Link Unit's own leads from one state to another: nothing changes outside some parts and
the Link Unit, the Link Unit is kept, and in STARTING nothing is answered or sent. -/
structure State.Within (s t : State) (changed : List Region) : Prop where
  frame : s.onlyChanges t (.link :: changed)
  starting_iff : t.part.op = .starting ↔ s.part.op = .starting
  link : s.link.Kept t.link
  starting : s.part.op = .starting → t.link.sending = s.link.sending ∧ t.link.reply = s.link.reply

theorem State.Within.refl (s : State) (R : List Region) : s.Within s R :=
  ⟨s.onlyChanges_refl _, Iff.rfl, .refl _, fun _ => ⟨rfl, rfl⟩⟩

theorem State.Within.mono {s t : State} {R R' : List Region} (h : s.Within t R) (hsub : R ⊆ R') : s.Within t R' :=
  { h with frame := h.frame.mono (List.cons_subset_cons _ hsub) }

theorem State.Within.trans {s t u : State} {R : List Region} (h : s.Within t R) (h' : t.Within u R) : s.Within u R where
  frame := h.frame.trans h'.frame
  starting_iff := h'.starting_iff.trans h.starting_iff
  link := h.link.trans h'.link
  starting hs := by
    obtain ⟨hsend, hreply⟩ := h.starting hs
    obtain ⟨hsend', hreply'⟩ := h'.starting (h.starting_iff.2 hs)
    exact ⟨hsend'.trans hsend, hreply'.trans hreply⟩

/-- Two events, one after the other, each within its parts. -/
theorem State.Within.then {s t u : State} {R R' R'' : List Region} (h : s.Within t R) (h' : t.Within u R')
    (hsub : R ⊆ R'' ∧ R' ⊆ R'') : s.Within u R'' := (h.mono hsub.1).trans (h'.mono hsub.2)

/-- An event that touches neither the part-wide state nor the Link Unit. -/
theorem State.Within.of_frame {s t : State} {R : List Region} (hR : .link ∉ R ∧ .part ∉ R) (h : s.onlyChanges t R) :
    s.Within t R := by
  have hl : t.link = s.link := h _ hR.1
  have hp : t.part = s.part := h _ hR.2
  exact ⟨h.mono (List.subset_cons_self _ _), by rw [hp], hl ▸ .refl _, fun _ => by simp [hl]⟩

/-- An event of the Link Unit alone that keeps it, and does nothing to its transmitter in STARTING. -/
theorem State.Within.of_link {s : State} {m : Link} (h : s.link.Kept m)
    (hstart : s.part.op = .starting → m.sending = s.link.sending ∧ m.reply = s.link.reply) :
    s.Within { s with link := m } [] :=
  ⟨fun r hr => by cases r <;> simp_all [State.same], Iff.rfl, h, hstart⟩

theorem State.settle_within (s : State) : s.Within s.settle [] := by
  unfold State.settle
  split
  · exact .refl _ _
  · next h => exact .of_link s.link.kick_kept fun hs => absurd hs h

theorem State.raise_within (b : Body) (s : State) : s.Within (s.raise b) [] := by
  unfold State.raise
  split
  · exact .refl _ _
  · exact .of_link (Link.offer_kept _ _) fun _ => by rw [Link.offer_frame]; exact ⟨rfl, rfl⟩

theorem State.raiseAll_within (bs : List Body) (s : State) : s.Within (s.raiseAll bs) [] := by
  induction bs generalizing s with
  | nil => exact .refl _ _
  | cons b bs ih => exact (s.raise_within b).trans (ih _)

theorem State.takeHanded_within (c : Instr) (s : State) : s.Within (s.takeHanded c) [] := by
  unfold State.takeHanded
  split
  · exact .of_link ⟨rfl, rfl, rfl, rfl, rfl, id, fun _ => id⟩ fun _ => ⟨rfl, rfl⟩
  · exact .refl _ _

theorem State.give_within (cs : List Instr) (s : State) : s.Within (s.give cs) [.inFlight] :=
  .of_frame (by decide) fun r hr => by cases r <;> simp_all [State.same]

theorem State.takeFlight_within (c : Instr) (s : State) : s.Within (s.takeFlight c) [.inFlight] :=
  .of_frame (by decide) fun r hr => by cases r <;> simp_all [State.same]

theorem State.waitTurn_within (c : Instr) (s : State) : s.Within (s.waitTurn c) [.inFlight] := by
  unfold State.waitTurn
  split
  · exact .refl _ _
  · exact s.give_within _

theorem State.countChoice_within (n : Nat) (s : State) : s.Within (s.countChoice n) [.choices] := by
  unfold State.countChoice
  split
  · exact .refl _ _
  · exact .of_frame (by decide) fun r hr => by cases r <;> simp_all [State.same]

theorem State.emit_within (es : List Effects) (s : State) : s.Within (s.emit es) [.inFlight, .choices] :=
  .then (R := [.choices]) ((s.countChoice_within _).then (State.raiseAll_within _ _) (by decide))
    (State.give_within _ _) (by decide)

/-! ### How a command ends -/

theorem finish_within {s u t : State} {R : List Region} (hu : s.Within u R) (h : finish u = .next t) : s.Within t R := by
  cases h
  exact hu.trans (u.settle_within.mono (List.nil_subset _))

theorem runEvent_within {act : State → State} {s t : State} {R : List Region} (hact : ∀ u : State, u.Within (act u) R)
    (h : runEvent act s = .next t) : s.Within t R := by
  refine finish_within ?_ h
  split
  · exact hact s
  · exact .refl _ _

theorem request_within {c : Instr} {act : State → State × Answer} {s t : State} {R : List Region}
    (hact : ∀ u : State, u.part.op ≠ .starting → u.Within (act u).1 R) (h : request c act s = .next t) :
    s.Within t R := by
  unfold request at h
  split at h
  · next htakes =>
    have hop : s.part.op ≠ .starting := by simp [State.takesRequests] at htakes; exact htakes.1
    have hop' : (s.takeHanded c).part.op ≠ .starting := by simpa using hop
    have hacted := ((s.takeHanded_within c).mono (List.nil_subset _)).trans (hact _ hop')
    refine finish_within (hacted.trans (.mono (.of_link (Link.formReply_kept _ _ _ _) fun hs => ?_)
      (List.nil_subset _))) h
    exact absurd (hacted.starting_iff.1 hs) hop
  · exact finish_within (.refl _ _) h

theorem State.noticed_within {c : Instr} {act : State → State} {R : List Region} (s : State)
    (hact : ∀ u : State, u.Within (act u) R) : s.Within (s.noticed c act) (.inFlight :: R) := by
  have hflight : [.inFlight] ⊆ Region.inFlight :: R := by simp
  have htaken := (s.takeFlight_within c).mono hflight
  unfold State.noticed
  refine .trans ?_ ((State.settle_within _).mono (List.nil_subset _))
  split
  · split
    · exact htaken.trans ((hact _).mono (List.subset_cons_self _ _))
    · exact htaken
  · exact (s.waitTurn_within c).mono hflight

theorem notice_within {c : Instr} {act : State → State} {s t : State} {R : List Region}
    (hact : ∀ u : State, u.Within (act u) R) (h : notice c act s = .next t) : s.Within t (.inFlight :: R) := by
  cases h
  exact s.noticed_within hact

theorem State.zoneNoticed_within {c : Instr} {z : Zone} {act : State → State} {R : List Region} (s : State)
    (hact : ∀ u : State, u.Within (act u) R) : s.Within (s.zoneNoticed c z act) (.inFlight :: R) := by
  refine s.noticed_within fun u => ?_
  split
  · exact hact u
  · exact .refl _ _

theorem zoneNotice_within {c : Instr} {z : Zone} {act : State → State} {s t : State} {R : List Region}
    (hact : ∀ u : State, u.Within (act u) R) (h : zoneNotice c z act s = .next t) : s.Within t (.inFlight :: R) := by
  cases h
  exact s.zoneNoticed_within hact

end Sys2Proof.Machine
end

section
/-! SUPPORT. What each command can change: for every command the parts of the state beside the Link Unit, and that the
commands that are not the Link Unit's own keep it. -/

namespace Sys2Proof.Machine

/-! ### The operations of the units -/

/-- The parts of the state that a pass changes. -/
abbrev passRegions : List Region := [.loads, .budget, .choices]

/-- The parts of the state that an event of the Calendar Unit changes. -/
abbrev calendarRegions : List Region := [.calendar, .drafts, .inFlight]

theorem State.attempt_within (s : State) : s.Within s.attempt [.loads, .budget] :=
  .of_frame (by decide) fun r hr => by cases r <;> simp_all [State.same]

theorem State.regrant_within (s : State) : s.Within s.regrant passRegions :=
  .of_frame (by decide) fun r hr => by cases r <;> simp_all [State.same]

theorem State.pass_within (s : State) : s.Within s.pass passRegions :=
  .then (R := passRegions) (s.regrant_within.then (State.raiseAll_within _ _) (by decide)) (State.attempt_within _)
    (by decide)

/-- A pass after a change of loads and Budget Unit. -/
theorem State.pass_changed_within (s : State) (loads : Table 64 Load) (budget : Budget) :
    s.Within (State.pass { s with loads := loads, budget := budget }) passRegions :=
  .trans (.of_frame (by decide) fun r hr => by cases r <;> simp_all [State.same]) (State.pass_within _)

theorem State.withAirZones_within (zones : Table 12 AirZone) (s : State) : s.Within (s.withAirZones zones) [.air] :=
  .of_frame (by decide) fun r hr => by cases r <;> simp_all [State.same]

theorem State.recomputeAir_within (which : Zone → Bool) (change : Zone → AirZone → AirZone) (s : State) :
    s.Within (s.recomputeAir which change) [.air, .inFlight, .choices] :=
  (s.withAirZones_within _).then (State.emit_within _ _) (by decide)

theorem State.withHeatZones_within (zones : Table 12 HeatZone) (s : State) :
    s.Within (s.withHeatZones zones) [.heat] :=
  .of_frame (by decide) fun r hr => by cases r <;> simp_all [State.same]

theorem State.recomputeHeat_within (which : Zone → Bool) (change : HeatZone → HeatZone) (s : State) :
    s.Within (s.recomputeHeat which change) [.heat, .inFlight, .choices] :=
  (s.withHeatZones_within _).then (State.emit_within _ _) (by decide)

theorem State.recomputeLight_within (z : Zone) (change : LightZone → LightZone) (s : State) :
    s.Within (s.recomputeLight z change) [.light, .inFlight] :=
  .then (R := [.light]) (.of_frame (by decide) fun r hr => by cases r <;> simp_all [State.same])
    (State.give_within _ _) (by decide)

theorem State.doorEvent_within (new : Doors) (s : State) : s.Within (s.doorEvent new) [.doors, .inFlight] :=
  .of_frame (by decide) fun r hr => by cases r <;> simp_all [State.same]

theorem State.withDoors_within (s : State) (doors : Doors) : s.Within { s with doors := doors } [.doors] :=
  .of_frame (by decide) fun r hr => by cases r <;> simp_all [State.same]

theorem State.settleLine_within (s : State) (n : LineNo) : s.Within (s.settleLine n) [.doors, .inFlight] := by
  simp only [State.settleLine]
  split
  · exact s.doorEvent_within _
  · exact (s.withDoors_within _).mono (by decide)

theorem State.settleLines_within (ns : List LineNo) (s : State) :
    s.Within (ns.foldl State.settleLine s) [.doors, .inFlight] := by
  induction ns generalizing s with
  | nil => exact .refl _ _
  | cons n ns ih => exact (s.settleLine_within n).trans (ih _)

theorem State.defineDoor_within (n : DoorNo) (d : Option DoorDef) (s : State) :
    s.Within (s.defineDoor n d) [.doors, .inFlight] := by
  unfold State.defineDoor
  split
  · exact s.doorEvent_within _
  · exact (s.withDoors_within _).mono (by decide)

theorem State.placeDoor_within (n : DoorNo) (d : Option DoorDef) (s : State) :
    s.Within (s.placeDoor n d).1 [.doors, .inFlight] := by
  simp only [State.placeDoor]
  repeat' split
  all_goals first | exact .refl _ _ | exact s.defineDoor_within n d

theorem State.onSensor_within (n : SensorNo) (f : Sensor → Sensor) (s : State) :
    s.Within (s.onSensor n f) [.readings] :=
  .of_frame (by decide) fun r hr => by cases r <;> simp_all [State.same]

theorem State.readingEvent_within (n : SensorNo) (f : Sensor → Sensor) (s : State) :
    s.Within (s.readingEvent n f) [.readings, .inFlight] := .of_frame (by decide) (s.readingEvent_onlyChanges n f)

theorem State.calendarEvent_within (e : CalendarEvent) (s : State) : s.Within (s.calendarEvent e) calendarRegions :=
  .of_frame (by decide) (s.calendarEvent_onlyChanges e)

theorem State.withCalendar_within (c : Calendar) (s : State) : s.Within (s.withCalendar c) [.calendar] :=
  .of_frame (by decide) fun r hr => by cases r <;> simp_all [State.same]

theorem State.withBudget_within (s : State) (b : Budget) : s.Within { s with budget := b } [.budget] :=
  .of_frame (by decide) fun r hr => by cases r <;> simp_all [State.same]

theorem State.minuteExpiry_within (stopped : Bool) (s : State) :
    s.Within (s.minuteExpiry stopped) [.calendar, .drafts, .inFlight, .budget] := by
  unfold State.minuteExpiry
  split
  · exact (s.calendarEvent_within _).then (State.withBudget_within _ _) (by decide)
  · exact .refl _ _

theorem State.nextMinute_within (s : State) : s.Within s.nextMinute [.calendar, .drafts, .inFlight, .budget] :=
  (s.withCalendar_within _).then (State.minuteExpiry_within _ _) (by decide)

theorem State.passMinutes_within (ms : List Nat) (s : State) :
    s.Within (ms.foldl State.passMinute s) [.calendar, .drafts, .inFlight, .budget] := by
  induction ms generalizing s with
  | nil => exact .refl _ _
  | cons m ms ih =>
    exact ((s.withCalendar_within _).then (State.minuteExpiry_within false _) (by decide)).trans (ih _)

theorem State.trim_within (target : Nat) (s : State) :
    s.Within (s.trim target) [.calendar, .drafts, .inFlight, .budget] :=
  (s.passMinutes_within _).then (State.withCalendar_within _ _) (by decide)

theorem State.raiseBoundary_within (s : State) : s.Within s.raiseBoundary [.drafts] := by
  unfold State.raiseBoundary
  split
  · exact .refl _ _
  · split
    · exact .then (R := [.drafts]) (.of_frame (by decide) fun r hr => by cases r <;> simp_all [State.same])
        (State.raiseAll_within _ _) (by decide)
    · exact .refl _ _

theorem State.withDrafts_within (s : State) (ds : List Draft) : s.Within { s with drafts := ds } [.drafts] :=
  .of_frame (by decide) fun r hr => by cases r <;> simp_all [State.same]

theorem State.enterAir_within (figures : List AirFigures) (s : State) : s.Within (s.enterAir figures) [.drafts] :=
  (s.withDrafts_within _).trans (State.raiseBoundary_within _)

theorem State.enterDoors_within (figures : List DoorFigures) (s : State) :
    s.Within (s.enterDoors figures) [.drafts] :=
  (s.withDrafts_within _).trans (State.raiseBoundary_within _)

/-- The parts of the state that the Air and Heat Units change when they take a notice. -/
abbrev airRegions : List Region := [.air, .inFlight, .choices]

theorem State.takeHeldValue_within (z : Zone) (g : Gas) (v : Option Nat) (s : State) :
    s.Within (s.takeHeldValue z g v) airRegions := by
  simp only [State.takeHeldValue]
  repeat' split
  · exact .refl _ _
  · exact (s.withAirZones_within _).mono (by decide)
  · exact s.recomputeAir_within _ _

theorem State.takeSubstitute_within (z : Zone) (g : Gas) (flag : Bool) (s : State) :
    s.Within (s.takeSubstitute z g flag) airRegions := by
  unfold State.takeSubstitute
  split
  · exact s.recomputeAir_within _ _
  · exact .refl _ _

theorem State.takeReadingNotice_within (c : Instr) (s : State) : s.Within (s.takeReadingNotice c) airRegions := by
  unfold State.takeReadingNotice
  split
  · exact (s.zoneNoticed_within (State.takeHeldValue_within _ _ _)).mono (by decide)
  · exact (s.zoneNoticed_within (State.takeSubstitute_within _ _ _)).mono (by decide)
  · exact .refl _ _

theorem State.takeReadingNotices_within (s : State) : s.Within s.takeReadingNotices airRegions := by
  have hall (cs : List Instr) (s : State) : s.Within (cs.foldl State.takeReadingNotice s) airRegions := by
    induction cs generalizing s with
    | nil => exact .refl _ _
    | cons c cs ih => exact (s.takeReadingNotice_within c).trans (ih _)
  exact hall _ s

/-- The parts of the state in which the blocks take START. -/
abbrev startRegions : List Region :=
  [.calendar, .doors, .readings, .air, .heat, .light, .budget, .inFlight, .choices]

theorem State.startBlocks_within (s : State) : s.Within s.startBlocks startRegions := by
  have hcalendar : s.Within s.startCalendar startRegions :=
    .of_frame (by decide) fun r hr => by cases r <;> simp_all [State.same, State.startCalendar]
  have hreadings (u : State) : u.Within u.startReadings startRegions :=
    .of_frame (by decide) fun r hr => by cases r <;> simp_all [State.same, State.startReadings]
  have hdoors (u : State) : u.Within u.startDoors startRegions := (u.doorEvent_within _).mono (by decide)
  have hair (u : State) : u.Within u.startAir startRegions :=
    .of_frame (by decide) fun r hr => by cases r <;> simp_all [State.same, State.startAir]
  have hheat (u : State) : u.Within u.startHeat startRegions :=
    .then (R := [.heat]) (.of_frame (by decide) fun r hr => by cases r <;> simp_all [State.same])
      (State.recomputeHeat_within _ _ _) (by decide)
  have hlight (u : State) : u.Within u.startLight startRegions :=
    .of_frame (by decide) fun r hr => by cases r <;> simp_all [State.same, State.startLight]
  have hbudget : s.startCalendar.Within { s.startCalendar with budget := s.startCalendar.budget.start } startRegions :=
    (State.withBudget_within _ _).mono (by decide)
  exact (((((hcalendar.trans hbudget).trans (hreadings _)).trans (hdoors _)).trans (hair _)).trans (hheat _)).trans
    (hlight _)

theorem State.defineLoad_within (n : LoadNo) (d : LoadDef) (s : State) : s.Within (s.defineLoad n d) passRegions := by
  have hset (loads : Table 64 Load) : s.Within { s with loads := loads } passRegions :=
    .of_frame (by decide) fun r hr => by cases r <;> simp_all [State.same]
  obtain h | ⟨loads, h | h⟩ := s.defineLoad_cases n d <;> rw [h]
  · exact .refl _ _
  · exact (hset loads).trans (State.pass_within _)
  · exact hset loads

end Sys2Proof.Machine
end

section
/-! SUPPORT. What each command can change, command by command. -/

namespace Sys2Proof.Machine

/-- The parts of the state, beside the Link Unit, that a command can change. -/
def changedBy : Instr → List Region
  | .reset .. | .startingEnd =>
    [.part, .store, .zones, .loads, .duty, .calendar, .doors, .readings, .air, .heat, .light, .budget, .drafts, .inFlight,
      .choices]
  | .start => .part :: startRegions
  | .stop => [.part, .loads, .calendar, .doors, .readings, .air, .heat, .light, .budget, .drafts, .inFlight]
  | .store | .storeWriteEnd _ => [.part, .store]
  | .setAutorun _ => [.part]
  | .defZone .. => [.zones]
  | .defLoad _ | .cap .. | .capEnd | .capExpiry | .shedRotationExpiry => passRegions
  | .staggerExpiry | .minOffExpiry _ => [.loads, .budget]
  | .setBudget _ => [.budget]
  | .setTime .. | .minuteExpiry => [.calendar, .drafts, .inFlight, .budget]
  | .defProfile _ | .planRow .. => [.calendar]
  | .setCalendar _ | .planCommit | .planWithdraw | .planAnchor .. | .override .. | .overrideEnd _ | .shiftEnd
  | .overrideExpiry _ => calendarRegions
  | .setDoors _ => [.doors, .inFlight, .choices]
  | .defDoor _ | .settledChange _ | .dwellTimerExpiry _ => [.doors, .inFlight]
  | .ackDoor _ | .doorInputChange .. => [.doors]
  | .doorShiftBoundary => [.inFlight, .doors, .drafts]
  | .defSensor .. | .setSensing .. | .quietTimerExpiry _ => [.readings]
  | .reading .. | .dueTimerExpiry _ => [.readings, .inFlight]
  | .setAir .. | .sampleExpiry => airRegions
  | .exhaustStageHoldExpiry _ | .purgeExpiry _ => [.air]
  | .heldValueNotice .. | .airSubstituteFlagNotice .. | .airOpenUnsealedCountNotice .. | .airProfileChangeNotice .. =>
    .inFlight :: airRegions
  | .airMinuteExpiryNotice => [.inFlight, .air]
  | .airShiftBoundary => .inFlight :: .drafts :: airRegions
  | .setHeat .. | .heatStageHoldExpiry _ => [.heat, .inFlight, .choices]
  | .zoneTemperatureNotice .. | .holdDownFlagNotice .. | .heatProfileChangeNotice .. | .lookaheadNotice _
  | .heatShiftBoundary => [.inFlight, .heat, .inFlight, .choices]
  | .heatOpenUnsealedCountNotice .. => [.inFlight, .heat]
  | .lightProfileChangeNotice .. | .zoneLuxNotice .. | .dockLightNotice .. => [.inFlight, .light, .inFlight]
  | .exhaustNotice .. | .heatNotice .. | .lightNotice .. | .curtainRequestNotice .. | .budgetSubstituteFlagNotice ..
  | .siteProfileNotice .. => .inFlight :: passRegions
  | .pulsePeriodStart _ => [.duty]
  | .frameComplete _ | .receiveSilence | .noStopBitCharacter | .transmitEnd | .idleTimerExpiry | .intervalTimerExpiry
  | .partStatus | .mask _ | .setLink .. | .zoneStatus _ | .loadStatus _ | .calendarStatus | .planRead .. | .profileRead _
  | .doorStatus _ | .sensorStatus _ | .budgetStatus | .characterReceived _ => []

/-- The commands of the Link Unit itself, and those that end or begin STARTING. -/
def actsOnLink : Instr → Bool
  | .reset .. | .startingEnd | .storeWriteEnd _ | .frameComplete _ | .characterReceived _ | .transmitEnd
  | .idleTimerExpiry | .intervalTimerExpiry => true
  | _ => false

section
variable {s t : State}

/-! ### Requests -/

theorem request_unchanged_within {c : Instr} {act : State → State × Answer} (hact : ∀ u, (act u).1 = u)
    (h : request c act s = .next t) : s.Within t [] :=
  request_within (fun u _ => (hact u).symm ▸ .refl u _) h

theorem execStart_within (h : execStart s = .next t) : s.Within t (.part :: startRegions) := by
  refine request_within (fun u hop => ?_) h
  split
  · exact .refl _ _
  · refine .trans (t := { u with part := { u.part with op := .run } }) ?_ ((State.startBlocks_within _).mono (by simp))
    exact ⟨fun r hr => by cases r <;> simp_all [State.same], by simp [hop], .refl _, fun _ => ⟨rfl, rfl⟩⟩

theorem execStop_within (h : execStop s = .next t) : s.Within t (changedBy .stop) := by
  refine request_within (fun u hop => ?_) h
  split
  · exact ⟨fun r hr => by cases r <;> simp_all [State.same, State.stopBlocks, accept, changedBy],
      by simp [State.stopBlocks, accept, hop], .refl _, fun _ => ⟨rfl, rfl⟩⟩
  · exact .refl _ _

theorem execStore_within (h : execStore s = .next t) : s.Within t [.part, .store] := by
  refine finish_within ?_ h
  split
  · refine .trans ((s.takeHanded_within .store).mono (List.nil_subset _)) ?_
    exact ⟨fun r hr => by cases r <;> simp_all [State.same], by simp, .refl _, fun _ => ⟨rfl, rfl⟩⟩
  · exact .refl _ _

/-- The requests that change nothing but their reply, or the settings of the Link Unit. -/
theorem execSettingOfLink_within {c : Instr} {act : State → State × Answer}
    (hact : ∀ u : State, ∃ m : Link, (act u).1 = { u with link := m } ∧ u.link.Kept m)
    (h : request c act s = .next t) : s.Within t [] := by
  refine request_within (fun u hop => ?_) h
  obtain ⟨m, hm, hkept⟩ := hact u
  exact hm ▸ .of_link hkept fun hs => absurd hs hop

theorem execMask_within {k : Nat} (h : execMask k s = .next t) : s.Within t [] := by
  refine execSettingOfLink_within (fun u => ?_) h
  split
  · exact ⟨u.link, rfl, .refl _⟩
  · exact ⟨_, rfl, rfl, rfl, rfl, rfl, rfl, id, fun _ => id⟩

theorem execSetLink_within {a b c d : Nat} (h : execSetLink a b c d s = .next t) : s.Within t [] := by
  refine execSettingOfLink_within (fun u => ?_) h
  dsimp only
  repeat' split
  · exact ⟨u.link, rfl, .refl _⟩
  · exact ⟨_, rfl, rfl, rfl, rfl, rfl, rfl, id, fun _ => id⟩
  · exact ⟨u.link, rfl, .refl _⟩

theorem execDefZone_within {zone kind : Nat} (h : execDefZone zone kind s = .next t) : s.Within t [.zones] := by
  refine request_within (fun u _ => ?_) h
  repeat' split
  all_goals first | exact .refl _ _ | exact .of_frame (by decide) fun r hr => by cases r <;> simp_all [State.same, accept]

theorem execDefLoad_within {f : LoadFields} (h : execDefLoad f s = .next t) : s.Within t passRegions := by
  refine request_within (fun u _ => ?_) h
  have hremove (n : LoadNo) : u.Within (u.removeLoad n).1 passRegions := by
    unfold State.removeLoad
    split
    · exact .refl _ _
    · exact .of_frame (by decide) fun r hr => by cases r <;> simp_all [State.same, accept]
  have hplace (n : LoadNo) (ty : LoadType) : u.Within (u.placeLoad n f ty).1 passRegions := by
    unfold State.placeLoad
    repeat' split
    all_goals first | exact .refl _ _ | exact State.defineLoad_within _ _ _
  repeat' split
  all_goals first | exact .refl _ _ | exact hremove _ | exact hplace _ _

/-! ### Commands that answer by a case split over operations of the units -/

theorem execSetTime_within {day second : Nat} (h : execSetTime day second s = .next t) :
    s.Within t (changedBy (.setTime day second)) := by
  refine request_within (fun u _ => ?_) h
  have hmove (n : Nat) : u.Within (u.moveClock n) (changedBy (.setTime day second)) :=
    (u.calendarEvent_within _).mono (by simp [changedBy])
  dsimp only
  repeat' split
  · exact .refl _ _
  · exact hmove _
  · exact u.trim_within _
  · exact hmove _

/-- A request that leaves the state as it is or takes an event of the Calendar Unit. -/
theorem request_calendar_within {c : Instr} {act : State → State × Answer}
    (hact : ∀ u, (act u).1 = u ∨ ∃ e, (act u).1 = u.calendarEvent e) (h : request c act s = .next t) :
    s.Within t calendarRegions := by
  refine request_within (fun u _ => ?_) h
  obtain hsame | ⟨e, he⟩ := hact u
  · rw [hsame]; exact .refl _ _
  · rw [he]; exact u.calendarEvent_within e

theorem execSetDoors_within {filter : Nat} (h : execSetDoors filter s = .next t) :
    s.Within t [.doors, .inFlight, .choices] := by
  refine request_within (fun u _ => ?_) h
  split
  · exact .refl _ _
  · exact ((u.withDoors_within _).then (R'' := [.doors, .choices]) (State.countChoice_within _ _) (by decide)).then
      (State.settleLines_within _ _) (by decide)

theorem execDefDoor_within {f : DoorFields} (h : execDefDoor f s = .next t) : s.Within t [.doors, .inFlight] := by
  refine request_within (fun u _ => ?_) h
  repeat' split
  all_goals first | exact .refl _ _ | exact u.placeDoor_within _ _

theorem execAckDoor_within {k : Nat} (h : execAckDoor k s = .next t) : s.Within t [.doors] := by
  refine request_within (fun u _ => ?_) h
  dsimp only
  repeat' split
  all_goals first | exact .refl _ _ | exact u.withDoors_within _

theorem execDefSensor_within {a b c : Nat} (h : execDefSensor a b c s = .next t) : s.Within t [.readings] := by
  refine request_within (fun u _ => ?_) h
  repeat' split
  all_goals first | exact .refl _ _ | exact u.onSensor_within _ _

theorem execReading_within {n : Nat} {v : Int} (h : execReading n v s = .next t) : s.Within t [.readings, .inFlight] := by
  refine request_within (fun u _ => ?_) h
  dsimp only
  repeat' split
  all_goals first
    | exact .refl _ _ | exact u.readingEvent_within _ _ | exact (u.onSensor_within _ _).mono (by decide)

theorem execSetSensing_within {a b c d : Nat} (h : execSetSensing a b c d s = .next t) : s.Within t [.readings] := by
  refine request_within (fun u _ => ?_) h
  dsimp only
  split
  · exact .refl _ _
  · exact .of_frame (by decide) fun r hr => by cases r <;> simp_all [State.same, accept]

theorem execSetAir_within {a b c d e : Nat} (h : execSetAir a b c d e s = .next t) : s.Within t airRegions := by
  refine request_within (fun u _ => ?_) h
  have hset : u.Within { u with air := { u.air with settings := ⟨a, b, c, d, e⟩ } } airRegions :=
    .of_frame (by decide) fun r hr => by cases r <;> simp_all [State.same]
  dsimp only
  repeat' split
  · exact .refl _ _
  · exact hset.trans (State.recomputeAir_within _ _ _)
  · exact hset

theorem execSetHeat_within {a b c : Nat} (h : execSetHeat a b c s = .next t) :
    s.Within t [.heat, .inFlight, .choices] := by
  refine request_within (fun u _ => ?_) h
  have hset : u.Within { u with heat := { u.heat with settings := ⟨a, b, c⟩ } } [.heat, .inFlight, .choices] :=
    .of_frame (by decide) fun r hr => by cases r <;> simp_all [State.same]
  dsimp only
  repeat' split
  · exact .refl _ _
  · exact hset.trans (State.recomputeHeat_within _ _ _)
  · exact hset

theorem State.withCap_pass_within (c : Option Cap) (s : State) : s.Within (s.withCap c).pass passRegions :=
  s.pass_changed_within s.loads _

theorem execCap_within {v : Int} {n : Nat} (h : execCap v n s = .next t) : s.Within t passRegions := by
  refine request_within (fun u _ => ?_) h
  dsimp only
  repeat' split
  all_goals first | exact .refl _ _ | exact u.withCap_pass_within _

theorem execCapEnd_within (h : execCapEnd s = .next t) : s.Within t passRegions := by
  refine request_within (fun u _ => ?_) h
  repeat' split
  all_goals first | exact .refl _ _ | exact u.withCap_pass_within _

/-! ### Events -/

theorem execDwellTimerExpiry_within {n : DoorNo} (h : execDwellTimerExpiry n s = .next t) :
    s.Within t [.doors, .inFlight] := by
  refine runEvent_within (fun u => ?_) h
  dsimp only
  split
  · exact (u.raiseAll_within _).then (State.doorEvent_within _ _) (by decide)
  · exact .refl _ _

theorem execQuietTimerExpiry_within {n : SensorNo} (h : execQuietTimerExpiry n s = .next t) :
    s.Within t [.readings] := by
  refine runEvent_within (fun u => ?_) h
  dsimp only
  split
  · exact (u.onSensor_within _ _).then (State.raiseAll_within _ _) (by decide)
  · exact .refl _ _

theorem execDueTimerExpiry_within {n : SensorNo} (h : execDueTimerExpiry n s = .next t) :
    s.Within t [.readings, .inFlight] := by
  refine runEvent_within (fun u => ?_) h
  dsimp only
  repeat' split
  · exact .refl _ _
  · exact (u.onSensor_within _ _).then (State.raiseAll_within _ _) (by decide)
  · exact (u.raiseAll_within _).then (State.readingEvent_within _ _ _) (by decide)

theorem execSampleExpiry_within (h : execSampleExpiry s = .next t) : s.Within t airRegions := by
  refine runEvent_within (fun u => ?_) h
  split
  · exact .refl _ _
  · next c _ =>
    have hclock (v : State) : v.Within { v with air := { v.air with clock := some c.tick } } airRegions :=
      .of_frame (by decide) fun r hr => by cases r <;> simp_all [State.same]
    have hsamples (v : State) : v.Within v.takeSamples airRegions := (v.withAirZones_within _).mono (by decide)
    have hsampled := (u.takeReadingNotices_within.trans (hclock _)).trans (hsamples _)
    dsimp only
    split
    · exact hsampled.trans (State.recomputeAir_within _ _ _)
    · exact hsampled

theorem execShedRotationExpiry_within (h : execShedRotationExpiry s = .next t) : s.Within t passRegions := by
  refine runEvent_within (fun u => ?_) h
  dsimp only
  split
  · exact (u.withBudget_within _).mono (by decide)
  · exact u.pass_changed_within u.loads _

theorem execStaggerExpiry_within (h : execStaggerExpiry s = .next t) : s.Within t [.loads, .budget] := by
  refine runEvent_within (fun u => ?_) h
  split
  · exact ((u.withBudget_within _).mono (by decide)).trans (State.attempt_within _)
  · exact .refl _ _

theorem execMinOffExpiry_within {n : LoadNo} (h : execMinOffExpiry n s = .next t) : s.Within t [.loads, .budget] := by
  refine runEvent_within (fun u => ?_) h
  split
  · refine .trans ?_ (State.attempt_within _)
    exact .of_frame (by decide) fun r hr => by cases r <;> simp_all [State.same]
  · exact .refl _ _

theorem execCapExpiry_within (h : execCapExpiry s = .next t) : s.Within t passRegions := by
  refine runEvent_within (fun u => ?_) h
  repeat' split
  all_goals first | exact .refl _ _ | exact u.withCap_pass_within _

/-! ### Notices -/

theorem execAirProfileChangeNotice_within {z : Zone} {p : ProfileNo} (h : execAirProfileChangeNotice z p s = .next t) :
    s.Within t (.inFlight :: airRegions) := by
  refine zoneNotice_within (fun u => ?_) h
  dsimp only
  split
  · exact .refl _ _
  · exact u.recomputeAir_within _ _

theorem execAirShiftBoundary_within (h : execAirShiftBoundary s = .next t) :
    s.Within t (.inFlight :: .drafts :: airRegions) :=
  notice_within (fun u => (u.enterAir_within _).then (State.recomputeAir_within _ _ _) (by decide)) h

theorem execDoorShiftBoundary_within (h : execDoorShiftBoundary s = .next t) :
    s.Within t [.inFlight, .doors, .drafts] :=
  notice_within (fun u => (u.withDoors_within _).then (State.enterDoors_within _ _) (by decide)) h

theorem execLookaheadNotice_within {l : Option Lookahead} (h : execLookaheadNotice l s = .next t) :
    s.Within t [.inFlight, .heat, .inFlight, .choices] := by
  refine notice_within (fun u => .trans ?_ (State.recomputeHeat_within _ _ _)) h
  exact .of_frame (by decide) fun r hr => by cases r <;> simp_all [State.same]

theorem execHeatShiftBoundary_within (h : execHeatShiftBoundary s = .next t) :
    s.Within t [.inFlight, .heat, .inFlight, .choices] := by
  refine notice_within (fun u => .trans ?_ (State.recomputeHeat_within _ _ _)) h
  exact .of_frame (by decide) fun r hr => by cases r <;> simp_all [State.same]

theorem execDockLightNotice_within {d : DoorNo} {b : Bool} (h : execDockLightNotice d b s = .next t) :
    s.Within t [.inFlight, .light, .inFlight] := by
  refine notice_within (fun u => ?_) h
  split
  · refine .trans ?_ (State.recomputeLight_within _ _ _)
    exact .of_frame (by decide) fun r hr => by cases r <;> simp_all [State.same, State.withDock]
  · exact .refl _ _

theorem execCurtainRequestNotice_within {n : LoadNo} {k : Nat} (h : execCurtainRequestNotice n k s = .next t) :
    s.Within t (.inFlight :: passRegions) := by
  refine notice_within (fun u => ?_) h
  split
  · exact u.pass_changed_within _ u.budget
  · exact .refl _ _

end

/-! ### Every command -/

/-- A command that is not the Link Unit's own keeps it, and changes the parts that are the command's alone. -/
theorem exec_within {c : Instr} {s t : State} (hc : actsOnLink c = false) (h : exec c s = .next t) :
    s.Within t (changedBy c) := by
  cases c with
  | reset | startingEnd | storeWriteEnd | frameComplete | characterReceived | transmitEnd | idleTimerExpiry
  | intervalTimerExpiry => cases hc
  | receiveSilence | noStopBitCharacter =>
    simp only [exec] at h
    refine finish_within ?_ h
    exact .of_link ⟨rfl, rfl, rfl, rfl, rfl, id, fun _ => id⟩ fun _ => ⟨rfl, rfl⟩
  | start => exact execStart_within h
  | stop => exact execStop_within h
  | store => exact execStore_within h
  | mask => exact execMask_within h
  | setLink => exact execSetLink_within h
  | defZone => exact execDefZone_within h
  | defLoad => exact execDefLoad_within h
  | setTime => exact execSetTime_within h
  | setDoors => exact execSetDoors_within h
  | defDoor => exact execDefDoor_within h
  | ackDoor => exact execAckDoor_within h
  | defSensor => exact execDefSensor_within h
  | setSensing => exact execSetSensing_within h
  | reading => exact execReading_within h
  | setAir => exact execSetAir_within h
  | setHeat => exact execSetHeat_within h
  | cap => exact execCap_within h
  | capEnd => exact execCapEnd_within h
  | dwellTimerExpiry => exact execDwellTimerExpiry_within h
  | quietTimerExpiry => exact execQuietTimerExpiry_within h
  | dueTimerExpiry => exact execDueTimerExpiry_within h
  | sampleExpiry => exact execSampleExpiry_within h
  | shedRotationExpiry => exact execShedRotationExpiry_within h
  | staggerExpiry => exact execStaggerExpiry_within h
  | minOffExpiry => exact execMinOffExpiry_within h
  | capExpiry => exact execCapExpiry_within h
  | airProfileChangeNotice => exact execAirProfileChangeNotice_within h
  | airShiftBoundary => exact execAirShiftBoundary_within h
  | doorShiftBoundary => exact execDoorShiftBoundary_within h
  | lookaheadNotice => exact execLookaheadNotice_within h
  | heatShiftBoundary => exact execHeatShiftBoundary_within h
  | dockLightNotice => exact execDockLightNotice_within h
  | curtainRequestNotice => exact execCurtainRequestNotice_within h
  | partStatus | calendarStatus | budgetStatus => exact request_unchanged_within (fun _ => rfl) h
  | zoneStatus | loadStatus | doorStatus | sensorStatus | profileRead | planRead =>
    simp only [exec] at h
    refine request_unchanged_within ?_ h
    intro u
    split <;> rfl
  | setAutorun =>
    simp only [exec] at h
    refine request_within (fun u hop => ?_) h
    split
    · exact .refl _ _
    · exact ⟨fun r hr => by cases r <;> simp_all [State.same, changedBy, accept], Iff.rfl, .refl _, fun _ => ⟨rfl, rfl⟩⟩
  | setBudget =>
    simp only [exec] at h
    refine request_within (fun u _ => ?_) h
    split
    · exact .refl _ _
    · exact u.withBudget_within _
  | defProfile | planRow =>
    simp only [exec] at h
    refine request_within (fun u _ => ?_) h
    repeat' split
    all_goals first | exact .refl _ _ | exact u.withCalendar_within _
  | setCalendar | planWithdraw | planAnchor =>
    simp only [exec] at h
    refine request_calendar_within (fun u => ?_) h
    split
    all_goals first | exact .inl rfl | exact .inr ⟨_, rfl⟩
  | planCommit | override | overrideEnd =>
    simp only [exec] at h
    refine request_calendar_within (fun u => ?_) h
    repeat' (first | split | dsimp only)
    all_goals first | exact .inl rfl | exact .inr ⟨_, rfl⟩
  | minuteExpiry => exact finish_within s.nextMinute_within h
  | shiftEnd | overrideExpiry =>
    simp only [exec] at h
    refine runEvent_within (fun u => ?_) h
    split
    · exact u.calendarEvent_within _
    · exact .refl _ _
  | doorInputChange => exact finish_within (s.withDoors_within _) h
  | settledChange =>
    simp only [exec] at h
    refine finish_within ?_ h
    split
    · exact s.settleLine_within _
    · exact .refl _ _
  | exhaustStageHoldExpiry | purgeExpiry => exact runEvent_within (fun u => u.withAirZones_within _) h
  | heldValueNotice => exact zoneNotice_within (State.takeHeldValue_within _ _ _) h
  | airSubstituteFlagNotice => exact zoneNotice_within (State.takeSubstitute_within _ _ _) h
  | airOpenUnsealedCountNotice => exact zoneNotice_within (State.recomputeAir_within _ _) h
  | airMinuteExpiryNotice => exact notice_within (fun u => u.withAirZones_within _) h
  | zoneTemperatureNotice | holdDownFlagNotice | heatProfileChangeNotice =>
    exact zoneNotice_within (State.recomputeHeat_within _ _) h
  | heatOpenUnsealedCountNotice => exact zoneNotice_within (fun u => u.withHeatZones_within _) h
  | heatStageHoldExpiry =>
    simp only [exec] at h
    refine runEvent_within (fun u => ?_) h
    split
    · exact u.recomputeHeat_within _ _
    · exact .refl _ _
  | lightProfileChangeNotice | zoneLuxNotice => exact zoneNotice_within (State.recomputeLight_within _ _) h
  | exhaustNotice | heatNotice | lightNotice =>
    exact zoneNotice_within (fun u => u.pass_changed_within _ _) h
  | budgetSubstituteFlagNotice => exact zoneNotice_within (fun u => u.pass_changed_within u.loads _) h
  | siteProfileNotice => exact notice_within (fun u => u.pass_changed_within u.loads _) h
  | pulsePeriodStart =>
    simp only [exec] at h
    refine finish_within (R := [.duty]) ?_ h
    exact .of_frame (by decide) fun r hr => by cases r <;> simp_all [State.same]

end Sys2Proof.Machine
end

section
/-! SUPPORT. What every command leaves alone, and the passing of a tenth of a second. -/

namespace Sys2Proof.Machine

/-! ### The commands of the Link Unit -/

/-- A change of the Link Unit alone. -/
theorem State.onLink_onlyChanges (f : Link → Link) (s : State) (R : List Region) :
    s.onlyChanges (s.onLink f) (.link :: R) :=
  fun r hr => by cases r <;> simp_all [State.same]

theorem State.probeDue_onlyChanges (s : State) (R : List Region) : s.onlyChanges s.probeDue (.link :: R) :=
  s.onLink_onlyChanges _ R

theorem State.completeFrame_onlyChanges (f : RawFrame) (s : State) (R : List Region) :
    s.onlyChanges (s.completeFrame f) (.link :: R) :=
  fun r hr => by cases r <;> simp_all [State.same]

theorem finish_onlyChanges {s u t : State} {R : List Region} (hu : s.onlyChanges u (.link :: R))
    (h : finish u = .next t) : s.onlyChanges t (.link :: R) := by
  cases h
  exact hu.trans (u.settle_within.frame.mono (by simp))

theorem execIdleTimerExpiry_onlyChanges {s t : State} (h : execIdleTimerExpiry s = .next t) :
    s.onlyChanges t [.link] := by
  refine finish_onlyChanges ?_ h
  split
  · exact (s.onLink_onlyChanges _ []).trans (State.probeDue_onlyChanges _ _)
  · exact (s.onLink_onlyChanges _ []).trans (State.probeDue_onlyChanges _ _)
  · exact s.onlyChanges_refl _

theorem execIntervalTimerExpiry_onlyChanges {s t : State} (h : execIntervalTimerExpiry s = .next t) :
    s.onlyChanges t [.link] := by
  refine finish_onlyChanges ?_ h
  repeat' split
  · exact (s.onLink_onlyChanges _ []).trans (State.probeDue_onlyChanges _ _)
  · exact s.onLink_onlyChanges _ []
  · exact s.onlyChanges_refl _

/-! ### Every command -/

theorem execStartingEnd_pending {s t : State} (h : execStartingEnd s = .next t) : t.pending = s.pending := by
  cases h
  have hstart (u : State) : u.startIfRunning.pending = u.pending := by
    unfold State.startIfRunning
    split
    · exact (u.startBlocks_within).frame .pending (by decide)
    · rfl
  rw [State.settle_pending]
  split
  · rw [State.raise_pending, hstart]; rfl
  · rfl

/-- No command changes anything beside the Link Unit outside its own parts of the state. -/
theorem exec_onlyChanges {c : Instr} {s t : State} (h : exec c s = .next t) :
    s.onlyChanges t (.link :: changedBy c) := by
  cases hc : actsOnLink c with
  | false => exact (exec_within hc h).frame
  | true =>
    cases c with
    | reset =>
      cases h
      exact fun r hr => by cases r <;> simp_all [State.same, changedBy, State.withStored]
    | startingEnd =>
      intro r hr
      cases r <;> simp_all [changedBy]
      exact execStartingEnd_pending h
    | storeWriteEnd verified =>
      refine finish_onlyChanges ?_ h
      split
      · exact s.onlyChanges_refl _
      · exact fun r hr => by cases r <;> simp_all [State.same, changedBy]
    | frameComplete =>
      refine finish_onlyChanges ?_ h
      split
      · exact s.onlyChanges_refl _
      · exact s.completeFrame_onlyChanges _ _
    | characterReceived =>
      refine finish_onlyChanges ?_ h
      repeat' split
      · exact s.onlyChanges_refl _
      · exact s.onLink_onlyChanges _ _
      · exact s.completeFrame_onlyChanges _ _
    | transmitEnd =>
      refine finish_onlyChanges ?_ h
      split
      · exact s.onlyChanges_refl _
      · exact s.onLink_onlyChanges _ _
    | idleTimerExpiry => exact execIdleTimerExpiry_onlyChanges h
    | intervalTimerExpiry => exact execIntervalTimerExpiry_onlyChanges h
    | _ => cases hc

/-! ### A tenth of a second -/

theorem State.clockTenth_within (s : State) : s.Within s.clockTenth [.calendar, .drafts, .inFlight, .budget] := by
  simp only [State.clockTenth]
  repeat' split
  · exact (s.withCalendar_within _).mono (by decide)
  · exact s.nextMinute_within
  · exact (s.withCalendar_within _).mono (by decide)

/-- A tenth of a second passes at the timers, and then at the clock. -/
theorem State.tick_within (s : State) : s.timersTenth.Within s.tick [.calendar, .drafts, .inFlight, .budget] :=
  s.timersTenth.clockTenth_within.then (State.settle_within _) (by decide)

/-! ### A step -/

/-- A step runs a command, on the state with the queue that remains, or a tenth of a second passes. -/
theorem step_cases {s t : State} (h : step s = .next t) :
    (∃ (c : Instr) (queue : List Instr), exec c { s with pending := queue } = .next t) ∨ t = s.tick := by
  unfold step at h
  split at h
  · exact .inl ⟨_, _, h⟩
  · unfold idle at h
    split at h
    · exact .inl ⟨_, s.pending, h⟩
    · cases h; exact .inr rfl

/-- What the queue has no part in, every command keeps and the passing of a tenth keeps, every step keeps. -/
theorem step_keeps {P : State → Prop} (hqueue : ∀ s queue, P s → P { s with pending := queue })
    (hexec : ∀ c s t, P s → exec c s = .next t → P t) (htick : ∀ s, P s → P s.tick) {s t : State} (hs : P s)
    (h : step s = .next t) : P t := by
  obtain ⟨c, queue, hc⟩ | rfl := step_cases h
  · exact hexec c _ t (hqueue s queue hs) hc
  · exact htick s hs

/-! ### What runs a request, a notice or an event keeps -/

section
variable {P : State → Prop} {s t : State}

theorem finish_keeps (hlink : ∀ s m, P s → P { s with link := m }) (hs : P s) (h : finish s = .next t) : P t := by
  cases h
  unfold State.settle
  split
  · exact hs
  · exact hlink _ _ hs

theorem runEvent_keeps {act : State → State} (hlink : ∀ s m, P s → P { s with link := m })
    (hact : s.part.op = .run → P s → P (act s)) (hs : P s) (h : runEvent act s = .next t) : P t := by
  refine finish_keeps hlink ?_ h
  split
  · next hrun => exact hact (s.running_iff.1 hrun) hs
  · exact hs

theorem request_keeps {c : Instr} {act : State → State × Answer} (hlink : ∀ s m, P s → P { s with link := m })
    (hact : ∀ u : State, u.part.op ≠ .starting → P u → P (act u).1) (hs : P s) (h : request c act s = .next t) :
    P t := by
  unfold request at h
  split at h
  · next htakes =>
    have hop : (s.takeHanded c).part.op ≠ .starting := by
      simp [State.takesRequests] at htakes
      simpa using htakes.1
    refine finish_keeps hlink (hlink _ _ (hact _ hop ?_)) h
    unfold State.takeHanded
    split
    · exact hlink _ _ hs
    · exact hs
  · exact finish_keeps hlink hs h

theorem notice_keeps {c : Instr} {act : State → State} (hlink : ∀ s m, P s → P { s with link := m })
    (hflight : ∀ s fs, P s → P { s with inFlight := fs }) (hact : ∀ u : State, u.part.op = .run → P u → P (act u))
    (hs : P s) (h : notice c act s = .next t) : P t := by
  refine finish_keeps (s := if s.inTurn c then _ else _) hlink ?_ h
  split
  · split
    · next hrun => exact hact _ ((State.running_iff _).1 hrun) (hflight _ _ hs)
    · exact hflight _ _ hs
  · unfold State.waitTurn
    split
    · exact hs
    · exact hflight _ _ hs

theorem zoneNotice_keeps {c : Instr} {z : Zone} {act : State → State} (hlink : ∀ s m, P s → P { s with link := m })
    (hflight : ∀ s fs, P s → P { s with inFlight := fs }) (hact : ∀ u : State, u.part.op = .run → P u → P (act u))
    (hs : P s) (h : zoneNotice c z act s = .next t) : P t := by
  refine notice_keeps (c := c) hlink hflight (fun u hrun hu => ?_) hs h
  split
  · exact hact u hrun hu
  · exact hu

end

end Sys2Proof.Machine
end

section
/-! Every step keeps every door record sound (chapter 3). -/

namespace Sys2Proof.Machine

/-! ### One door -/

section
variable {d : Door}

theorem Door.enabled_of_state (h : DoorSound d) (hs : d.state ≠ .disabled) : d.enabled = true := by
  have hiff := h.disabled
  simp_all

theorem Door.limitTimer_isSome (h : d.enabled = true) : d.limitTimer.isSome = true := by
  unfold Door.enabled at h
  unfold Door.limitTimer
  cases hdefn : d.defn with
  | none =>
    rw [hdefn] at h
    exact absurd h Bool.false_ne_true
  | some f => rfl

theorem doorSound_atRest (f : Option DoorDef) : DoorSound (Door.atRest f) := by
  cases f with
  | none => exact ⟨by simp [Door.atRest, Door.enabled], by simp [Door.atRest], by simp [Door.atRest], by simp [Door.atRest]⟩
  | some f => cases he : f.enabled <;>
      exact ⟨by simp [Door.atRest, Door.enabled, he], by simp [Door.atRest, he], by simp [Door.atRest], by simp [Door.atRest]⟩

/-- A door that is enabled and stands in a state without a dwell timer. -/
theorem DoorSound.of_still (he : d.enabled = true) (hs : d.state ≠ .disabled ∧ d.state ≠ .opened) (hd : d.dwell = none)
    (ho : d.opens ≤ 255) (hn : d.entries ≤ 255) : DoorSound d :=
  ⟨by simp [he, hs.1], by simp [hd, hs.2], ho, hn⟩

theorem DoorSound.toOpen (he : d.enabled = true) (ho : d.opens ≤ 255) (hn : d.entries ≤ 255) : DoorSound d.toOpen where
  disabled := by simpa [Door.toOpen, Door.enabled] using he
  dwell := by simpa [Door.toOpen] using Door.limitTimer_isSome he
  opens := ho
  entries := hn

theorem saturate_le (n : Nat) : saturate n ≤ 255 := Nat.min_le_left _ _

theorem DoorSound.opensUp (h : DoorSound d) (trailer : Bool) : DoorSound (d.opensUp trailer) := by
  unfold Door.opensUp
  split
  · next hs =>
    have he := Door.enabled_of_state h (by simp [hs])
    have hd : d.dwell = none := by simpa [hs] using h.dwell
    dsimp only
    split
    · exact .of_still he (by simp) hd (saturate_le _) h.entries
    · exact .toOpen (d := { d with opens := saturate d.opens }) he (saturate_le _) h.entries
  · exact h

theorem DoorSound.closes (h : DoorSound d) : DoorSound d.closes := by
  unfold Door.closes
  split
  all_goals first
    | exact h
    | next hs =>
      have he := Door.enabled_of_state h (by simp [hs])
      exact .of_still he (by simp) rfl h.opens h.entries

theorem DoorSound.trailerArrives (h : DoorSound d) : DoorSound d.trailerArrives := by
  unfold Door.trailerArrives
  split
  all_goals first
    | exact h
    | next hs =>
      have he := Door.enabled_of_state h (by simp [hs])
      exact .of_still he (by simp) rfl h.opens h.entries

theorem DoorSound.trailerLeaves (h : DoorSound d) : DoorSound d.trailerLeaves := by
  unfold Door.trailerLeaves
  split
  · next hs => exact .toOpen (Door.enabled_of_state h (by simp [hs])) h.opens h.entries
  · exact h

theorem DoorSound.dwells (h : DoorSound d) (hd : d.dwelling = true) : DoorSound d.dwells := by
  have hs : d.state = .opened := by simp [Door.dwelling] at hd; exact hd.1
  have he := Door.enabled_of_state h (by simp [hs])
  exact .of_still (d := d.dwells) he (by simp [Door.dwells]) rfl h.opens (saturate_le _)

theorem DoorSound.evaluate (h : DoorSound d) (he : d.enabled = true) (isOpen trailer : Bool) :
    DoorSound (d.evaluate isOpen trailer) := by
  simp only [Door.evaluate]
  repeat' split
  · exact .of_still he (by simp) rfl h.opens h.entries
  · exact .of_still he (by simp) rfl h.opens h.entries
  · exact .toOpen (d := { d with evaluated := true, dwell := none }) he h.opens h.entries

theorem DoorSound.contactEvent (h : DoorSound d) (ds : Doors) (n : LineNo) : DoorSound (ds.contactEvent n d) := by
  simp only [Doors.contactEvent]
  repeat' split
  · exact h.trailerArrives
  · exact h.trailerLeaves
  · exact h.opensUp _
  · exact h.closes

end

/-! ### Every door -/

/-- What door soundness reads of the state: the door records and whether the part is in RUN. -/
theorem DoorsSound.congr {s t : State} (h : DoorsSound s) (hpart : t.part.op = s.part.op)
    (hdoors : t.doors.doors = s.doors.doors) : DoorsSound t :=
  ⟨hdoors ▸ h.doors, by rw [hpart, hdoors]; exact h.evaluated⟩

theorem DoorsSound.of_run {t : State} (hrun : t.part.op = .run) (h : ∀ n, DoorSound (t.doors.doors.get n)) :
    DoorsSound t := ⟨h, fun hop => absurd hrun hop⟩

theorem DoorsSound.withLink (s : State) (m : Link) (h : DoorsSound s) : DoorsSound { s with link := m } :=
  h.congr rfl rfl

theorem DoorsSound.withFlight (s : State) (fs : List Flight) (h : DoorsSound s) : DoorsSound { s with inFlight := fs } :=
  h.congr rfl rfl

/-- An event that leaves part-wide state and doors alone keeps every door sound. -/
theorem DoorsSound.of_frame {s t : State} {R : List Region} (h : DoorsSound s) (hframe : s.onlyChanges t R)
    (hdoors : .doors ∉ R) (hpart : .part ∉ R) : DoorsSound t := by
  have hd : t.doors = s.doors := hframe _ hdoors
  have hp : t.part = s.part := hframe _ hpart
  exact h.congr (by rw [hp]) (by rw [hd])

/-- One door changed, every other door as it was. -/
theorem doorSound_onDoor {ds : Doors} {n : DoorNo} {f : Door → Door} (h : ∀ m, DoorSound (ds.doors.get m))
    (hf : DoorSound (f (ds.doors.get n))) (m : DoorNo) : DoorSound ((ds.onDoor n f).doors.get m) := by
  rw [Doors.onDoor, Table.get_modify]
  split
  · next hnm => exact hnm ▸ hf
  · exact h m

theorem DoorsSound.settleLine {s : State} (n : LineNo) (h : DoorsSound s) : DoorsSound (s.settleLine n) := by
  simp only [State.settleLine]
  split
  · next hrun =>
    simp only [Bool.and_eq_true] at hrun
    exact .of_run (s.running_iff.1 hrun.1)
      (doorSound_onDoor (ds := s.doors.onLine n Line.settle) h.doors ((h.doors _).contactEvent _ n))
  · exact h.congr rfl rfl

theorem DoorsSound.settleLines {s : State} (ns : List LineNo) (h : DoorsSound s) :
    DoorsSound (ns.foldl State.settleLine s) := by
  induction ns generalizing s with
  | nil => exact h
  | cons n ns ih => exact ih (h.settleLine n)

theorem Doors.onDoor_onDoor_get (ds : Doors) (n : DoorNo) (f g : Door → Door) :
    ((ds.onDoor n f).onDoor n g).doors = (ds.onDoor n (g ∘ f)).doors := by
  refine Table.ext_get fun m => ?_
  simp only [Doors.onDoor, Table.get_modify]
  split <;> rfl

/-- A definition changed in RUN, zone and polarities being those of a defined door (R58, R59). -/
theorem doorSound_redefine {ds : Doors} {n : DoorNo} {p f : DoorDef} (h : ∀ m, DoorSound (ds.doors.get m))
    (hp : (ds.doors.get n).defn = some p) (m : DoorNo) : DoorSound ((ds.redefine n f).doors.get m) := by
  have hn := h n
  have hsame : (ds.doors.get n).enabled = p.enabled := by rw [Door.enabled, hp]
  simp only [Doors.redefine, hp]
  repeat' split
  · rw [Doors.onDoor_onDoor_get]
    next he =>
    simp only [Bool.and_eq_true, Bool.not_eq_true'] at he
    exact doorSound_onDoor h
      ⟨by simp [Door.disable, Door.enabled, he.2], by simp [Door.disable], hn.opens, hn.entries⟩ m
  · rw [Doors.onDoor_onDoor_get]
    next he =>
    simp only [Bool.and_eq_true, Bool.not_eq_true'] at he
    refine doorSound_onDoor h ?_ m
    simp only [Function.comp, Door.evaluate]
    repeat' split
    · exact .of_still he.2 (by simp) rfl hn.opens hn.entries
    · exact .of_still he.2 (by simp) rfl hn.opens hn.entries
    · exact .toOpen (d := { ds.doors.get n with defn := some f, evaluated := true, dwell := none }) he.2 hn.opens
        hn.entries
  · rw [Doors.onDoor_onDoor_get]
    next hdown hup hs =>
    have he : (ds.doors.get n).enabled = true := Door.enabled_of_state hn (by simp [hs.1])
    have hf : f.enabled = true := by simp_all
    exact doorSound_onDoor h (.toOpen (d := { ds.doors.get n with defn := some f }) hf hn.opens hn.entries) m
  · next hdown hup hs =>
    refine doorSound_onDoor h ⟨?_, hn.dwell, hn.opens, hn.entries⟩ m
    have hf : f.enabled = (ds.doors.get n).enabled := by
      cases hfe : f.enabled <;> cases hpe : p.enabled <;> simp_all
    rw [hn.disabled, ← hf]
    rfl

theorem DoorsSound.defineDoor {s : State} {n : DoorNo} {d : Option DoorDef} (h : DoorsSound s)
    (hrun : s.part.op = .run → d ≠ none ∧ (s.doors.doors.get n).defn ≠ none) : DoorsSound (s.defineDoor n d) := by
  unfold State.defineDoor
  split
  · next f hr =>
    have hop := s.running_iff.1 hr
    obtain ⟨p, hp⟩ := Option.ne_none_iff_exists'.1 (hrun hop).2
    exact .of_run hop (doorSound_redefine h.doors hp)
  · next hstop =>
    have hop : s.part.op ≠ .run := by
      intro hop
      obtain ⟨f, hf⟩ := Option.ne_none_iff_exists'.1 (hrun hop).1
      exact hstop f (s.running_iff.2 hop) hf
    refine ⟨doorSound_onDoor h.doors (doorSound_atRest _), fun _ m => ?_⟩
    simp only [Doors.onDoor, Table.get_modify]
    split
    · rfl
    · exact h.evaluated hop m

theorem DoorsSound.placeDoor {s : State} {n : DoorNo} {d : Option DoorDef} (h : DoorsSound s)
    (hrun : s.part.op = .run → d ≠ none ∧ (s.doors.doors.get n).defn ≠ none) : DoorsSound (s.placeDoor n d).1 := by
  simp only [State.placeDoor]
  repeat' split
  · exact h.defineDoor hrun
  · exact h
  · exact h
  · exact h.defineDoor hrun

theorem allowedInRun_defined {o : DoorOrder} {present : Option DoorDef} (h : o.allowedInRun present = true) :
    present ≠ none := by
  rintro rfl
  cases o <;> cases h

/-! ### Commands -/

section
variable {s t : State}

theorem DoorsSound.execDefDoor {f : DoorFields} (hs : DoorsSound s) (h : execDefDoor f s = .next t) : DoorsSound t := by
  refine request_keeps DoorsSound.withLink (fun u _ hu => ?_) hs h
  split
  · next n order _ _ =>
    split
    · exact hu
    · next hallowed =>
      have hdefined (hop : u.part.op = .run) : order.allowedInRun (u.doors.doors.get n).defn = true := by
        simpa [u.running_iff.2 hop] using hallowed
      cases order with
      | remove =>
        refine hu.placeDoor fun hop => ?_
        have hfalse := hdefined hop
        rw [allowedInRun_remove] at hfalse
        cases hfalse
      | define k defn =>
        dsimp only
        repeat' split
        · exact hu
        · exact hu
        · exact hu.placeDoor fun hop => ⟨by simp, allowedInRun_defined (hdefined hop)⟩
  · exact hu

theorem DoorsSound.execAckDoor {k : Nat} (hs : DoorsSound s) (h : execAckDoor k s = .next t) : DoorsSound t := by
  refine request_keeps DoorsSound.withLink (fun u _ hu => ?_) hs h
  have hclear (n : DoorNo) :
      DoorsSound { u with doors := u.doors.onDoor n fun d => { d with alert := false } } := by
    have hn := hu.doors n
    refine ⟨doorSound_onDoor hu.doors ⟨hn.disabled, hn.dwell, hn.opens, hn.entries⟩, fun hop m => ?_⟩
    simp only [Doors.onDoor, Table.get_modify]
    split <;> exact hu.evaluated hop m
  dsimp only
  repeat' split
  all_goals first | exact hu | exact hclear _

theorem DoorsSound.execSetDoors {filter : Nat} (hs : DoorsSound s) (h : execSetDoors filter s = .next t) :
    DoorsSound t := by
  refine request_keeps DoorsSound.withLink (fun u _ hu => ?_) hs h
  split
  · exact hu
  · exact DoorsSound.settleLines _ (hu.congr (by simp) (by simp))

theorem DoorsSound.execDwellTimerExpiry {n : DoorNo} (hs : DoorsSound s) (h : execDwellTimerExpiry n s = .next t) :
    DoorsSound t := by
  refine runEvent_keeps DoorsSound.withLink (fun hop hu => ?_) hs h
  dsimp only
  split
  · next hd => exact .of_run (by simpa using hop) (doorSound_onDoor hu.doors ((hu.doors n).dwells hd))
  · exact hu

theorem DoorsSound.execDoorShiftBoundary (hs : DoorsSound s) (h : execDoorShiftBoundary s = .next t) :
    DoorsSound t := by
  refine notice_keeps DoorsSound.withLink DoorsSound.withFlight (fun u hop hu => .of_run (by simpa using hop) fun n => ?_)
    hs h
  have hn := hu.doors n
  simp only [State.enterDoors_doors, Table.get_map]
  exact ⟨hn.disabled, hn.dwell, by simp, by simp⟩

theorem DoorsSound.execDoorInputChange {n : LineNo} {high : Bool} (hs : DoorsSound s)
    (h : execDoorInputChange n high s = .next t) : DoorsSound t := by
  refine finish_keeps DoorsSound.withLink ?_ h
  exact hs.congr rfl rfl

theorem DoorsSound.execSettledChange {n : LineNo} (hs : DoorsSound s) (h : execSettledChange n s = .next t) :
    DoorsSound t := by
  refine finish_keeps DoorsSound.withLink ?_ h
  split
  · exact hs.settleLine n
  · exact hs

/-- The doors with which every block takes START, each enabled one evaluated (R74). -/
theorem State.startBlocks_doors (s : State) : s.startBlocks.doors = s.doors.evaluateAll := by
  simp [State.startBlocks, State.startDoors, State.doorEvent, State.startCalendar, State.startReadings, State.startAir,
    State.startHeat, State.startLight]

theorem DoorsSound.startBlocks (hop : s.part.op = .run) (h : ∀ n, DoorSound (s.doors.doors.get n)) :
    DoorsSound s.startBlocks := by
  refine .of_run ?_ fun n => ?_
  · have hpart : s.startBlocks.part = s.part := s.startBlocks_within.frame .part (by decide)
    rw [hpart, hop]
  · simp only [State.startBlocks_doors, Doors.evaluateAll, Table.get_mapIdx]
    split
    · next he => exact (h n).evaluate he _ _
    · exact h n

theorem DoorsSound.execStart (hs : DoorsSound s) (h : execStart s = .next t) : DoorsSound t := by
  refine request_keeps DoorsSound.withLink (fun u _ hu => ?_) hs h
  split
  · exact hu
  · exact DoorsSound.startBlocks (s := { u with part := { u.part with op := .run } }) rfl hu.doors

theorem DoorsSound.execStop (hs : DoorsSound s) (h : execStop s = .next t) : DoorsSound t := by
  refine request_keeps DoorsSound.withLink (fun u _ hu => ?_) hs h
  split
  · refine ⟨fun n => ?_, fun _ n => ?_⟩ <;> simp only [State.stopBlocks, Doors.stop, accept, Table.get_map]
    · exact doorSound_atRest _
    · rfl
  · exact hu

/-- Doors that stand at rest are sound in every operating state. -/
theorem DoorsSound.of_atRest (h : ∀ n, ∃ f, s.doors.doors.get n = Door.atRest f) : DoorsSound s := by
  refine ⟨fun n => ?_, fun _ n => ?_⟩ <;> obtain ⟨f, hf⟩ := h n <;> rw [hf]
  · exact doorSound_atRest f
  · rfl

theorem DoorsSound.execReset {a b : Bool} (h : execReset a b s = .next t) : DoorsSound t := by
  refine finish_keeps DoorsSound.withLink (.of_atRest fun n => ⟨Stored.builtIn.doors.get n, ?_⟩) h
  simp [State.withStored]

theorem DoorsSound.execStartingEnd (hs : DoorsSound s) (h : execStartingEnd s = .next t) : DoorsSound t := by
  refine finish_keeps DoorsSound.withLink ?_ h
  split
  · have hstarted : DoorsSound s.started :=
      .of_atRest fun n => ⟨(s.store.image.contents?.getD Stored.builtIn).doors.get n, by
        simp [State.started, State.withStored, Doors.takeLines]⟩
    have hrunning : DoorsSound s.started.startIfRunning := by
      unfold State.startIfRunning
      split
      · next hrun => exact .startBlocks ((State.running_iff _).1 hrun) hstarted.doors
      · exact hstarted
    exact hrunning.congr (by simp) (by simp)
  · exact hs

end

/-! ### Every step -/

theorem DoorsSound.exec (c : Instr) (s t : State) (hs : DoorsSound s) (h : exec c s = .next t) : DoorsSound t := by
  by_cases hc : .doors ∈ changedBy c ∨ .part ∈ changedBy c
  · cases c <;> simp [changedBy] at hc
    case reset => exact .execReset h
    case startingEnd => exact hs.execStartingEnd h
    case start => exact hs.execStart h
    case stop => exact hs.execStop h
    case store =>
      refine finish_keeps DoorsSound.withLink ?_ h
      split
      · exact hs.congr (by simp) (by simp)
      · exact hs
    case storeWriteEnd =>
      refine finish_keeps DoorsSound.withLink ?_ h
      split
      · exact hs
      · exact hs.congr rfl rfl
    case setAutorun =>
      simp only [Machine.exec] at h
      refine request_keeps DoorsSound.withLink (fun u _ hu => ?_) hs h
      split
      · exact hu
      · exact hu.congr rfl rfl
    case setDoors => exact hs.execSetDoors h
    case defDoor => exact hs.execDefDoor h
    case ackDoor => exact hs.execAckDoor h
    case doorInputChange => exact hs.execDoorInputChange h
    case settledChange => exact hs.execSettledChange h
    case dwellTimerExpiry => exact hs.execDwellTimerExpiry h
    case doorShiftBoundary => exact hs.execDoorShiftBoundary h
  · simp only [not_or] at hc
    exact hs.of_frame (exec_onlyChanges h) (by simpa using hc.1) (by simpa using hc.2)

theorem DoorsSound.tick (s : State) (h : DoorsSound s) : DoorsSound s.tick := by
  have htimers : DoorsSound s.timersTenth := by
    refine ⟨fun n => ?_, fun hop n => ?_⟩ <;> simp only [State.timersTenth, Doors.tenth, Table.get_map]
    · have hn := h.doors n
      exact ⟨hn.disabled, by simpa [Timer.countDown] using hn.dwell, hn.opens, hn.entries⟩
    · exact h.evaluated hop n
  exact htimers.of_frame s.tick_within.frame (by decide) (by decide)

/-- Settles O58: what a command leaves alone, and for the commands of the Door Unit and of the operating states their
effects on one door. -/
theorem stepKeepsDoorsSound : Obligations.StepKeepsDoorsSound := fun _ _ =>
  step_keeps (fun _ _ h => h.congr rfl rfl) DoorsSound.exec DoorsSound.tick

end Sys2Proof.Machine
end

section
/-! Every step keeps the stages of the Air and Heat Units sound (chapters 5 and 6). -/

namespace Sys2Proof.Machine

/-! ### One gas -/

/-- A gas record keeps the ranges of its ring and its ratios (Table 5-1). -/
structure GasFit (r : GasAir) : Prop where
  ring : r.ring.length ≤ 15
  short : r.shortRatio ≤ 255
  shift : r.shiftRatio ≤ 255

theorem ratio_le (avg : Option Nat) (limit : Nat) : ratio avg limit ≤ 255 := by
  unfold ratio
  split
  · exact Nat.zero_le _
  · exact Nat.min_le_left _ _

theorem joinRing_length (ring : List Bucket) (b : Bucket) : (joinRing ring b).length ≤ 15 := by
  simp only [joinRing, List.length_drop, List.length_append, List.length_singleton]
  omega

section
variable {r : GasAir}

theorem GasFit.withRatios (h : GasFit r) (a : AirSettings) (g : Gas) : GasFit (r.withRatios a g) :=
  ⟨h.ring, ratio_le _ _, ratio_le _ _⟩

theorem GasFit.close (a : AirSettings) (g : Gas) (r : GasAir) : GasFit (r.close a g) :=
  ⟨joinRing_length _ _, ratio_le _ _, ratio_le _ _⟩

theorem GasFit.newShift (h : GasFit r) : GasFit r.newShift := ⟨h.ring, h.short, Nat.zero_le _⟩

theorem GasFit.sample (h : GasFit r) : GasFit r.sample := by
  unfold GasAir.sample
  split
  · exact h
  · exact ⟨h.ring, h.short, h.shift⟩

end

/-! ### One zone at the Air Unit -/

/-- A zone's air record may be recomputed: its ranges hold but for the stage that the raw index asks for. -/
structure AirZoneFit (a : AirZone) : Prop where
  stage : a.stage ≤ 4
  co : GasFit a.co
  no2 : GasFit a.no2

theorem AirZoneSound.fit {a : AirZone} (h : AirZoneSound a) : AirZoneFit a :=
  have ⟨hshort, hshift, hshort', hshift'⟩ := h.ratios
  ⟨h.stage, ⟨h.ring.1, hshort, hshift⟩, ⟨h.ring.2, hshort', hshift'⟩⟩

theorem AirZoneFit.sound {a : AirZone} (h : AirZoneFit a) (hfull : 100 ≤ a.raw → a.stage = 4) : AirZoneSound a :=
  ⟨h.stage, hfull, ⟨h.co.ring, h.no2.ring⟩, ⟨h.co.short, h.co.shift, h.no2.short, h.no2.shift⟩⟩

theorem AirZoneFit.onMonitored {a : AirZone} (h : AirZoneFit a) (monitors : Gas → Bool) {f : Gas → GasAir → GasAir}
    (hf : ∀ g r, GasFit r → GasFit (f g r)) : AirZoneFit (a.onMonitored monitors f) := by
  refine ⟨h.stage, ?_, ?_⟩ <;> simp only [AirZone.onMonitored] <;> split
  · exact hf _ _ h.co
  · exact h.co
  · exact hf _ _ h.no2
  · exact h.no2

theorem AirZoneFit.onGas {a : AirZone} (h : AirZoneFit a) (g : Gas) {f : GasAir → GasAir}
    (hf : ∀ r, GasFit r → GasFit (f r)) : AirZoneFit (a.onGas g f) := by
  cases g
  · exact ⟨h.stage, hf _ h.co, h.no2⟩
  · exact ⟨h.stage, h.co, hf _ h.no2⟩

theorem stageOf_le (e : Nat) : stageOf e ≤ 4 := by
  unfold stageOf
  repeat' split
  all_goals omega

/-- Whatever stood before, the stage decided is at most 4, and 4 at a raw index of 100 or more (R98). -/
theorem decideStage_le {holdTime raw eff stage : Nat} (hold : Timer) (h : stage ≤ 4) :
    (decideStage holdTime raw eff stage hold).1 ≤ 4
      ∧ (100 ≤ raw → (decideStage holdTime raw eff stage hold).1 = 4) := by
  have hcandidate := stageOf_le eff
  have hlower := stageOf_le (eff + 10)
  unfold decideStage
  repeat' split
  all_goals simp_all

theorem purgeFloor_le (purge : Option Purge) {stage : Nat} (h : stage ≤ 4) : purgeFloor purge stage ≤ 4 := by
  unfold purgeFloor
  split <;> omega

theorem purgeFloor_four (purge : Option Purge) : purgeFloor purge 4 = 4 := by
  unfold purgeFloor
  split <;> rfl

theorem AirZoneFit.recompute {a : AirZone} (h : AirZoneFit a) (settings : AirSettings) (monitors : Gas → Bool) :
    AirZoneSound (a.recompute settings monitors) := by
  have hindexed := h.onMonitored monitors (f := fun _ r => { r with index := gasIndex r }) fun _ _ hr =>
    ⟨hr.ring, hr.short, hr.shift⟩
  have hstage := hindexed.stage
  refine AirZoneFit.sound ⟨purgeFloor_le _ (decideStage_le _ hstage).1, hindexed.co, hindexed.no2⟩ fun hraw => ?_
  simp only [AirZone.recompute] at hraw ⊢
  rw [(decideStage_le _ hstage).2 hraw, purgeFloor_four]

/-- A record that differs from a sound one in neither stage nor raw index. -/
theorem AirZoneFit.sound_of_same {a a' : AirZone} (h : AirZoneSound a) (h' : AirZoneFit a') (hraw : a'.raw = a.raw)
    (hstage : a'.stage = a.stage) : AirZoneSound a' :=
  h'.sound (by rw [hraw, hstage]; exact h.full)

theorem airZoneSound_atRest : AirZoneSound AirZone.atRest := by
  refine ⟨?_, ?_, ⟨?_, ?_⟩, ⟨?_, ?_, ?_, ?_⟩⟩ <;> decide

/-! ### One zone at the Heat Unit -/

/-- A zone's heat record keeps its ranges (Table 6-1, R118). -/
def HeatZoneSound (h : HeatZone) : Prop := h.stage ≤ 3 ∧ (h.frost = true → h.stage = 3)

theorem cand_le (e : Int) : cand e ≤ 3 := by
  unfold cand
  repeat' split
  all_goals omega

theorem setpointStage_le (e : Int) {stage : Nat} (hold : Timer) (h : stage ≤ 3) : setpointStage e stage hold ≤ 3 := by
  have hcandidate := cand_le e
  have hlower := cand_le (e + 5)
  unfold setpointStage
  repeat' split
  all_goals assumption

theorem heatStage_le (setpoint : Int) (temp : Option Int) (frost holdDown : Bool) {stage : Nat} (hold : Timer)
    (h : stage ≤ 3) : heatStage setpoint temp frost holdDown stage hold ≤ 3 := by
  unfold heatStage
  repeat' split
  · exact Nat.le_refl _
  · exact Nat.le_add_left 1 2
  · exact (Nat.min_le_right _ _).trans (setpointStage_le _ _ h)
  · exact setpointStage_le _ _ h

theorem HeatZone.endPreheat_stage (settings : HeatSettings) (h : HeatZone) : (h.endPreheat settings).stage = h.stage := by
  unfold HeatZone.endPreheat
  split <;> rfl

theorem HeatZone.testPreheat_stage (i : HeatInputs) (h : HeatZone) : (h.testPreheat i).stage = h.stage := by
  unfold HeatZone.testPreheat
  repeat' split
  · exact h.endPreheat_stage _
  · rfl
  · rfl
  · rfl

/-- A recomputation leaves a sound record (R118), whatever the frost state before it. -/
theorem HeatZone.recompute_sound {h : HeatZone} (hstage : h.stage ≤ 3) (i : HeatInputs) :
    HeatZoneSound (h.recompute i) := by
  have htested : (h.testPreheat i).stage ≤ 3 := h.testPreheat_stage i ▸ hstage
  refine ⟨heatStage_le _ _ _ _ _ htested, fun hfrost => ?_⟩
  simp only [HeatZone.recompute] at hfrost ⊢
  rw [hfrost]
  rfl

/-! ### Every zone -/

theorem stagesSound_iff {s : State} :
    StagesSound s ↔ (∀ z, AirZoneSound (s.air.zones.get z)) ∧ ∀ z, HeatZoneSound (s.heat.zones.get z) :=
  ⟨fun h => ⟨h.air, fun z => ⟨h.heat z, h.frost z⟩⟩, fun ⟨ha, hh⟩ => ⟨ha, fun z => (hh z).1, fun z => (hh z).2⟩⟩

theorem StagesSound.heatZone {s : State} (h : StagesSound s) (z : Zone) : HeatZoneSound (s.heat.zones.get z) :=
  ⟨h.heat z, h.frost z⟩

/-- What stage soundness reads of the state: the zone records of the Air and Heat Units. -/
theorem StagesSound.congr {s t : State} (h : StagesSound s) (hair : t.air.zones = s.air.zones)
    (hheat : t.heat.zones = s.heat.zones) : StagesSound t :=
  ⟨hair ▸ h.air, hheat ▸ h.heat, hheat ▸ h.frost⟩

theorem StagesSound.withLink (s : State) (m : Link) (h : StagesSound s) : StagesSound { s with link := m } :=
  h.congr rfl rfl

theorem StagesSound.withFlight (s : State) (fs : List Flight) (h : StagesSound s) :
    StagesSound { s with inFlight := fs } := h.congr rfl rfl

theorem StagesSound.of_frame {s t : State} {R : List Region} (h : StagesSound s) (hframe : s.onlyChanges t R)
    (hair : .air ∉ R) (hheat : .heat ∉ R) : StagesSound t := by
  have ha : t.air = s.air := hframe _ hair
  have hh : t.heat = s.heat := hframe _ hheat
  exact h.congr (by rw [ha]) (by rw [hh])

section
variable {s t : State}

/-- An event of the Air Unit, whose new records are sound. -/
theorem StagesSound.ofAir (h : StagesSound s) (hheat : t.heat.zones = s.heat.zones)
    (hair : ∀ z, AirZoneSound (t.air.zones.get z)) : StagesSound t :=
  stagesSound_iff.2 ⟨hair, fun z => hheat ▸ h.heatZone z⟩

/-- An event of the Heat Unit, whose new records are sound. -/
theorem StagesSound.ofHeat (h : StagesSound s) (hair : t.air.zones = s.air.zones)
    (hheat : ∀ z, HeatZoneSound (t.heat.zones.get z)) : StagesSound t :=
  stagesSound_iff.2 ⟨hair ▸ h.air, hheat⟩

theorem StagesSound.recomputeAir {which : Zone → Bool} {change : Zone → AirZone → AirZone} (h : StagesSound s)
    (hchange : ∀ z a, AirZoneFit a → AirZoneFit (change z a)) : StagesSound (s.recomputeAir which change) := by
  refine h.ofAir (by simp) fun z => ?_
  rw [State.recomputeAir_air]
  simp only [State.airZonesAfter_get]
  split
  · exact (hchange z _ (h.air z).fit).recompute _ _
  · exact h.air z

/-- One zone's air record changed in neither stage nor raw index. -/
theorem StagesSound.onAirZone {f : AirZone → AirZone} (h : StagesSound s) (z : Zone)
    (hf : ∀ a, AirZoneFit a → AirZoneFit (f a) ∧ (f a).raw = a.raw ∧ (f a).stage = a.stage) :
    StagesSound (s.onAirZone z f) := by
  refine h.ofAir rfl fun k => ?_
  simp only [State.onAirZone, State.withAirZones, Table.get_modify]
  split
  · obtain ⟨hfit, hraw, hstage⟩ := hf _ (h.air k).fit
    exact hfit.sound_of_same (h.air k) hraw hstage
  · exact h.air k

theorem StagesSound.recomputeHeat {which : Zone → Bool} {change : HeatZone → HeatZone} (h : StagesSound s)
    (hchange : ∀ r : HeatZone, r.stage ≤ 3 → (change r).stage ≤ 3) : StagesSound (s.recomputeHeat which change) := by
  refine h.ofHeat (by simp) fun z => ?_
  rw [State.recomputeHeat_heat]
  simp only [State.heatZonesAfter_get]
  split
  · exact HeatZone.recompute_sound (hchange _ (h.heat z)) _
  · exact h.heatZone z

/-! ### Commands of the Air Unit -/

theorem onGas_fit_same (g : Gas) {f : GasAir → GasAir} (hf : ∀ r, GasFit r → GasFit (f r)) (a : AirZone)
    (h : AirZoneFit a) :
    AirZoneFit (a.onGas g f) ∧ (a.onGas g f).raw = a.raw ∧ (a.onGas g f).stage = a.stage :=
  ⟨h.onGas g hf, by cases g <;> rfl, by cases g <;> rfl⟩

theorem StagesSound.takeHeldValue (z : Zone) (g : Gas) (v : Option Nat) (h : StagesSound s) :
    StagesSound (s.takeHeldValue z g v) := by
  have htake (r : GasAir) (hr : GasFit r) : GasFit (r.takeHeld (shortLimit s.air.settings g) v) :=
    ⟨hr.ring, hr.short, hr.shift⟩
  simp only [State.takeHeldValue]
  repeat' split
  · exact h
  · exact h.onAirZone z (onGas_fit_same g htake)
  · exact h.recomputeAir fun _ _ hfit => hfit.onGas g htake

theorem StagesSound.takeSubstitute (z : Zone) (g : Gas) (flag : Bool) (h : StagesSound s) :
    StagesSound (s.takeSubstitute z g flag) := by
  unfold State.takeSubstitute
  split
  · exact h.recomputeAir fun _ _ hfit => hfit.onGas g fun _ hr => ⟨hr.ring, hr.short, hr.shift⟩
  · exact h

theorem StagesSound.execHeldValueNotice {z : Zone} {g : Gas} {v : Option Nat} (hs : StagesSound s)
    (h : execHeldValueNotice z g v s = .next t) : StagesSound t :=
  zoneNotice_keeps StagesSound.withLink StagesSound.withFlight (fun _ _ hu => hu.takeHeldValue z g v) hs h

theorem StagesSound.execAirSubstituteFlagNotice {z : Zone} {g : Gas} {flag : Bool} (hs : StagesSound s)
    (h : execAirSubstituteFlagNotice z g flag s = .next t) : StagesSound t :=
  zoneNotice_keeps StagesSound.withLink StagesSound.withFlight (fun _ _ hu => hu.takeSubstitute z g flag) hs h

theorem StagesSound.takeReadingNotices (hs : StagesSound s) : StagesSound s.takeReadingNotices := by
  have hone (c : Instr) (u : State) (hu : StagesSound u) : StagesSound (u.takeReadingNotice c) := by
    unfold State.takeReadingNotice
    split
    · exact hu.execHeldValueNotice rfl
    · exact hu.execAirSubstituteFlagNotice rfl
    · exact hu
  have hall (cs : List Instr) (u : State) (hu : StagesSound u) : StagesSound (cs.foldl State.takeReadingNotice u) := by
    induction cs generalizing u with
    | nil => exact hu
    | cons c cs ih => exact ih _ (hone c u hu)
  exact hall _ s hs

theorem StagesSound.takeSamples (hs : StagesSound s) : StagesSound s.takeSamples := by
  refine hs.ofAir rfl fun z => ?_
  simp only [State.takeSamples, State.withAirZones, Table.get_mapIdx]
  split
  · exact ((hs.air z).fit.onMonitored _ fun _ _ hr => hr.sample).sound_of_same (hs.air z) rfl rfl
  · exact hs.air z

theorem StagesSound.execSampleExpiry (hs : StagesSound s) (h : execSampleExpiry s = .next t) : StagesSound t := by
  refine runEvent_keeps StagesSound.withLink (fun _ hu => ?_) hs h
  split
  · exact hu
  · next c _ =>
    have hsampled : StagesSound (State.takeSamples
        { s.takeReadingNotices with air := { s.takeReadingNotices.air with clock := some c.tick } }) := by
      refine StagesSound.takeSamples ?_
      exact hu.takeReadingNotices.congr rfl rfl
    dsimp only
    split
    · exact hsampled.recomputeAir fun _ _ hfit => hfit.onMonitored _ fun g r _ => .close _ g r
    · exact hsampled

theorem AirZoneFit.countPurge {a : AirZone} (h : AirZoneFit a) : AirZoneFit a.countPurge := ⟨h.stage, h.co, h.no2⟩

theorem StagesSound.execAirShiftBoundary (hs : StagesSound s) (h : execAirShiftBoundary s = .next t) :
    StagesSound t := by
  refine notice_keeps StagesSound.withLink StagesSound.withFlight (fun u _ hu => ?_) hs h
  refine StagesSound.recomputeAir (hu.congr (by simp) (by simp)) fun z a hfit => ?_
  have hshift := hfit.onMonitored (u.readings.monitors z) fun _ _ hr => hr.newShift
  exact ⟨hshift.stage, hshift.co, hshift.no2⟩

theorem StagesSound.execAirProfileChangeNotice {z : Zone} {p : ProfileNo} (hs : StagesSound s)
    (h : execAirProfileChangeNotice z p s = .next t) : StagesSound t := by
  refine zoneNotice_keeps StagesSound.withLink StagesSound.withFlight (fun u _ hu => ?_) hs h
  dsimp only
  split
  · exact hu
  · exact hu.recomputeAir fun _ _ hfit => ⟨hfit.stage, hfit.co, hfit.no2⟩

theorem StagesSound.execSetAir {a b c d e : Nat} (hs : StagesSound s) (h : execSetAir a b c d e s = .next t) :
    StagesSound t := by
  refine request_keeps StagesSound.withLink (fun u _ hu => ?_) hs h
  have hset : StagesSound (u.withAirSettings ⟨a, b, c, d, e⟩) := hu.congr rfl rfl
  dsimp only
  repeat' split
  · exact hu
  · exact hset.recomputeAir fun _ _ hfit => hfit.onMonitored _ fun _ _ hr => hr.withRatios _ _
  · exact hset

/-! ### Commands of the Heat Unit -/

theorem StagesSound.execSetHeat {a b c : Nat} (hs : StagesSound s) (h : execSetHeat a b c s = .next t) :
    StagesSound t := by
  refine request_keeps StagesSound.withLink (fun u _ hu => ?_) hs h
  have hset : StagesSound (u.withHeatSettings ⟨a, b, c⟩) := hu.congr rfl rfl
  dsimp only
  repeat' split
  · exact hu
  · exact hset.recomputeHeat fun _ hr => hr
  · exact hset

theorem StagesSound.execLookaheadNotice {l : Option Lookahead} (hs : StagesSound s)
    (h : execLookaheadNotice l s = .next t) : StagesSound t := by
  refine notice_keeps StagesSound.withLink StagesSound.withFlight (fun u _ hu => ?_) hs h
  refine StagesSound.recomputeHeat (hu.congr rfl rfl) fun r hr => ?_
  split
  · exact (r.endPreheat_stage _).symm ▸ hr
  · exact hr

theorem StagesSound.execHeatShiftBoundary (hs : StagesSound s) (h : execHeatShiftBoundary s = .next t) :
    StagesSound t := by
  refine notice_keeps StagesSound.withLink StagesSound.withFlight (fun u _ hu => ?_) hs h
  exact StagesSound.recomputeHeat (hu.congr rfl rfl) fun r hr => (r.endPreheat_stage _).symm ▸ hr

theorem StagesSound.execHeatOpenUnsealedCountNotice {z : Zone} {n : Nat} (hs : StagesSound s)
    (h : execHeatOpenUnsealedCountNotice z n s = .next t) : StagesSound t := by
  refine zoneNotice_keeps StagesSound.withLink StagesSound.withFlight (fun u _ hu => ?_) hs h
  refine hu.ofHeat rfl fun k => ?_
  simp only [State.onHeatZone, State.withHeatZones, Table.get_modify]
  split <;> exact hu.heatZone k

/-! ### Operating states -/

theorem heatZoneSound_atRest (p : ProfileNo) : HeatZoneSound (HeatZone.atRest p) :=
  ⟨Nat.zero_le _, fun h => by cases h⟩

/-- Air and Heat Units at rest are sound. -/
theorem StagesSound.of_atRest {a : AirSettings} {h : HeatSettings} {p : ProfileNo} (hair : t.air = Air.atRest a)
    (hheat : t.heat = Heat.atRest h p) : StagesSound t := by
  refine stagesSound_iff.2 ⟨fun z => ?_, fun z => ?_⟩
  · rw [hair]; simpa [Air.atRest] using airZoneSound_atRest
  · rw [hheat]; simpa [Heat.atRest] using heatZoneSound_atRest p

theorem StagesSound.startAir (h : StagesSound s) : StagesSound s.startAir := by
  refine h.ofAir rfl fun z => ?_
  simp only [State.startAir, State.give_air, State.withAirZones, State.airZonesAfter_get, State.airRecord, Air.atRest,
    Table.get_fill]
  split
  · exact airZoneSound_atRest.fit.recompute _ _
  · exact airZoneSound_atRest

theorem StagesSound.startHeat (h : StagesSound s) : StagesSound s.startHeat := by
  refine StagesSound.recomputeHeat (h.ofHeat rfl fun z => ?_) fun _ hr => hr
  simp only [Table.get_ofFn, State.heatZoneAtStart]
  exact heatZoneSound_atRest _

theorem StagesSound.startBlocks (h : StagesSound s) : StagesSound s.startBlocks := by
  have hbefore : StagesSound (State.startDoors (State.startReadings
      { s.startCalendar with budget := s.startCalendar.budget.start })) := h.congr rfl rfl
  exact hbefore.startAir.startHeat.congr rfl rfl

theorem StagesSound.execStart (hs : StagesSound s) (h : execStart s = .next t) : StagesSound t := by
  refine request_keeps StagesSound.withLink (fun u _ hu => ?_) hs h
  split
  · exact hu
  · exact StagesSound.startBlocks (hu.congr rfl rfl)

theorem StagesSound.execStop (hs : StagesSound s) (h : execStop s = .next t) : StagesSound t := by
  refine request_keeps StagesSound.withLink (fun u _ hu => ?_) hs h
  split
  · exact .of_atRest rfl rfl
  · exact hu

theorem StagesSound.execReset {a b : Bool} (h : execReset a b s = .next t) : StagesSound t :=
  finish_keeps StagesSound.withLink (.of_atRest rfl rfl) h

theorem StagesSound.execStartingEnd (hs : StagesSound s) (h : execStartingEnd s = .next t) : StagesSound t := by
  refine finish_keeps StagesSound.withLink ?_ h
  split
  · have hstarted : StagesSound s.started := .of_atRest rfl rfl
    have hrunning : StagesSound s.started.startIfRunning := by
      unfold State.startIfRunning
      split
      · exact hstarted.startBlocks
      · exact hstarted
    exact hrunning.congr (by simp) (by simp)
  · exact hs

end

/-! ### Every step -/

theorem StagesSound.exec (c : Instr) (s t : State) (hs : StagesSound s) (h : exec c s = .next t) : StagesSound t := by
  by_cases hc : .air ∈ changedBy c ∨ .heat ∈ changedBy c
  · cases c <;> simp [changedBy] at hc
    case reset => exact .execReset h
    case startingEnd => exact hs.execStartingEnd h
    case start => exact hs.execStart h
    case stop => exact hs.execStop h
    case setAir => exact hs.execSetAir h
    case setHeat => exact hs.execSetHeat h
    case sampleExpiry => exact hs.execSampleExpiry h
    case exhaustStageHoldExpiry z =>
      simp only [Machine.exec] at h
      refine runEvent_keeps StagesSound.withLink (fun _ hu => ?_) hs h
      exact hu.onAirZone z fun a ha => ⟨⟨ha.stage, ha.co, ha.no2⟩, rfl, rfl⟩
    case purgeExpiry z =>
      simp only [Machine.exec] at h
      refine runEvent_keeps StagesSound.withLink (fun _ hu => ?_) hs h
      exact hu.onAirZone z fun a ha => ⟨⟨ha.stage, ha.co, ha.no2⟩, rfl, rfl⟩
    case heldValueNotice => exact hs.execHeldValueNotice h
    case airSubstituteFlagNotice => exact hs.execAirSubstituteFlagNotice h
    case airOpenUnsealedCountNotice =>
      simp only [Machine.exec] at h
      refine zoneNotice_keeps StagesSound.withLink StagesSound.withFlight (fun u _ hu => ?_) hs h
      exact hu.recomputeAir fun _ _ ha => ⟨ha.stage, ha.co, ha.no2⟩
    case airProfileChangeNotice => exact hs.execAirProfileChangeNotice h
    case airMinuteExpiryNotice =>
      simp only [Machine.exec] at h
      refine notice_keeps StagesSound.withLink StagesSound.withFlight (fun u _ hu => ?_) hs h
      refine hu.ofAir rfl fun z => ?_
      simp only [State.withAirZones, Table.get_map]
      exact (hu.air z).fit.countPurge.sound_of_same (hu.air z) rfl rfl
    case airShiftBoundary => exact hs.execAirShiftBoundary h
    case heatStageHoldExpiry =>
      simp only [Machine.exec] at h
      refine runEvent_keeps StagesSound.withLink (fun _ hu => ?_) hs h
      split
      · exact hu.recomputeHeat fun _ hr => hr
      · exact hu
    case zoneTemperatureNotice | holdDownFlagNotice | heatProfileChangeNotice =>
      simp only [Machine.exec] at h
      refine zoneNotice_keeps StagesSound.withLink StagesSound.withFlight (fun u _ hu => ?_) hs h
      exact hu.recomputeHeat fun _ hr => hr
    case lookaheadNotice => exact hs.execLookaheadNotice h
    case heatShiftBoundary => exact hs.execHeatShiftBoundary h
    case heatOpenUnsealedCountNotice => exact hs.execHeatOpenUnsealedCountNotice h
  · simp only [not_or] at hc
    exact hs.of_frame (exec_onlyChanges h) (by simpa using hc.1) (by simpa using hc.2)

theorem StagesSound.tick (s : State) (h : StagesSound s) : StagesSound s.tick := by
  have htimers : StagesSound s.timersTenth := by
    refine stagesSound_iff.2 ⟨fun z => ?_, fun z => ?_⟩ <;>
      simp only [State.timersTenth, Air.tenth, Heat.tenth, Table.get_map]
    · have hz := h.air z
      exact ⟨hz.stage, hz.full, hz.ring, hz.ratios⟩
    · exact h.heatZone z
  exact htimers.of_frame s.tick_within.frame (by decide) (by decide)

/-- Settles O59: what a command leaves alone, and for the commands of the Air and Heat Units and of the operating
states, that a recomputation leaves sound records. -/
theorem stepKeepsStagesSound : Obligations.StepKeepsStagesSound := fun _ _ =>
  step_keeps (fun _ _ h => h.congr rfl rfl) StagesSound.exec StagesSound.tick

end Sys2Proof.Machine
end

section
/-! Every step keeps the Link Unit sound (chapter 9). -/

namespace Sys2Proof.Machine

/-! ### The Link Unit by itself -/

/-- What soundness says of the Link Unit in every operating state: the lengths of its queues, and its timers by its
supervision state (R150, R153, R154). -/
structure LinkFit (l : Link) : Prop where
  reports : l.reports.length ≤ 32
  buffer : l.buffer.length ≤ 2
  up : l.supervision = .up → l.interval = none ∧ l.probes = 0
  quiet : l.supervision = .quiet → l.idle = none ∧ l.interval.isSome
  lost : l.supervision = .lost → l.interval = none ∧ l.idle.isSome

/-- What soundness says in STARTING: nothing received, answered or sent, and no STORE write. -/
def StartingQuiet (s : State) : Prop :=
  s.part.op = .starting →
    s.link.sending = none ∧ s.link.reply = none ∧ s.link.buffer = [] ∧ s.store.write = none

theorem linkSound_iff {s : State} : LinkSound s ↔ LinkFit s.link ∧ StartingQuiet s :=
  ⟨fun h => ⟨⟨h.reports, h.buffer, h.up, h.quiet, h.lost⟩, h.starting⟩,
    fun ⟨h, hstart⟩ => ⟨h.reports, h.buffer, h.up, h.quiet, h.lost, hstart⟩⟩

theorem LinkSound.fit {s : State} (h : LinkSound s) : LinkFit s.link := (linkSound_iff.1 h).1

section
variable {l m : Link}

theorem LinkFit.kept (h : LinkFit l) (hm : l.Kept m) : LinkFit m where
  reports := hm.reports h.reports
  buffer := hm.buffer ▸ h.buffer
  up := by rw [hm.supervision, hm.interval, hm.probes]; exact h.up
  quiet := by rw [hm.supervision, hm.interval, hm.idle]; exact h.quiet
  lost := by rw [hm.supervision, hm.interval, hm.idle]; exact h.lost

/-- In UP the timers and the probes say nothing more than that none runs and none is counted. -/
theorem LinkFit.of_up (hr : l.reports.length ≤ 32) (hb : l.buffer.length ≤ 2) (hs : l.supervision = .up)
    (hi : l.interval = none) (hp : l.probes = 0) : LinkFit l :=
  ⟨hr, hb, fun _ => ⟨hi, hp⟩, by simp [hs], by simp [hs]⟩

theorem LinkFit.of_quiet (hr : l.reports.length ≤ 32) (hb : l.buffer.length ≤ 2) (hs : l.supervision = .quiet)
    (hi : l.idle = none) (ht : l.interval.isSome) : LinkFit l :=
  ⟨hr, hb, by simp [hs], fun _ => ⟨hi, ht⟩, by simp [hs]⟩

theorem LinkFit.of_lost (hr : l.reports.length ≤ 32) (hb : l.buffer.length ≤ 2) (hs : l.supervision = .lost)
    (hi : l.interval = none) (ht : l.idle.isSome) : LinkFit l :=
  ⟨hr, hb, by simp [hs], by simp [hs], fun _ => ⟨hi, ht⟩⟩

/-- A change of the buffer, of a reply or of what is handed. -/
theorem LinkFit.withBuffer (h : LinkFit l) {fs : List Frame} (hfs : fs.length ≤ 2) (m : Link)
    (hm : { l with buffer := fs }.Kept m) : LinkFit m :=
  LinkFit.kept (l := { l with buffer := fs }) ⟨h.reports, hfs, h.up, h.quiet, h.lost⟩ hm

theorem Link.serveFrame_kept (f : Frame) (l : Link) : l.Kept (l.serveFrame f) := by
  unfold Link.serveFrame
  split
  · exact Link.formReply_kept _ _ _ _
  · exact Link.formReply_kept _ _ _ _
  · exact ⟨rfl, rfl, rfl, rfl, rfl, id, fun _ => id⟩

theorem Link.serve_kept (l : Link) : l.Kept l.serve := by
  unfold Link.serve
  split
  · exact .refl _
  · exact l.serveFrame_kept _

theorem LinkFit.place (f : Frame) (h : LinkFit l) : LinkFit (l.place f) := by
  unfold Link.place
  split
  · exact h.withBuffer (by simp) _ (Link.serve_kept _)
  · exact h.withBuffer (by simp) _ (.refl _)
  · exact h.kept ⟨rfl, rfl, rfl, rfl, rfl, id, fun _ => id⟩

theorem LinkFit.sent (x : Sent) (h : LinkFit l) : LinkFit (l.sent x) := by
  have htail : l.buffer.tail.length ≤ 2 := by have := h.buffer; simp; omega
  have hfree : LinkFit { l with sending := none } := ⟨h.reports, h.buffer, h.up, h.quiet, h.lost⟩
  unfold Link.sent
  repeat' split
  · exact hfree.withBuffer htail _ (Link.serve_kept _)
  · exact hfree
  · exact hfree

theorem LinkFit.becomeLost (h : LinkFit l) : LinkFit l.becomeLost := by
  simp only [Link.becomeLost]
  split
  · exact .of_lost (by simp) h.buffer rfl rfl rfl
  · exact .of_lost h.reports h.buffer rfl rfl rfl

end

/-! ### The Link Unit in the state -/

section
variable {s t : State}

theorem LinkFit.raise (b : Body) (h : LinkFit s.link) : LinkFit (s.raise b).link := h.kept (s.raise_within b).link

theorem LinkFit.hostPresent (h : LinkFit s.link) : LinkFit s.hostPresent.link := by
  simp only [State.hostPresent]
  split
  · next hup => exact .of_up h.reports h.buffer rfl (h.up hup).1 (h.up hup).2
  · exact LinkFit.raise _ (.of_up h.reports h.buffer rfl rfl rfl)

theorem LinkFit.completeFrame (f : RawFrame) (h : LinkFit s.link) : LinkFit (s.completeFrame f).link := by
  have hhunt : LinkFit (s.onLink fun l => { l with receiver := .hunt }).link :=
    ⟨h.reports, h.buffer, h.up, h.quiet, h.lost⟩
  simp only [State.completeFrame]
  split
  · exact hhunt.hostPresent.place _
  · exact hhunt

theorem LinkFit.probeDue (h : LinkFit s.link) : LinkFit s.probeDue.link := ⟨h.reports, h.buffer, h.up, h.quiet, h.lost⟩

/-- What an event leaves that keeps the Link Unit, and outside STARTING the store. -/
theorem LinkSound.within {R : List Region} (h : LinkSound s) (ht : s.Within t R)
    (hstore : s.part.op = .starting → t.store.write = s.store.write) : LinkSound t := by
  refine linkSound_iff.2 ⟨h.fit.kept ht.link, fun hop => ?_⟩
  have hop' := ht.starting_iff.1 hop
  obtain ⟨hsending, hreply, hbuffer, hwrite⟩ := h.starting hop'
  obtain ⟨hsending', hreply'⟩ := ht.starting hop'
  exact ⟨hsending'.trans hsending, hreply'.trans hreply, ht.link.buffer.trans hbuffer, (hstore hop').trans hwrite⟩

theorem LinkSound.finish (hs : LinkSound s) (h : finish s = .next t) : LinkSound t := by
  cases h
  exact hs.within s.settle_within fun _ => by simp

/-- A change of the Link Unit that answers and sends nothing in STARTING. -/
theorem LinkSound.of_fit (hs : LinkSound s) {m : Link} (hm : LinkFit m)
    (hstart : s.part.op = .starting → m.sending = none ∧ m.reply = none ∧ m.buffer = []) :
    LinkSound { s with link := m } := by
  refine linkSound_iff.2 ⟨hm, fun hop => ?_⟩
  obtain ⟨hsending, hreply, hbuffer⟩ := hstart hop
  exact ⟨hsending, hreply, hbuffer, (hs.starting hop).2.2.2⟩

/-- A change of the Link Unit at its timers, its supervision and its reports. -/
theorem LinkSound.of_supervision (hs : LinkSound s) {m : Link} (hm : LinkFit m) (hsending : m.sending = s.link.sending)
    (hreply : m.reply = s.link.reply) (hbuffer : m.buffer = s.link.buffer) : LinkSound { s with link := m } := by
  refine hs.of_fit hm fun hop => ?_
  obtain ⟨h1, h2, h3, _⟩ := hs.starting hop
  exact ⟨hsending.trans h1, hreply.trans h2, hbuffer.trans h3⟩

/-- Outside STARTING only the Link Unit by itself counts. -/
theorem LinkSound.of_operating (hop : t.part.op ≠ .starting) (h : LinkFit t.link) : LinkSound t :=
  linkSound_iff.2 ⟨h, fun hs => absurd hs hop⟩

/-! ### Commands -/

theorem LinkSound.execStore (hs : LinkSound s) (h : execStore s = .next t) : LinkSound t := by
  refine hs.within (execStore_within h) fun hop => ?_
  have htakes : s.takesRequests = false := by simp [State.takesRequests, hop]
  simp only [Machine.execStore, htakes] at h
  cases h
  simp

theorem LinkSound.execStoreWriteEnd {verified : Bool} (hs : LinkSound s) (h : execStoreWriteEnd verified s = .next t) :
    LinkSound t := by
  refine LinkSound.finish ?_ h
  split
  · exact hs
  · next w hw =>
    refine .of_operating (fun hop => ?_) (hs.fit.kept (Link.formReply_kept _ _ _ _))
    have hnone := (hs.starting hop).2.2.2
    rw [hw] at hnone
    cases hnone

theorem LinkSound.completeFrame (hs : LinkSound s) (hop : s.part.op ≠ .starting) (f : RawFrame) :
    LinkSound (s.completeFrame f) := .of_operating (by simpa using hop) (hs.fit.completeFrame f)

theorem LinkSound.execFrameComplete {f : RawFrame} (hs : LinkSound s) (h : execFrameComplete f s = .next t) :
    LinkSound t := by
  refine LinkSound.finish ?_ h
  split
  · exact hs
  · next hop => exact hs.completeFrame hop f

theorem LinkSound.execCharacterReceived {c : Byte} (hs : LinkSound s) (h : execCharacterReceived c s = .next t) :
    LinkSound t := by
  refine LinkSound.finish ?_ h
  split
  · exact hs
  · next hop =>
    split
    · exact hs.of_supervision ⟨hs.reports, hs.buffer, hs.up, hs.quiet, hs.lost⟩ rfl rfl rfl
    · exact hs.completeFrame hop _

theorem LinkSound.execTransmitEnd (hs : LinkSound s) (h : execTransmitEnd s = .next t) : LinkSound t := by
  refine LinkSound.finish ?_ h
  split
  · exact hs
  · next x hx =>
    refine .of_operating (fun hop => ?_) (hs.fit.sent x)
    have hnone := (hs.starting hop).1
    rw [hx] at hnone
    cases hnone

theorem LinkSound.execIdleTimerExpiry (hs : LinkSound s) (h : execIdleTimerExpiry s = .next t) : LinkSound t := by
  refine LinkSound.finish ?_ h
  split
  · refine hs.of_supervision (LinkFit.probeDue (s := s.onLink _) ?_) rfl rfl rfl
    exact .of_quiet hs.reports hs.buffer rfl rfl rfl
  · next hlost =>
    refine hs.of_supervision (LinkFit.probeDue (s := s.onLink _) ?_) rfl rfl rfl
    exact .of_lost hs.reports hs.buffer hlost (hs.lost hlost).1 rfl
  · exact hs

theorem Link.becomeLost_frame (l : Link) :
    l.becomeLost.sending = l.sending ∧ l.becomeLost.reply = l.reply ∧ l.becomeLost.buffer = l.buffer := by
  simp only [Link.becomeLost]
  split <;> exact ⟨rfl, rfl, rfl⟩

theorem LinkSound.execIntervalTimerExpiry (hs : LinkSound s) (h : execIntervalTimerExpiry s = .next t) :
    LinkSound t := by
  refine LinkSound.finish ?_ h
  split
  · next hquiet =>
    split
    · refine hs.of_supervision (LinkFit.probeDue (s := s.onLink _) ?_) rfl rfl rfl
      exact .of_quiet hs.reports hs.buffer hquiet (hs.quiet hquiet).1 rfl
    · obtain ⟨hsending, hreply, hbuffer⟩ := s.link.becomeLost_frame
      exact hs.of_supervision hs.fit.becomeLost hsending hreply hbuffer
  · exact hs

theorem linkFit_atReset (mask : Nat) (settings : LinkSettings) : LinkFit (Link.atReset mask settings) :=
  .of_up (Nat.zero_le _) (Nat.zero_le _) rfl rfl rfl

theorem LinkSound.execReset {a b : Bool} (h : execReset a b s = .next t) : LinkSound t := by
  refine LinkSound.finish (linkSound_iff.2 ⟨linkFit_atReset _ _, fun _ => ⟨rfl, rfl, rfl, ?_⟩⟩) h
  simp only [Store.abandoned]
  split
  · rfl
  · next hw => exact hw

theorem State.startIfRunning_within (s : State) : s.Within s.startIfRunning startRegions := by
  unfold State.startIfRunning
  split
  · exact s.startBlocks_within
  · exact .refl _ _

theorem State.started_operating (s : State) : s.started.part.op ≠ .starting := by
  simp only [State.started, Part.started]
  split <;> simp

theorem LinkSound.execStartingEnd (hs : LinkSound s) (h : execStartingEnd s = .next t) : LinkSound t := by
  refine LinkSound.finish ?_ h
  split
  · have hstarted : LinkFit s.started.link := .of_up (Nat.zero_le _) (Nat.zero_le _) rfl rfl rfl
    have hrunning := s.started.startIfRunning_within
    refine .of_operating ?_ ((hstarted.kept hrunning.link).raise _)
    rw [State.raise_part]
    exact fun hop => s.started_operating (hrunning.starting_iff.1 hop)
  · exact hs

end

/-! ### Every step -/

theorem LinkSound.exec (c : Instr) (s t : State) (hs : LinkSound s) (h : exec c s = .next t) : LinkSound t := by
  cases hc : actsOnLink c with
  | true =>
    cases c with
    | reset => exact .execReset h
    | startingEnd => exact hs.execStartingEnd h
    | storeWriteEnd => exact hs.execStoreWriteEnd h
    | frameComplete => exact hs.execFrameComplete h
    | characterReceived => exact hs.execCharacterReceived h
    | transmitEnd => exact hs.execTransmitEnd h
    | idleTimerExpiry => exact hs.execIdleTimerExpiry h
    | intervalTimerExpiry => exact hs.execIntervalTimerExpiry h
    | _ => cases hc
  | false =>
    by_cases hstore : .store ∈ changedBy c
    · cases c <;> simp [changedBy] at hstore <;> cases hc
      exact hs.execStore h
    · have hsame : t.store = s.store := exec_onlyChanges h .store (by simpa using hstore)
      exact hs.within (exec_within hc h) fun _ => by rw [hsame]

theorem LinkSound.tick (s : State) (h : LinkSound s) : LinkSound s.tick := by
  have htimers : LinkSound s.timersTenth := by
    refine linkSound_iff.2 ⟨⟨h.reports, h.buffer, fun hs => ?_, fun hs => ?_, fun hs => ?_⟩, h.starting⟩
    · exact ⟨by simp [State.timersTenth, Link.tenth, Timer.countDown, (h.up hs).1], (h.up hs).2⟩
    · exact ⟨by simp [State.timersTenth, Link.tenth, Timer.countDown, (h.quiet hs).1],
        by simpa [State.timersTenth, Link.tenth, Timer.countDown] using (h.quiet hs).2⟩
    · exact ⟨by simp [State.timersTenth, Link.tenth, Timer.countDown, (h.lost hs).1],
        by simpa [State.timersTenth, Link.tenth, Timer.countDown] using (h.lost hs).2⟩
  have hstore : s.tick.store = s.timersTenth.store := s.tick_within.frame .store (by decide)
  exact htimers.within s.tick_within fun _ => by rw [hstore]

/-- Settles O57: the commands of other units keep the Link Unit, and each of its own keeps it sound. -/
theorem stepKeepsLinkSound : Obligations.StepKeepsLinkSound := fun _ _ =>
  step_keeps (fun _ _ h => ⟨h.reports, h.buffer, h.up, h.quiet, h.lost, h.starting⟩) LinkSound.exec LinkSound.tick

end Sys2Proof.Machine
end

section
/-! SUPPORT. The grants of an arbitration pass (R137, R139, R140): what one load is granted out of the room left, and
how the room is spent along the order of service. -/

namespace Sys2Proof.Machine

/-! ### One load -/

section
variable (f : LoadDef) (portion room : Nat)

theorem highestFit_ge (n : Nat) : portion ≤ highestFit f portion room n := by
  induction n with
  | zero => exact Nat.le_refl _
  | succ n ih =>
    simp only [highestFit]
    split
    · exact Nat.le_refl _
    · split
      · omega
      · exact ih

theorem highestFit_le {n : Nat} (h : portion ≤ n) : highestFit f portion room n ≤ n := by
  induction n with
  | zero => exact h
  | succ n ih =>
    simp only [highestFit]
    split
    · exact h
    · split
      · exact Nat.le_refl _
      · exact (ih (by omega)).trans (Nat.le_succ n)

/-- What is granted above the portion fits the room. -/
theorem highestFit_fits (n : Nat) : drawAt f (highestFit f portion room n) - drawAt f portion ≤ room := by
  induction n with
  | zero => simp [highestFit]
  | succ n ih =>
    simp only [highestFit]
    split
    · simp
    · split
      · assumption
      · exact ih

/-- No higher level up to the request would fit. -/
theorem highestFit_maximal {n level : Nat} (hlow : highestFit f portion room n < level) (hhigh : level ≤ n) :
    room < drawAt f level - drawAt f portion := by
  induction n with
  | zero => omega
  | succ n ih =>
    simp only [highestFit] at hlow
    split at hlow
    · omega
    · split at hlow
      · omega
      · obtain rfl | hle := Nat.eq_or_lt_of_le hhigh
        · omega
        · exact ih hlow (by omega)

end

/-- The level that a load is granted out of the room left when it is served (R140). -/
def servedLevel (b : Budget) (l : Load) (room : Nat) : Nat :=
  match l.defn with
  | none => protectedLevel b l
  | some f =>
    if protectedLevel b l < l.request then highestFit f (protectedLevel b l) room l.request else protectedLevel b l

/-- The extra draw of a load above its protected portion at a level. -/
def extraDraw (b : Budget) (l : Load) (level : Nat) : Nat := l.draw level - l.draw (protectedLevel b l)

section
variable (b : Budget) (l : Load) (room : Nat)

theorem protectedLevel_le : protectedLevel b l ≤ l.request := by
  unfold protectedLevel
  repeat' split
  all_goals first | exact Nat.le_refl _ | exact Nat.zero_le _ | exact Nat.min_le_left _ _

theorem protectedLevel_le_served : protectedLevel b l ≤ servedLevel b l room := by
  unfold servedLevel
  repeat' split
  · exact Nat.le_refl _
  · exact highestFit_ge _ _ _ _
  · exact Nat.le_refl _

theorem servedLevel_le : servedLevel b l room ≤ l.request := by
  have hportion := protectedLevel_le b l
  unfold servedLevel
  repeat' split
  · exact hportion
  · exact highestFit_le _ _ _ hportion
  · exact hportion

theorem extraDraw_served_le : extraDraw b l (servedLevel b l room) ≤ room := by
  unfold extraDraw servedLevel Load.draw
  cases l.defn with
  | none => simp
  | some f =>
    dsimp only
    split
    · exact highestFit_fits _ _ _ _
    · simp

theorem servedLevel_maximal {f : LoadDef} (hf : l.defn = some f) {level : Nat} (hlow : servedLevel b l room < level)
    (hhigh : level ≤ l.request) : room < extraDraw b l level := by
  have hshort : protectedLevel b l < l.request :=
    (protectedLevel_le_served b l room).trans_lt (hlow.trans_le hhigh)
  simp only [servedLevel, hf, if_pos hshort] at hlow
  simp only [extraDraw, Load.draw, hf]
  exact highestFit_maximal _ _ _ hlow hhigh

end

/-! ### The loads, one after the other -/

/-- One load is served: it takes its level, and the room shrinks by its extra draw. -/
theorem serveOne_eq (b : Budget) (loads : Table 64 Load) {acc : Nat × Table 64 Nat} {n : LoadNo}
    (hportion : acc.2.get n = protectedLevel b (loads.get n)) :
    serveOne b loads acc n = (acc.1 - extraDraw b (loads.get n) (servedLevel b (loads.get n) acc.1),
      acc.2.set n (servedLevel b (loads.get n) acc.1)) := by
  have hsame : acc.2.set n (protectedLevel b (loads.get n)) = acc.2 := by
    refine Table.ext_get fun i => ?_
    rw [Table.get_set]
    split
    · next h => rw [← hportion, h]
    · rfl
  unfold serveOne
  dsimp only
  cases hdefn : (loads.get n).defn with
  | none => simp [servedLevel, extraDraw, hdefn, hsame]
  | some f =>
    by_cases hshort : protectedLevel b (loads.get n) < (loads.get n).request
    · simp only [servedLevel, extraDraw, Load.draw, hdefn, if_pos hshort]
    · simp [servedLevel, extraDraw, hdefn, hshort, hsame]

/-- The extra draws of some loads at the levels of a table. -/
def extraDraws (b : Budget) (loads : Table 64 Load) (grants : Table 64 Nat) (ns : List LoadNo) : Nat :=
  (ns.map fun n => extraDraw b (loads.get n) (grants.get n)).sum

/-- Serving loads that stand at their portions: the room left and their extra draws make up the room there was, a load
not served stays, and each is granted the level that the room left at its turn allows. -/
structure Served (b : Budget) (loads : Table 64 Load) (ns : List LoadNo) (before after : Nat × Table 64 Nat) :
    Prop where
  spent : extraDraws b loads after.2 ns + after.1 = before.1
  others : ∀ n, n ∉ ns → after.2.get n = before.2.get n
  turn : ∀ front n rest, ns = front ++ n :: rest →
    after.2.get n = servedLevel b (loads.get n)
      (after.1 + extraDraws b loads after.2 rest + extraDraw b (loads.get n) (after.2.get n))

theorem served_foldl (b : Budget) (loads : Table 64 Load) {ns : List LoadNo} (hnodup : ns.Nodup)
    {acc : Nat × Table 64 Nat} (hportion : ∀ n ∈ ns, acc.2.get n = protectedLevel b (loads.get n)) :
    Served b loads ns acc (ns.foldl (serveOne b loads) acc) := by
  induction ns generalizing acc with
  | nil => exact ⟨by simp [extraDraws], fun _ _ => rfl, fun front n rest h => by simp at h⟩
  | cons m ns ih =>
    obtain ⟨hm, hns⟩ := List.nodup_cons.1 hnodup
    have hone := serveOne_eq b loads (hportion m List.mem_cons_self)
    have hne {n : LoadNo} (hn : n ∈ ns) : m ≠ n := fun h => hm (h ▸ hn)
    have htail := ih hns (acc := serveOne b loads acc m) fun n hn => by
      rw [hone, Table.get_set, if_neg (hne hn)]
      exact hportion n (List.mem_cons_of_mem _ hn)
    rw [List.foldl_cons]
    have hspent := htail.spent
    have hgrant := htail.others m hm
    generalize List.foldl (serveOne b loads) (serveOne b loads acc m) ns = out at htail hspent hgrant
    simp only [hone, Table.get_set, if_pos] at hspent hgrant
    have hfits := extraDraw_served_le b (loads.get m) acc.1
    refine ⟨?_, fun n hn => ?_, fun front n rest h => ?_⟩
    · simp only [extraDraws, List.map_cons, List.sum_cons, hgrant] at hspent ⊢
      omega
    · simp only [List.mem_cons, not_or] at hn
      rw [htail.others n hn.2, hone, Table.get_set, if_neg (Ne.symm hn.1)]
    · cases front with
      | nil =>
        obtain ⟨rfl, rfl⟩ : m = n ∧ ns = rest := by simpa using h
        rw [hgrant]
        congr 1
        omega
      | cons k front =>
        obtain ⟨_, hrest⟩ : m = k ∧ ns = front ++ n :: rest := by simpa using h
        exact htail.turn front n rest hrest

/-! ### The grants of a pass -/

/-- The sum of a figure over all loads. -/
theorem sum_entries (loads : Table 64 Load) (f : Load → Nat) :
    (loads.entries.map f).sum = ((List.finRange 64).map fun n => f (loads.get n)).sum := by
  rw [Table.entries_eq, List.map_map]
  rfl

section
variable {b : Budget} {loads : Table 64 Load}

theorem serveOrder_nodup (loads : Table 64 Load) (tie : LoadNo) : (serveOrder loads tie).Nodup := by
  refine (serveOrder_pairwise loads tie).imp fun {m n} h hmn => ?_
  subst hmn
  obtain h | ⟨_, h⟩ := h <;> omega

/-- Every load is served once (R140). -/
theorem serveOrder_perm (hpriority : ∀ n, (loads.get n).priority ≤ 3) (tie : LoadNo) :
    (serveOrder loads tie).Perm (List.finRange 64) :=
  (List.perm_ext_iff_of_nodup (serveOrder_nodup _ _) (List.nodup_finRange 64)).2 fun n => by
    simp [mem_serveOrder, hpriority]

/-- With the protected draw above the budget in force each load has its portion (R139). -/
theorem grantsOf_protected (h : b.inForce < protectedSum b loads) (n : LoadNo) :
    (grantsOf b loads).get n = protectedLevel b (loads.get n) := by
  simp only [grantsOf, if_pos h, Table.get_map]

/-- Otherwise all loads are served, in the order of service, from what the protected draw leaves (R140). -/
theorem grantsOf_served (h : protectedSum b loads ≤ b.inForce) :
    ∃ room, Served b loads (serveOrder loads b.tie) (b.inForce - protectedSum b loads, loads.map (protectedLevel b))
      (room, grantsOf b loads) := by
  have hserved := served_foldl b loads (serveOrder_nodup loads b.tie)
    (acc := (b.inForce - protectedSum b loads, loads.map (protectedLevel b))) fun n _ => Table.get_map _ _ _
  generalize hout : (serveOrder loads b.tie).foldl (serveOne b loads) _ = out at hserved
  refine ⟨out.1, ?_⟩
  simpa only [grantsOf, if_neg (Nat.not_lt.2 h), hout] using hserved

/-- A grant lies between the protected portion and the request. -/
theorem grantsOf_between (n : LoadNo) (hpriority : (loads.get n).priority ≤ 3) :
    protectedLevel b (loads.get n) ≤ (grantsOf b loads).get n ∧ (grantsOf b loads).get n ≤ (loads.get n).request := by
  by_cases h : b.inForce < protectedSum b loads
  · rw [grantsOf_protected h]
    exact ⟨Nat.le_refl _, protectedLevel_le _ _⟩
  · obtain ⟨room, hserved⟩ := grantsOf_served (Nat.not_lt.1 h)
    obtain ⟨front, rest, hsplit⟩ := List.append_of_mem (mem_serveOrder (tie := b.tie).2 hpriority)
    have hturn := hserved.turn front n rest hsplit
    simp only at hturn
    rw [hturn]
    exact ⟨protectedLevel_le_served _ _ _, servedLevel_le _ _ _⟩

end

end Sys2Proof.Machine
end

section
/-! Every step keeps the Budget Unit sound (chapter 8). -/

namespace Sys2Proof.Machine

/-! ### The sums and lists of a pass -/

/-- The loads with their effective priorities, from which the grants of a pass are worked out (R138). -/
def rankedLoads (b : Budget) (loads : Table 64 Load) : Table 64 Load :=
  loads.map fun l => { l with priority := effectivePriority b l }

section
variable (b : Budget) (loads : Table 64 Load)

@[simp] theorem rankedLoads_get (n : LoadNo) :
    (rankedLoads b loads).get n = { loads.get n with priority := effectivePriority b (loads.get n) } :=
  Table.get_map _ _ _

theorem rankedLoads_priority_le (n : LoadNo) : ((rankedLoads b loads).get n).priority ≤ 3 := by
  rw [rankedLoads_get]
  exact effectivePriority_le _ _

theorem passLoads_grant (n : LoadNo) :
    ((passLoads b loads).get n).grant = (grantsOf b (rankedLoads b loads)).get n := by
  unfold passLoads
  rw [Table.get_zipWith]
  rfl

theorem passLoads_grant_le (n : LoadNo) : ((passLoads b loads).get n).grant ≤ (loads.get n).request := by
  have h := (grantsOf_between (b := b) n (rankedLoads_priority_le b loads n)).2
  rwa [rankedLoads_get, ← passLoads_grant] at h

theorem passLoads_draw (n : LoadNo) (level : Nat) :
    ((passLoads b loads).get n).draw level = (loads.get n).draw level := by
  simp [Load.draw]

theorem protectedSum_ranked : protectedSum b (rankedLoads b loads) = protectedSum b loads := by
  simp only [protectedSum, sum_entries, rankedLoads_get]
  rfl

theorem committedSum_passLoads :
    committedSum (passLoads b loads)
      = ((List.finRange 64).map fun n => (loads.get n).draw ((grantsOf b (rankedLoads b loads)).get n)).sum := by
  simp only [committedSum, sum_entries, passLoads_draw, passLoads_grant]

/-- The committed draw is at most the greater of budget in force and protected draw (R139, R140). -/
theorem committedSum_passLoads_le :
    committedSum (passLoads b loads) ≤ max b.inForce (protectedSum b loads) := by
  rw [committedSum_passLoads]
  by_cases h : b.inForce < protectedSum b loads
  · refine le_max_of_le_right (le_of_eq ?_)
    simp only [protectedSum, sum_entries, grantsOf_protected (by rwa [protectedSum_ranked]), rankedLoads_get]
    rfl
  · refine le_max_of_le_left ?_
    have hserved := grantsOf_served (b := b) (loads := rankedLoads b loads)
      (by rw [protectedSum_ranked]; exact Nat.not_lt.1 h)
    obtain ⟨room, hserved⟩ := hserved
    have hspent := hserved.spent
    have hperm := (serveOrder_perm (rankedLoads_priority_le b loads) b.tie).map fun n =>
      extraDraw b ((rankedLoads b loads).get n) ((grantsOf b (rankedLoads b loads)).get n)
    have hdraws : ((List.finRange 64).map fun n =>
          (loads.get n).draw ((grantsOf b (rankedLoads b loads)).get n)).sum
        ≤ ((List.finRange 64).map fun n => (loads.get n).draw (protectedLevel b (loads.get n))
            + extraDraw b ((rankedLoads b loads).get n) ((grantsOf b (rankedLoads b loads)).get n)).sum := by
      refine List.sum_le_sum fun n _ => ?_
      simp only [rankedLoads_get]
      exact Nat.sub_le_iff_le_add'.1 (Nat.le_refl _)
    simp only [extraDraws, hperm.sum_eq, protectedSum_ranked] at hspent
    rw [List.sum_map_add] at hdraws
    simp only [protectedSum, sum_entries] at hspent h
    omega

theorem mem_passShed (hpriority : ∀ n, (loads.get n).priority ≤ 3) (n : LoadNo) :
    n ∈ passShed b loads ↔ (loads.get n).short = true := by
  simp only [passShed, List.mem_append, List.mem_filter, mem_serveOrder, hpriority, true_and, Bool.and_eq_true,
    Bool.not_eq_true', List.contains_eq_mem, decide_eq_false_iff_not]
  tauto

theorem passShed_nodup {b : Budget} (h : b.shed.Nodup) : (passShed b loads).Nodup := by
  refine List.nodup_append.2 ⟨h.filter _, (serveOrder_nodup loads b.tie).filter _, fun m hm n hn hmn => ?_⟩
  simp only [List.mem_filter, Bool.and_eq_true, Bool.not_eq_true', List.contains_eq_mem, decide_eq_false_iff_not] at hm hn
  exact hn.2.2 (hmn ▸ hm.1)

theorem mem_passQueue (k : Nat) (n : LoadNo) : n ∈ passQueue k b loads ↔ (loads.get n).waits = true := by
  obtain ⟨joins, heq, _, hjoins⟩ := passQueue_eq k b loads
  simp only [heq, List.mem_append, List.mem_filter, hjoins]
  tauto

theorem passQueue_nodup (k : Nat) {b : Budget} (h : b.queue.Nodup) : (passQueue k b loads).Nodup := by
  obtain ⟨joins, heq, hnodup, hjoins⟩ := passQueue_eq k b loads
  rw [heq]
  refine List.nodup_append.2 ⟨h.filter _, hnodup, fun m hm n hn hmn => ?_⟩
  exact ((hjoins n).1 hn).2 (hmn ▸ (List.mem_filter.1 hm).1)

end

/-! ### What keeps soundness -/

/-- A load that differs in a min-off timer alone, which was not started. -/
structure Load.Aged (l m : Load) : Prop where
  same : m = { l with minOff := m.minOff }
  idle : l.minOff = none → m.minOff = none

theorem Load.Aged.refl (l : Load) : l.Aged l := ⟨rfl, id⟩

/-- The Budget Unit with the same lists and draws, and a budget in force that follows. -/
structure Budget.Alike (b c : Budget) : Prop where
  shed : c.shed = b.shed
  queue : c.queue = b.queue
  committed : c.committedDraw = b.committedDraw
  protectedDraw : c.protectedDraw = b.protectedDraw
  inForce : c.inForce = b.inForce
  force : c.force = b.force

theorem Budget.Alike.refl (b : Budget) : b.Alike b := ⟨rfl, rfl, rfl, rfl, rfl, rfl⟩

theorem Budget.Alike.trans {b c d : Budget} (h : b.Alike c) (h' : c.Alike d) : b.Alike d :=
  ⟨h'.shed.trans h.shed, h'.queue.trans h.queue, h'.committed.trans h.committed,
    h'.protectedDraw.trans h.protectedDraw, h'.inForce.trans h.inForce, h'.force.trans h.force⟩

theorem Budget.countCap_alike (b : Budget) : b.Alike b.countCap := by
  unfold Budget.countCap
  split
  · next v n hcap => exact ⟨rfl, rfl, rfl, rfl, rfl, by simp [Budget.force, hcap]⟩
  · exact .refl b

section
variable {s t : State}

theorem BudgetSound.congr (hs : BudgetSound s) (hloads : ∀ n, (s.loads.get n).Aged (t.loads.get n))
    (hb : s.budget.Alike t.budget) (hop : t.part.op ≠ .run → s.part.op ≠ .run) : BudgetSound t where
  loads n := by
    have hn := hs.loads n
    rw [(hloads n).same]
    exact ⟨hn.drive, hn.grant, hn.request, by rw [hb.shed]; exact hn.shed, by rw [hb.queue]; exact hn.queue⟩
  shedOnce := by rw [hb.shed]; exact hs.shedOnce
  queueOnce := by rw [hb.queue]; exact hs.queueOnce
  committed := by
    rw [hb.committed, hs.committed]
    simp only [committedSum, sum_entries]
    congr 2
    funext n
    rw [(hloads n).same]
    rfl
  within := by rw [hb.committed, hb.inForce, hb.protectedDraw]; exact hs.within
  force := by rw [hb.inForce, hb.force]; exact hs.force
  atRest hstopped n := by
    have hn := hs.atRest (hop hstopped) n
    have hidle := (hloads n).idle (by rw [hn]; rfl)
    have hsame := (hloads n).same
    rw [hidle] at hsame
    rw [hsame, hn]
    rfl

theorem BudgetSound.congr_eq (hs : BudgetSound s) (hloads : t.loads = s.loads) (hb : t.budget = s.budget)
    (hop : t.part.op = s.part.op) : BudgetSound t :=
  hs.congr (fun n => by rw [hloads]; exact .refl _) (by rw [hb]; exact .refl _) (by rw [hop]; exact id)

theorem BudgetSound.of_frame (hs : BudgetSound s) {R : List Region} (h : s.onlyChanges t R) (hloads : .loads ∉ R)
    (hbudget : .budget ∉ R) (hpart : .part ∉ R) : BudgetSound t :=
  hs.congr_eq (h .loads hloads) (h .budget hbudget) (congrArg Part.op (h .part hpart))

theorem BudgetSound.withLink (s : State) (m : Link) (h : BudgetSound s) : BudgetSound { s with link := m } :=
  h.congr_eq rfl rfl rfl

theorem BudgetSound.withFlight (s : State) (fs : List Flight) (h : BudgetSound s) :
    BudgetSound { s with inFlight := fs } := h.congr_eq rfl rfl rfl

theorem Load.draw_zero (l : Load) : l.draw 0 = 0 := by
  unfold Load.draw drawAt
  split
  · split <;> simp [ceilDiv]
  · rfl

theorem committedSum_atRest {loads : Table 64 Load} (h : ∀ n, loads.get n = Load.atRest (loads.get n).defn) :
    committedSum loads = 0 := by
  have hdraw (n : LoadNo) : (loads.get n).draw (loads.get n).grant = 0 := by
    rw [show (loads.get n).grant = 0 by rw [h n]; rfl]
    exact Load.draw_zero _
  simp [committedSum, sum_entries, hdraw]

/-- With every load at rest and both lists empty the Budget Unit is sound. -/
theorem BudgetSound.of_atRest (hloads : ∀ n, t.loads.get n = Load.atRest (t.loads.get n).defn)
    (hshed : t.budget.shed = []) (hqueue : t.budget.queue = []) (hcommitted : t.budget.committedDraw = 0)
    (hforce : t.budget.inForce = t.budget.force) : BudgetSound t where
  loads n := by
    rw [hloads n]
    exact ⟨.inl rfl, Nat.le_refl _, Nat.zero_le _, by simp [hshed, Load.atRest], by simp [hqueue, Load.atRest]⟩
  shedOnce := by rw [hshed]; exact List.nodup_nil
  queueOnce := by rw [hqueue]; exact List.nodup_nil
  committed := by rw [hcommitted, committedSum_atRest hloads]
  within := by rw [hcommitted]; exact Nat.zero_le _
  force := hforce
  atRest _ := hloads

/-! ### A pass -/

/-- What a pass asks of the state that it begins from: requests within the maximum levels, no load twice on a list, the
budget in force worked out, and RUN. -/
structure PassReady (s : State) : Prop where
  request : ∀ n, (s.loads.get n).request ≤ (s.loads.get n).maxLevel
  shedOnce : s.budget.shed.Nodup
  queueOnce : s.budget.queue.Nodup
  force : s.budget.inForce = s.budget.force
  run : s.part.op = .run

theorem BudgetSound.ready (hs : BudgetSound s) (hrun : s.part.op = .run) : PassReady s :=
  ⟨fun n => (hs.loads n).request, hs.shedOnce, hs.queueOnce, hs.force, hrun⟩

/-- A release attempt keeps the Budget Unit sound (R144). -/
theorem BudgetSound.attempt (hs : BudgetSound s) (hrun : s.part.op = .run) : BudgetSound s.attempt := by
  unfold State.attempt
  split
  · exact hs
  · split
    · exact hs
    · next n hfirst =>
      have hqueued : n ∈ s.budget.queue := List.mem_of_find?_eq_some hfirst
      refine ⟨fun m => ?_, hs.shedOnce, hs.queueOnce.erase n, ?_, hs.within, hs.force, fun h => absurd hrun h⟩
      · have hm := hs.loads m
        rw [Table.get_modify]
        split
        · next hmn =>
          subst hmn
          have hstill := hm.queue.1 hqueued
          refine ⟨.inr rfl, hm.grant, hm.request, hm.shed, ?_⟩
          simp only [hs.queueOnce.mem_erase_iff, Load.start, ne_eq, not_true, false_and, false_iff]
          omega
        · next hmn =>
          refine ⟨hm.drive, hm.grant, hm.request, hm.shed, ?_⟩
          rw [List.mem_erase_of_ne (Ne.symm hmn)]
          exact hm.queue
      · rw [hs.committed]
        simp only [committedSum, sum_entries]
        congr 2
        funext m
        rw [Table.get_modify]
        split
        · next hmn => subst hmn; rfl
        · rfl

/-- After the grants and lists of a pass the Budget Unit is sound (R139 to R143). -/
theorem PassReady.beforeAttempt (hs : PassReady s) : BudgetSound s.beforeAttempt := by
  have hpriority (n : LoadNo) : ((passLoads s.budget s.loads).get n).priority ≤ 3 := by
    rw [passLoads_priority]
    exact effectivePriority_le _ _
  constructor
  case loads =>
    intro n
    rw [State.beforeAttempt_loads, State.beforeAttempt_budget, State.regrant_budget]
    refine ⟨?_, ?_, ?_, ?_, ?_⟩
    · rw [passLoads_drive]
      split
      · exact .inr rfl
      · exact .inl rfl
    · rw [passLoads_request]
      exact passLoads_grant_le _ _ _
    · rw [passLoads_request]
      simpa [Load.maxLevel] using hs.request n
    · simp only [mem_passShed _ _ hpriority, Load.short, decide_eq_true_eq]
    · simp [mem_passQueue, Load.waits]
  case shedOnce =>
    rw [State.beforeAttempt_budget, State.regrant_budget]
    exact passShed_nodup _ hs.shedOnce
  case queueOnce =>
    rw [State.beforeAttempt_budget, State.regrant_budget]
    exact passQueue_nodup _ _ hs.queueOnce
  case committed =>
    rw [State.beforeAttempt_budget, State.regrant_budget, State.beforeAttempt_loads]
  case within =>
    rw [State.beforeAttempt_budget, State.regrant_budget]
    exact committedSum_passLoads_le _ _
  case force =>
    rw [State.beforeAttempt_budget, State.regrant_budget]
    exact hs.force
  case atRest =>
    intro h
    refine absurd ?_ h
    rw [← hs.run]
    simp [State.beforeAttempt, State.regrant]

theorem PassReady.pass (hs : PassReady s) : BudgetSound s.pass := by
  have hrun : s.beforeAttempt.part.op = .run := by
    rw [← hs.run]
    simp [State.beforeAttempt, State.regrant]
  exact hs.beforeAttempt.attempt hrun

/-- A pass after a change of requests, definitions or Budget Unit that leaves the lists. -/
theorem BudgetSound.pass_changed (hs : BudgetSound s) (hrun : s.part.op = .run) {loads : Table 64 Load} {b : Budget}
    (hrequest : ∀ n, (loads.get n).request ≤ (loads.get n).maxLevel) (hshed : b.shed = s.budget.shed)
    (hqueue : b.queue = s.budget.queue) (hforce : b.inForce = b.force) :
    BudgetSound (State.pass { s with loads := loads, budget := b }) :=
  PassReady.pass ⟨hrequest, by rw [hshed]; exact hs.shedOnce, by rw [hqueue]; exact hs.queueOnce, hforce, hrun⟩

theorem BudgetSound.requests (hs : BudgetSound s) (n : LoadNo) :
    (s.loads.get n).request ≤ (s.loads.get n).maxLevel := (hs.loads n).request

theorem BudgetSound.withCap_pass (hs : BudgetSound s) (hrun : s.part.op = .run) (c : Option Cap) :
    BudgetSound (s.withCap c).pass :=
  hs.pass_changed (loads := s.loads) hrun hs.requests rfl rfl rfl

theorem setRequests_request_le {loads : Table 64 Load} (h : ∀ n, (loads.get n).request ≤ (loads.get n).maxLevel)
    (t : LoadType) (z : Zone) (rs : List (LoadNo × Nat)) (n : LoadNo) :
    ((setRequests t z rs loads).get n).request ≤ ((setRequests t z rs loads).get n).maxLevel := by
  simp only [setRequests, Table.get_mapIdx]
  repeat' split
  · exact Nat.min_le_right _ _
  · exact h n
  · exact h n

/-- A zone's copies changed leave the lists and the budget in force. -/
theorem Budget.atZone_force (z : Zone) (f : BudgetZone → BudgetZone) (b : Budget) : (b.atZone z f).force = b.force := rfl

/-! ### Requests -/

theorem BudgetSound.execDefLoad {f : LoadFields} (hs : BudgetSound s) (h : execDefLoad f s = .next t) :
    BudgetSound t := by
  have hset (u : State) (hu : BudgetSound u) (hstopped : u.running = false) (n : LoadNo) (d : Option LoadDef) :
      BudgetSound { u with loads := u.loads.set n (Load.atRest d) } := by
    have hop : u.part.op ≠ .run := by simpa [State.running] using hstopped
    have hrest := hu.atRest hop
    have hempty (m : LoadNo) : m ∉ u.budget.shed ∧ m ∉ u.budget.queue := by
      have hm := hu.loads m
      rw [hrest m] at hm
      exact ⟨fun h => by simpa [Load.atRest] using hm.shed.1 h, fun h => by simpa [Load.atRest] using hm.queue.1 h⟩
    have hzero : u.budget.committedDraw = 0 := by rw [hu.committed, committedSum_atRest hrest]
    refine .of_atRest (fun m => ?_) (List.eq_nil_iff_forall_not_mem.2 fun m => (hempty m).1)
      (List.eq_nil_iff_forall_not_mem.2 fun m => (hempty m).2) hzero hu.force
    simp only [Table.get_set]
    split
    · rfl
    · exact hrest m
  refine request_keeps BudgetSound.withLink (fun u _ hu => ?_) hs h
  have hdefine (n : LoadNo) (d : LoadDef) : BudgetSound (u.defineLoad n d) := by
    unfold State.defineLoad State.changeBase
    split
    · next hrun =>
      split
      · exact hu
      · refine hu.pass_changed (u.running_iff.1 hrun) (fun m => ?_) rfl rfl hu.force
        rw [Table.get_modify]
        split
        · next hm =>
          subst hm
          refine (hu.requests n).trans (le_of_eq ?_)
          cases hdefn : (u.loads.get n).defn <;> simp [Load.maxLevel, hdefn]
        · exact hu.requests m
    · next hrun => exact hset u hu (by simpa using hrun) n (some d)
  split
  · exact hu
  · split
    · unfold State.removeLoad
      split
      · exact hu
      · next hrun => exact hset u hu (by simpa using hrun) _ none
    · split
      · exact hu
      · split
        · simp only [State.placeLoad]
          repeat' split
          all_goals first | exact hu | exact hdefine _ _
        · exact hu

theorem BudgetSound.execCap {v : Int} {n : Nat} (hs : BudgetSound s) (h : execCap v n s = .next t) : BudgetSound t := by
  refine request_keeps BudgetSound.withLink (fun u _ hu => ?_) hs h
  dsimp only
  split
  · exact hu
  · split
    · exact hu
    · next hrun => exact hu.withCap_pass (u.running_iff.1 (by simpa using hrun)) _

theorem BudgetSound.execCapEnd (hs : BudgetSound s) (h : execCapEnd s = .next t) : BudgetSound t := by
  refine request_keeps BudgetSound.withLink (fun u _ hu => ?_) hs h
  split
  · exact hu
  · next hrun =>
    split
    · exact hu
    · exact hu.withCap_pass (u.running_iff.1 (by simpa using hrun)) _

/-! ### The minutes -/

/-- A change of calendar, drafts and notices, with the budget alike. -/
structure MinuteKept (s t : State) : Prop where
  loads : t.loads = s.loads
  part : t.part = s.part
  budget : s.budget.Alike t.budget

theorem MinuteKept.trans {u : State} (h : MinuteKept s t) (h' : MinuteKept t u) : MinuteKept s u :=
  ⟨h'.loads.trans h.loads, h'.part.trans h.part, h.budget.trans h'.budget⟩

theorem State.minuteExpiry_kept (stopped : Bool) (s : State) : MinuteKept s (s.minuteExpiry stopped) := by
  refine ⟨(s.minuteExpiry_within stopped).frame .loads (by decide),
    (s.minuteExpiry_within stopped).frame .part (by decide), ?_⟩
  unfold State.minuteExpiry
  split
  · dsimp only
    rw [show (State.calendarEvent _ s).budget = s.budget from
      (s.calendarEvent_within _).frame .budget (by decide)]
    exact s.budget.countCap_alike
  · exact .refl _

theorem State.withCalendar_kept (c : Calendar) (s : State) : MinuteKept s (s.withCalendar c) := ⟨rfl, rfl, .refl _⟩

theorem State.nextMinute_kept (s : State) : MinuteKept s s.nextMinute :=
  (s.withCalendar_kept _).trans (State.minuteExpiry_kept _ _)

theorem State.passMinutes_kept (ms : List Nat) (s : State) : MinuteKept s (ms.foldl State.passMinute s) := by
  induction ms generalizing s with
  | nil => exact ⟨rfl, rfl, .refl _⟩
  | cons m ms ih => exact ((s.withCalendar_kept _).trans (State.minuteExpiry_kept false _)).trans (ih _)

theorem State.trim_kept (target : Nat) (s : State) : MinuteKept s (s.trim target) :=
  (s.passMinutes_kept _).trans (State.withCalendar_kept _ _)

theorem MinuteKept.sound (h : MinuteKept s t) (hs : BudgetSound s) : BudgetSound t :=
  hs.congr (fun n => by rw [h.loads]; exact .refl _) h.budget (by rw [h.part]; exact id)

theorem BudgetSound.execSetTime {a b : Nat} (hs : BudgetSound s) (h : execSetTime a b s = .next t) :
    BudgetSound t := by
  refine request_keeps BudgetSound.withLink (fun u _ hu => ?_) hs h
  dsimp only
  have hmoved (target : Nat) : BudgetSound (u.moveClock target) :=
    hu.of_frame (u.calendarEvent_within _).frame (by decide) (by decide) (by decide)
  repeat' split
  · exact hu
  · exact hmoved _
  · exact (u.trim_kept _).sound hu
  · exact hmoved _

/-! ### Events and notices -/

theorem BudgetSound.execShedRotationExpiry (hs : BudgetSound s) (h : execShedRotationExpiry s = .next t) :
    BudgetSound t := by
  refine runEvent_keeps BudgetSound.withLink (fun hrun hu => ?_) hs h
  dsimp only
  split
  · exact hu.congr (fun _ => .refl _) ⟨rfl, rfl, rfl, rfl, rfl, rfl⟩ id
  · exact hu.pass_changed hrun hu.requests rfl rfl hu.force

theorem BudgetSound.execStaggerExpiry (hs : BudgetSound s) (h : execStaggerExpiry s = .next t) : BudgetSound t := by
  refine runEvent_keeps BudgetSound.withLink (fun hrun hu => ?_) hs h
  split
  · exact BudgetSound.attempt (hu.congr (fun _ => .refl _) ⟨rfl, rfl, rfl, rfl, rfl, rfl⟩ id) hrun
  · exact hu

theorem BudgetSound.execMinOffExpiry {n : LoadNo} (hs : BudgetSound s) (h : execMinOffExpiry n s = .next t) :
    BudgetSound t := by
  refine runEvent_keeps BudgetSound.withLink (fun hrun hu => ?_) hs h
  split
  · refine BudgetSound.attempt (hu.congr (fun m => ?_) (.refl _) id) hrun
    rw [Table.get_modify]
    split
    · next hm => subst hm; exact ⟨rfl, fun _ => rfl⟩
    · exact .refl _
  · exact hu

theorem BudgetSound.execCapExpiry (hs : BudgetSound s) (h : execCapExpiry s = .next t) : BudgetSound t := by
  refine runEvent_keeps BudgetSound.withLink (fun hrun hu => ?_) hs h
  repeat' split
  all_goals first | exact hu | exact hu.withCap_pass hrun _

theorem BudgetSound.execCurtainRequestNotice {n : LoadNo} {r : Nat} (hs : BudgetSound s)
    (h : execCurtainRequestNotice n r s = .next t) : BudgetSound t := by
  refine notice_keeps BudgetSound.withLink BudgetSound.withFlight (fun u hrun hu => ?_) hs h
  split
  · refine hu.pass_changed hrun (fun m => ?_) rfl rfl hu.force
    rw [Table.get_modify]
    split
    · exact Nat.min_le_right _ _
    · exact hu.requests m
  · exact hu

/-! ### Operating states -/

theorem State.startBlocks_budget (s : State) : s.startBlocks.budget = s.budget.start := by
  simp [State.startBlocks, State.startCalendar, State.startReadings, State.startAir, State.startHeat,
    State.startLight, State.startDoors]

theorem BudgetSound.startBlocks (hs : BudgetSound s) : BudgetSound s.startBlocks := by
  refine hs.congr (fun n => ?_) ?_ ?_
  · rw [show s.startBlocks.loads = s.loads from s.startBlocks_within.frame .loads (by decide)]
    exact .refl _
  · rw [s.startBlocks_budget]
    exact ⟨rfl, rfl, rfl, rfl, rfl, rfl⟩
  · rw [show s.startBlocks.part = s.part from s.startBlocks_within.frame .part (by decide)]
    exact id

theorem BudgetSound.execStart (hs : BudgetSound s) (h : execStart s = .next t) : BudgetSound t := by
  refine request_keeps BudgetSound.withLink (fun u _ hu => ?_) hs h
  split
  · exact hu
  · exact BudgetSound.startBlocks (hu.congr (fun _ => .refl _) (.refl _) fun h => absurd rfl h)

theorem BudgetSound.execStop (hs : BudgetSound s) (h : execStop s = .next t) : BudgetSound t := by
  refine request_keeps BudgetSound.withLink (fun u _ hu => ?_) hs h
  split
  · refine .of_atRest (fun n => ?_) rfl rfl rfl rfl
    simp only [State.stopBlocks, accept, Table.get_map]
    rfl
  · exact hu

theorem State.withStored_budgetSound (c : Stored) (u : State) (hloads : u.loads = (s.withStored c).loads)
    (hbudget : u.budget = (s.withStored c).budget) : BudgetSound u := by
  refine .of_atRest (fun n => ?_) ?_ ?_ ?_ ?_
  · simp only [hloads, State.withStored, Table.get_map]
    rfl
  all_goals rw [hbudget]; rfl

theorem BudgetSound.execReset {a b : Bool} (h : execReset a b s = .next t) : BudgetSound t := by
  refine finish_keeps BudgetSound.withLink ?_ h
  exact State.withStored_budgetSound (s := s) Stored.builtIn _ rfl rfl

theorem BudgetSound.execStartingEnd (hs : BudgetSound s) (h : execStartingEnd s = .next t) : BudgetSound t := by
  refine finish_keeps BudgetSound.withLink ?_ h
  split
  · have hstarted : BudgetSound s.started := State.withStored_budgetSound (s := s) _ _ rfl rfl
    have hrunning : BudgetSound s.started.startIfRunning := by
      unfold State.startIfRunning
      split
      · exact hstarted.startBlocks
      · exact hstarted
    exact hrunning.congr_eq (by simp) (by simp) (by simp)
  · exact hs

end

/-! ### Every step -/

theorem BudgetSound.exec (c : Instr) (s t : State) (hs : BudgetSound s) (h : exec c s = .next t) : BudgetSound t := by
  by_cases hc : (.loads ∈ changedBy c ∨ .budget ∈ changedBy c) ∨ .part ∈ changedBy c
  · cases c <;> simp [changedBy] at hc
    case reset => exact .execReset h
    case startingEnd => exact hs.execStartingEnd h
    case start => exact hs.execStart h
    case stop => exact hs.execStop h
    case store =>
      refine finish_keeps BudgetSound.withLink ?_ h
      split
      · exact hs.congr_eq (by simp) (by simp) (by simp)
      · exact hs
    case storeWriteEnd =>
      refine finish_keeps BudgetSound.withLink ?_ h
      split
      · exact hs
      · exact hs.congr_eq rfl rfl rfl
    case setAutorun =>
      simp only [Machine.exec] at h
      refine request_keeps BudgetSound.withLink (fun u _ hu => ?_) hs h
      split
      · exact hu
      · exact hu.congr_eq rfl rfl rfl
    case defLoad => exact hs.execDefLoad h
    case cap => exact hs.execCap h
    case capEnd => exact hs.execCapEnd h
    case setBudget =>
      simp only [Machine.exec] at h
      refine request_keeps BudgetSound.withLink (fun u _ hu => ?_) hs h
      split
      · exact hu
      · exact hu.congr (fun _ => .refl _) ⟨rfl, rfl, rfl, rfl, rfl, rfl⟩ id
    case setTime => exact hs.execSetTime h
    case minuteExpiry => exact finish_keeps BudgetSound.withLink (s.nextMinute_kept.sound hs) h
    case capExpiry => exact hs.execCapExpiry h
    case shedRotationExpiry => exact hs.execShedRotationExpiry h
    case staggerExpiry => exact hs.execStaggerExpiry h
    case minOffExpiry => exact hs.execMinOffExpiry h
    case exhaustNotice | heatNotice | lightNotice =>
      simp only [Machine.exec] at h
      refine zoneNotice_keeps BudgetSound.withLink BudgetSound.withFlight (fun u hrun hu => ?_) hs h
      exact hu.pass_changed hrun (setRequests_request_le hu.requests _ _ _) rfl rfl hu.force
    case budgetSubstituteFlagNotice =>
      simp only [Machine.exec] at h
      refine zoneNotice_keeps BudgetSound.withLink BudgetSound.withFlight (fun u hrun hu => ?_) hs h
      exact hu.pass_changed hrun hu.requests rfl rfl hu.force
    case siteProfileNotice =>
      simp only [Machine.exec] at h
      refine notice_keeps BudgetSound.withLink BudgetSound.withFlight (fun u hrun hu => ?_) hs h
      exact hu.pass_changed hrun hu.requests rfl rfl rfl
    case curtainRequestNotice => exact hs.execCurtainRequestNotice h
  · simp only [not_or] at hc
    exact hs.of_frame (exec_onlyChanges h) (by simpa using hc.1.1) (by simpa using hc.1.2) (by simpa using hc.2)

theorem BudgetSound.tick (s : State) (h : BudgetSound s) : BudgetSound s.tick := by
  have htimers : BudgetSound s.timersTenth := by
    refine h.congr (fun n => ?_) ⟨rfl, rfl, rfl, rfl, rfl, rfl⟩ id
    simp only [State.timersTenth, Table.get_map]
    exact ⟨rfl, fun hidle => by simp [hidle, Timer.countDown]⟩
  have hclock : BudgetSound s.timersTenth.clockTenth := by
    simp only [State.clockTenth]
    repeat' split
    · exact htimers.congr_eq rfl rfl rfl
    · exact (State.nextMinute_kept _).sound htimers
    · exact htimers.congr_eq rfl rfl rfl
  exact hclock.of_frame (State.settle_within _).frame (by decide) (by decide) (by decide)

/-- Settles O56: a pass leaves the Budget Unit sound, every other change of it leaves its lists and levels. -/
theorem stepKeepsBudgetSound : Obligations.StepKeepsBudgetSound := fun _ _ =>
  step_keeps (fun _ _ h => h.congr_eq rfl rfl rfl) BudgetSound.exec BudgetSound.tick

end Sys2Proof.Machine
end

section
/-! An arbitration pass protects, serves by priority and leaves nothing that fits (R137 to R140). -/

namespace Sys2Proof.Machine

/-! ### Non-decreasing draws -/

theorem ceilDiv_mono {m n : Nat} (h : m ≤ n) (d : Nat) : ceilDiv m d ≤ ceilDiv n d :=
  Nat.div_le_div_right (by omega)

theorem drawAt_mono {f : LoadDef} (hdraws : f.draws.Pairwise (· ≤ ·)) {low high : Nat} (h : low ≤ high)
    (hlength : f.type ≠ .light → high ≤ f.draws.length) : drawAt f low ≤ drawAt f high := by
  unfold drawAt
  split
  · exact ceilDiv_mono (Nat.mul_le_mul_left _ h) _
  · next hlight =>
    have hhigh := hlength hlight
    by_cases hlow : low = 0
    · simp [hlow]
    · rw [if_neg hlow, if_neg (by omega), List.getD_eq_getElem _ _ (by omega), List.getD_eq_getElem _ _ (by omega)]
      obtain hlt | heq := Nat.lt_or_eq_of_le h
      · exact List.pairwise_iff_getElem.1 hdraws _ _ _ _ (by omega)
      · simp [heq]

/-- The draws of the loads do not decrease up to their requests. -/
def DrawsRise (loads : Table 64 Load) : Prop :=
  ∀ n low high, low ≤ high → high ≤ (loads.get n).request → (loads.get n).draw low ≤ (loads.get n).draw high

theorem drawsRise_of_pairwise {loads : Table 64 Load}
    (h : ∀ n f, (loads.get n).defn = some f →
      f.draws.Pairwise (· ≤ ·) ∧ (f.type ≠ .light → (loads.get n).request ≤ f.draws.length)) : DrawsRise loads := by
  intro n low high hle hrequest
  unfold Load.draw
  cases hf : (loads.get n).defn with
  | none => exact Nat.le_refl _
  | some f =>
    obtain ⟨hdraws, hlength⟩ := h n f hf
    exact drawAt_mono hdraws hle fun hlight => hrequest.trans (hlength hlight)

/-! ### What the service leaves -/

section
variable {b : Budget} {loads : Table 64 Load}

/-- With draws that rise, the committed draw and the room left make up the budget in force. -/
theorem Served.committed (hrise : DrawsRise loads) (hpriority : ∀ n, (loads.get n).priority ≤ 3)
    (hfits : protectedSum b loads ≤ b.inForce) {room : Nat}
    (h : Served b loads (serveOrder loads b.tie) (b.inForce - protectedSum b loads, loads.map (protectedLevel b))
      (room, grantsOf b loads)) :
    ((List.finRange 64).map fun n => (loads.get n).draw ((grantsOf b loads).get n)).sum + room = b.inForce := by
  have hspent := h.spent
  have hperm := (serveOrder_perm hpriority b.tie).map fun n => extraDraw b (loads.get n) ((grantsOf b loads).get n)
  simp only [extraDraws, hperm.sum_eq] at hspent
  have hsplit : ((List.finRange 64).map fun n => (loads.get n).draw ((grantsOf b loads).get n)).sum
      = protectedSum b loads
        + ((List.finRange 64).map fun n => extraDraw b (loads.get n) ((grantsOf b loads).get n)).sum := by
    rw [protectedSum, sum_entries, ← List.sum_map_add]
    congr 2
    funext n
    obtain ⟨hlow, hhigh⟩ := grantsOf_between (b := b) n (hpriority n)
    exact (Nat.add_sub_cancel' (hrise n _ _ hlow hhigh)).symm
  omega

/-- A load cut short has no further level that fits into the room left together with the extra draws granted behind
it. -/
theorem Served.short_maximal (hrise : DrawsRise loads) {room : Nat} {front rest : List LoadNo} {m : LoadNo}
    (hpriority : (loads.get m).priority ≤ 3) (hsplit : serveOrder loads b.tie = front ++ m :: rest)
    (h : Served b loads (serveOrder loads b.tie) (b.inForce - protectedSum b loads, loads.map (protectedLevel b))
      (room, grantsOf b loads))
    (hdefn : (loads.get m).defn ≠ none) (hshort : (grantsOf b loads).get m < (loads.get m).request) :
    room + extraDraws b loads (grantsOf b loads) rest
      < (loads.get m).draw ((grantsOf b loads).get m + 1) - (loads.get m).draw ((grantsOf b loads).get m) := by
  obtain ⟨f, hf⟩ := Option.ne_none_iff_exists'.1 hdefn
  obtain ⟨hlow, hhigh⟩ := grantsOf_between (b := b) m hpriority
  have hturn := h.turn front m rest hsplit
  have hnext := servedLevel_maximal b _ _ hf (Nat.lt_succ_of_le (le_of_eq hturn.symm)) (Nat.succ_le_of_lt hshort)
  have hmono := hrise m _ _ hlow hhigh
  simp only [extraDraw, Nat.succ_eq_add_one] at hnext
  omega

/-- The extra draws behind a load in the order of service, as a sum over all loads. -/
theorem extraDraws_behind (hpriority : ∀ n, (loads.get n).priority ≤ 3) {front rest : List LoadNo} {m : LoadNo}
    (hsplit : serveOrder loads b.tie = front ++ m :: rest) (grants : Table 64 Nat) {later : LoadNo → Bool}
    (hlater : ∀ n, later n = true ↔ ServedBefore loads b.tie m n) :
    ((List.finRange 64).map fun n => if later n then extraDraw b (loads.get n) (grants.get n) else 0).sum
      = extraDraws b loads grants rest := by
  have hirrefl (n k : LoadNo) (h : ServedBefore loads b.tie n k) : ¬ServedBefore loads b.tie k n := by
    obtain h | ⟨h, h'⟩ := h <;> rintro (g | ⟨g, g'⟩) <;> omega
  have hpairs := serveOrder_pairwise loads b.tie
  rw [hsplit, List.pairwise_append, List.pairwise_cons] at hpairs
  obtain ⟨_, ⟨hrest, _⟩, hfront⟩ := hpairs
  have hself : later m = false := by
    by_contra h
    have hm := (hlater m).1 (by simpa using h)
    exact hirrefl m m hm hm
  have hbefore : ∀ n ∈ front, later n = false := fun n hn => by
    by_contra h
    exact hirrefl n m (hfront n hn m List.mem_cons_self) ((hlater n).1 (by simpa using h))
  have hbehind : ∀ n ∈ rest, later n = true := fun n hn => (hlater n).2 (hrest n hn)
  rw [← ((serveOrder_perm hpriority b.tie).map _).sum_eq, hsplit, List.map_append, List.sum_append, List.map_cons,
    List.sum_cons, hself, extraDraws,
    List.map_congr_left (l := front) (g := fun _ => 0) fun n hn => by simp [hbefore n hn],
    List.map_congr_left (l := rest) (g := fun n => extraDraw b (loads.get n) (grants.get n)) fun n hn => by
      simp [hbehind n hn]]
  simp

end

/-! ### A pass -/

section
variable (s : State)

theorem State.pass_grants (n : LoadNo) :
    (s.pass.loads.get n).grant = (grantsOf s.budget (rankedLoads s.budget s.loads)).get n := by
  rw [s.pass_grant, passLoads_grant]

/-- The committed draw is the sum of the draws of the grants (section 8.1). -/
theorem State.pass_committed :
    s.pass.budget.committedDraw
      = ((List.finRange 64).map fun n => (s.loads.get n).draw (s.pass.loads.get n).grant).sum := by
  rw [s.pass_budget_eq, s.regrant_budget]
  simp only [committedSum_passLoads, State.pass_grants]

theorem State.pass_protected :
    s.pass.budget.protectedDraw
      = ((List.finRange 64).map fun n => (s.loads.get n).draw (protectedLevel s.budget (s.loads.get n))).sum := by
  rw [s.pass_budget_eq, s.regrant_budget]
  simp only [protectedSum, sum_entries]

theorem State.pass_between (n : LoadNo) :
    protectedLevel s.budget (s.loads.get n) ≤ (s.pass.loads.get n).grant
      ∧ (s.pass.loads.get n).grant ≤ (s.loads.get n).request := by
  have h := grantsOf_between (b := s.budget) n (rankedLoads_priority_le s.budget s.loads n)
  rw [rankedLoads_get] at h
  rwa [State.pass_grants]

end

/-- Settles O54: the grants of a pass by the service of its loads, load by load. -/
theorem passServesByPriority : Obligations.PassServesByPriority := by
  intro s hdraws t b copies portion priority draw grant total guarded committed later
  have hportion (n : LoadNo) : portion n = protectedLevel b (s.loads.get n) := by
    simp only [portion, protectedLevel, copies]
    cases (s.loads.get n).defn with
    | none => rfl
    | some f =>
      dsimp only
      cases f.type <;> rfl
  have hguarded : guarded = protectedSum b s.loads := by
    simp only [guarded, total, draw, hportion, protectedSum, sum_entries]
  refine ⟨fun n f hf => ?_, fun n => ?_, ?_, s.pass_committed, fun h n => ?_, fun h => ?_⟩
  · simp only [t, State.pass_priority, passLoads_priority, effectivePriority, hf, priority, copies, b]
    split_ifs <;> simp_all
  · rw [hportion]
    exact s.pass_between n
  · rw [hguarded]
    simp only [t, b, State.pass_protected, protectedSum, sum_entries]
  · rw [hportion]
    simp only [grant, t, State.pass_grants]
    rw [grantsOf_protected (by rwa [protectedSum_ranked, ← hguarded]), rankedLoads_get]
    rfl
  · have hrise : DrawsRise (rankedLoads b s.loads) := drawsRise_of_pairwise fun n f => by
      rw [rankedLoads_get]
      exact hdraws n f
    have hpriority := rankedLoads_priority_le b s.loads
    have hfits : protectedSum b (rankedLoads b s.loads) ≤ b.inForce := by rwa [protectedSum_ranked, ← hguarded]
    obtain ⟨room, hserved⟩ := grantsOf_served hfits
    have hroom := hserved.committed hrise hpriority hfits
    have hcommitted : committed + room = b.inForce := by
      rw [← hroom]
      simp only [committed, total, draw, grant, t, State.pass_grants, rankedLoads_get]
      rfl
    refine ⟨by omega, fun m hdefn hshort => ?_⟩
    obtain ⟨front, rest, hsplit⟩ := List.append_of_mem
      (mem_serveOrder (loads := rankedLoads b s.loads) (tie := b.tie).2 (hpriority m))
    have hmax := hserved.short_maximal hrise (hpriority m) hsplit (by rwa [rankedLoads_get])
      (by simpa only [grant, t, State.pass_grants, rankedLoads_get] using hshort)
    have hlater (n : LoadNo) : later m n = true ↔ ServedBefore (rankedLoads b s.loads) b.tie m n := by
      simp only [later, t, State.pass_priority, passLoads_priority, ServedBefore, rankedLoads_get, tieRank,
        Bool.or_eq_true, Bool.and_eq_true, decide_eq_true_eq, b]
      rw [eq_comm (a := effectivePriority s.budget (s.loads.get n))]
    rw [← extraDraws_behind hpriority hsplit _ hlater] at hmax
    have hleft : b.inForce - committed = room := by omega
    rw [hleft]
    simp only [rankedLoads_get, extraDraw] at hmax
    simp only [total, draw, grant, t, hportion, State.pass_grants]
    exact hmax

end Sys2Proof.Machine
end

section
/-! Reset, STOP, pulse periods and plain settings (chapters 1 and 10). -/

namespace Sys2Proof.Machine

/-! ### Requests that complete on an effect -/

/-- A request completes on an effect that takes no notice of what is handed and does not lead to STARTING. -/
theorem completes_of_effect_op {c : Instr} {act : State → State × Answer} {effect : State → State} {s : State}
    {a : Answer} (hexec : exec c s = request c act s) (htakes : s.takesRequests = true)
    (heffect : IgnoresHanded effect) (hop : (effect s).part.op ≠ .starting)
    (hact : act (s.takeHanded c) = (effect (s.takeHanded c), a)) : Completes c a.status a.fields s (effect s) := by
  have hservice : (effect s).inService c = s.inService c := by rw [State.inService, heffect.handed]; rfl
  rw [heffect.takeHanded] at hact
  obtain ⟨t, ht, hreply, hframe⟩ := request_replied htakes hact hop hservice
  exact ⟨t, hexec.trans ht, hreply, hframe⟩

section
variable {s : State}

theorem State.operating_of_takes (htakes : s.takesRequests = true) : s.part.op ≠ .starting := by
  simp [State.takesRequests] at htakes
  exact htakes.1

/-- A request that only changes settings or definitions. -/
theorem completes_of_setting {c : Instr} {act : State → State × Answer} {effect : State → State}
    (hexec : exec c s = request c act s) (htakes : s.takesRequests = true) (heffect : IgnoresHanded effect)
    (hop : (effect s).part.op = s.part.op) (hact : act (s.takeHanded c) = accept (effect (s.takeHanded c))) :
    Completes c .ok [] s (effect s) :=
  completes_of_effect_op (a := Answer.bare .ok) hexec htakes heffect
    (by rw [hop]; exact State.operating_of_takes htakes) hact

/-! ### Plain settings (R142, R153, R156, R162) -/

theorem retention?_eq (k : Nat) :
    retention? k = if k ≤ 1 then some (if k = 0 then .retain else .flush) else none := by
  match k with
  | 0 | 1 | _ + 2 => rfl

section
variable (htakes : s.takesRequests = true)
include htakes

theorem mask_taken (v : Nat) :
    if v ≤ 3 then Completes (.mask v) .ok [] s { s with link := { s.link with mask := v } }
    else AnswersOnly (.mask v) .badField [] s := by
  have hexec : exec (.mask v) s = execMask v s := rfl
  split
  · next hv =>
    refine completes_of_setting (effect := State.onLink fun l => { l with mask := v }) (hexec.trans rfl) htakes
      (fun _ _ => rfl) rfl ?_
    simp [Nat.not_lt.2 hv]
  · next hv =>
    refine answersOnly_of_refuse (hexec.trans rfl) htakes ?_
    simp [Nat.not_le.1 hv]

theorem setBudget_taken (v : Nat) :
    if 60 ≤ v ∧ v ≤ 3600 then
      Completes (.setBudget v) .ok [] s { s with budget := { s.budget with period := v } }
    else AnswersOnly (.setBudget v) .badField [] s := by
  have hexec : exec (.setBudget v) s = execSetBudget v s := rfl
  split
  · next hv =>
    refine completes_of_setting (effect := fun s => { s with budget := { s.budget with period := v } })
      (hexec.trans rfl) htakes (fun _ _ => rfl) rfl ?_
    simp [show ¬(v < 60 ∨ 3600 < v) by omega]
  · next hv =>
    refine answersOnly_of_refuse (hexec.trans rfl) htakes ?_
    simp [show v < 60 ∨ 3600 < v by omega]

theorem setAutorun_taken (v : Nat) :
    if v ≤ 1 then Completes (.setAutorun v) .ok [] s { s with part := { s.part with autorun := decide (v = 1) } }
    else AnswersOnly (.setAutorun v) .badField [] s := by
  have hexec : exec (.setAutorun v) s = execSetAutorun v s := rfl
  split
  · next hv =>
    refine completes_of_setting (effect := fun s => { s with part := { s.part with autorun := decide (v = 1) } })
      (hexec.trans rfl) htakes (fun _ _ => rfl) rfl ?_
    simp [flag?_eq, hv]
  · next hv =>
    refine answersOnly_of_refuse (hexec.trans rfl) htakes ?_
    simp [flag?_eq, hv]

theorem setLink_taken (v interval count retention : Nat) :
    if 5 ≤ v ∧ v ≤ 600 ∧ 2 ≤ interval ∧ interval ≤ 120 ∧ 1 ≤ count ∧ count ≤ 10 ∧ interval < v ∧ retention ≤ 1 then
      Completes (.setLink v interval count retention) .ok [] s
        { s with link := { s.link with settings := ⟨v, interval, count, if retention = 0 then .retain else .flush⟩ } }
    else AnswersOnly (.setLink v interval count retention) .badField [] s := by
  have hexec : exec (.setLink v interval count retention) s = execSetLink v interval count retention s := rfl
  have hrange (r : Retention) : LinkSettings.inRange ⟨v, interval, count, r⟩ = true
      ↔ 5 ≤ v ∧ v ≤ 600 ∧ 2 ≤ interval ∧ interval ≤ 120 ∧ 1 ≤ count ∧ count ≤ 10 ∧ interval < v := by
    simp [LinkSettings.inRange, and_assoc]
  split
  · next hv =>
    obtain ⟨h1, h2, h3, h4, h5, h6, h7, hr⟩ := hv
    refine completes_of_setting
      (effect := State.onLink fun l =>
        { l with settings := ⟨v, interval, count, if retention = 0 then .retain else .flush⟩ })
      (hexec.trans rfl) htakes (fun _ _ => rfl) rfl ?_
    simp only [retention?_eq, if_pos hr, if_pos ((hrange _).2 ⟨h1, h2, h3, h4, h5, h6, h7⟩)]
  · next hv =>
    refine answersOnly_of_refuse (hexec.trans rfl) htakes ?_
    by_cases hr : retention ≤ 1
    · have hout (r : Retention) : ¬LinkSettings.inRange ⟨v, interval, count, r⟩ = true := fun h => by
        have hin := (hrange r).1 h
        tauto
      simp only [retention?_eq, if_pos hr, if_neg (hout _)]
    · simp only [retention?_eq, if_neg hr]

/-! ### STOP (R161) -/

theorem stop_taken :
    if s.part.op = .run then
      Completes .stop .ok [] s (State.stopBlocks { s with part := { s.part with op := .configure } })
    else AnswersOnly .stop .wrongState [] s := by
  have hexec : exec .stop s = execStop s := rfl
  split
  · next hop =>
    refine completes_of_effect_op (a := Answer.bare .ok)
      (effect := fun s => State.stopBlocks { s with part := { s.part with op := .configure } })
      (hexec.trans rfl) htakes (fun _ _ => rfl) nofun ?_
    simp [s.running_iff.2 hop, accept]
  · next hop =>
    refine answersOnly_of_refuse (hexec.trans rfl) htakes ?_
    have hrun : s.running = false := by simpa [State.running] using hop
    simp [hrun]

end

end

/-- Settles O12: each setting by its own lemma. -/
theorem plainSettingsAreTaken : Obligations.PlainSettingsAreTaken := fun _ v htakes =>
  ⟨mask_taken htakes v, setBudget_taken htakes v, setAutorun_taken htakes v, setLink_taken htakes v⟩

/-- A rotation that stops has no cursor and no lookahead, and a committed table becomes the active one (R39). -/
theorem Calendar.stopRotation_eq (c : Calendar) :
    c.stopRotation =
      { c with
        active := if c.committed then c.pendingTable else c.active, committed := false, cursor := none
        lookahead := none } := by
  unfold Calendar.stopRotation
  cases h : c.committed <;> simp [Calendar.adoptNow, h]

theorem Calendar.stop_eq (c : Calendar) :
    c.stop =
      { c with
        active := if c.committed then c.pendingTable else c.active
        committed := false
        cursor := none
        lookahead := none
        overrides := Table.fill 12 none
        inForce := Table.fill 12 c.defaultProfile
        siteProfile := c.defaultProfile } := by
  have hchosen (d : Calendar) (hcursor : d.cursor = none) (ho : d.overrides = Table.fill 12 none) :
      Table.ofFn d.chosen = Table.fill 12 d.defaultProfile := Table.ext_get fun i => by
    simp [Calendar.chosen, Calendar.site, Calendar.shiftProfile?, hcursor, ho]
  simp only [Calendar.stop, Calendar.settled, Calendar.stopRotation_eq]
  rw [hchosen _ rfl rfl]
  rfl

/-- Settles O18: what STOP does in RUN is what the blocks do, written out. -/
theorem stopEntersConfigure : Obligations.StopEntersConfigure := by
  intro s htakes
  have h := stop_taken htakes
  split at h
  · next hop =>
    rw [if_pos hop]
    simpa only [State.stopBlocks, Calendar.stop_eq, Doors.stop, Readings.stop, Air.stop, Heat.stop] using h
  · next hop => rwa [if_neg hop]

/-- Settles O13: outside the image and the lines every part takes its reset values. -/
theorem resetAbandonsEverything : Obligations.ResetAbandonsEverything := by
  intro s strap1 strap0
  have hstore : s.store.abandoned
      = { image := if s.store.write.isSome then .broken else s.store.image, write := none } := by
    rcases s.store with ⟨image, _ | w⟩ <;> rfl
  have hloads : Stored.builtIn.loads.map Load.atRest = Table.fill 64 (Load.atRest none) :=
    Table.ext_get fun i => by simp [Stored.builtIn]
  have hdoors : Stored.builtIn.doors.map Door.atRest = Table.fill 32 (Door.atRest none) :=
    Table.ext_get fun i => by simp [Stored.builtIn]
  have hsensors : Stored.builtIn.sensors.map Sensor.atRest = Table.fill 40 (Sensor.atRest none) :=
    Table.ext_get fun i => by simp [Stored.builtIn]
  have hprofile : Stored.builtIn.profiles.get Stored.builtIn.defaultProfile = Profile.builtIn := by
    simp [Stored.builtIn]
  change finish _ = _
  simp only [finish, State.settle, Part.starting, if_true, State.withStored, State.reset, hstore, hloads, hdoors,
    hsensors, hprofile]
  rfl

/-- Settles O22: the duty of a load in RUN, and 0 where the part does not run or the load is undefined. -/
theorem pulsePeriodTakesDuty : Obligations.PulsePeriodTakesDuty := by
  intro s n
  change finish { s with duty := s.duty.set n (if s.running then (s.loads.get n).dutyOf else 0) } = _
  unfold finish Load.dutyOf Load.maxLevel State.running
  cases s.part.op <;> cases (s.loads.get n).defn <;> simp

/-- Settles O60: the reset values have every record at rest, both lists empty and no timer running. -/
theorem resetIsSound : Obligations.ResetIsSound := by
  refine ⟨.of_atRest (fun n => ?_) rfl rfl rfl rfl, ?_, .of_atRest fun n => ⟨none, ?_⟩, .of_atRest rfl rfl⟩
  · simp [State.reset, Load.atRest]
  · exact linkSound_iff.2 ⟨linkFit_atReset _ _, fun _ => ⟨rfl, rfl, rfl, rfl⟩⟩
  · simp [State.reset]

end Sys2Proof.Machine
end

section
/-! The Link Unit by its own commands: the transmitter, supervision and the report queue (chapter 9). -/

namespace Sys2Proof.Machine

/-! ### The transmitter's choice (R152) -/

/-- The choice of a free transmitter, written by reply, request, PROBE and report. -/
theorem Link.kick_eq_chosen {l : Link} (h : l.sending = none) : l.kick = l.chosen := by
  unfold Link.kick Link.chosen
  rw [h]
  cases l.reply <;> cases l.handed <;> cases l.probe <;> cases l.reports <;> rfl

theorem State.settle_starting {s : State} (h : s.part.op = .starting) : s.settle = s := if_pos h

theorem State.settle_operating {s : State} (h : s.part.op ≠ .starting) : s.settle = { s with link := s.link.kick } :=
  if_neg h

theorem State.settle_busy {s : State} {x : Sent} (h : s.link.sending = some x) : s.settle = s := by
  unfold State.settle
  rw [Link.kick_busy h]
  split <;> rfl

theorem State.settle_free {s : State} (hop : s.part.op ≠ .starting) (h : s.link.sending = none) :
    s.settle = { s with link := s.link.chosen } := by
  rw [State.settle_operating hop, Link.kick_eq_chosen h]

/-! ### Every command ends in the choice -/

theorem request_finishes (c : Instr) (act : State → State × Answer) (s : State) :
    ∃ u, request c act s = finish u := by
  unfold request
  split
  · exact ⟨_, rfl⟩
  · exact ⟨_, rfl⟩

/-- A command that is a request, but for STORE, is taken as a request by its block. -/
theorem exec_eq_request {c : Instr} {frame : Byte × List Byte} (hc : encodeRequest c = some frame)
    (hstore : c ≠ .store) (s : State) : ∃ act, exec c s = request c act s := by
  cases c
  case store => exact absurd rfl hstore
  case partStatus | start | stop | setAutorun | mask | setLink | defZone | zoneStatus | defLoad | loadStatus | setTime
    | defProfile | setCalendar | planRow | planCommit | planWithdraw | planAnchor | override | overrideEnd
    | calendarStatus | planRead | profileRead | setDoors | defDoor | ackDoor | doorStatus | defSensor | setSensing
    | reading | sensorStatus | setAir | setHeat | cap | capEnd | setBudget | budgetStatus =>
    simp only [exec]
    exact ⟨_, rfl⟩
  all_goals cases hc

theorem exec_finishes (c : Instr) (s : State) : ∃ u, exec c s = finish u := by
  by_cases hstore : c = .store
  · subst hstore; exact ⟨_, rfl⟩
  · cases hc : encodeRequest c with
    | some frame =>
      obtain ⟨act, hact⟩ := exec_eq_request hc hstore s
      rw [hact]
      exact request_finishes c act s
    | none => cases c <;> first | exact ⟨_, rfl⟩ | cases hc

theorem exec_settled {c : Instr} {s t : State} (h : exec c s = .next t) : t.settled := by
  obtain ⟨u, hu⟩ := exec_finishes c s
  exact finish_settled (hu.symm.trans h)

/-! ### A frame that is being sent is sent whole -/

theorem Link.serveFrame_sending (f : Frame) (l : Link) : (l.serveFrame f).sending = l.sending := by
  unfold Link.serveFrame
  split <;> rfl

theorem Link.serve_sending (l : Link) : l.serve.sending = l.sending := by
  unfold Link.serve
  split
  · rfl
  · exact l.serveFrame_sending _

theorem Link.place_sending (f : Frame) (l : Link) : (l.place f).sending = l.sending := by
  unfold Link.place
  split
  · exact Link.serve_sending _
  · rfl
  · rfl

theorem State.raise_sending (b : Body) (s : State) : (s.raise b).link.sending = s.link.sending := by
  rw [State.raise_link]
  split
  · rfl
  · rw [Link.offer_frame]

theorem State.hostPresent_sending (s : State) : s.hostPresent.link.sending = s.link.sending := by
  simp only [State.hostPresent]
  split
  · rfl
  · exact State.raise_sending _ _

theorem State.completeFrame_sending (f : RawFrame) (s : State) :
    (s.completeFrame f).link.sending = s.link.sending := by
  simp only [State.completeFrame]
  split
  · exact (Link.place_sending _ _).trans (State.hostPresent_sending _)
  · rfl

section
variable {s t u : State} {x : Sent}

theorem finish_sends (hu : u.link.sending = some x) (h : finish u = .next t) : t.link.sending = some x := by
  cases h
  rwa [State.settle_busy hu]

theorem exec_sends {c : Instr} (hop : s.part.op ≠ .starting) (hx : s.link.sending = some x)
    (hend : c ≠ .transmitEnd) (hreset : ∀ strap1 strap0, c ≠ .reset strap1 strap0) (h : exec c s = .next t) :
    t.link.sending = some x := by
  cases hc : actsOnLink c with
  | false => exact (exec_within hc h).link.sends x hx
  | true =>
    cases c with
    | reset => exact absurd rfl (hreset _ _)
    | transmitEnd => exact absurd rfl hend
    | startingEnd =>
      refine finish_sends ?_ h
      rwa [if_neg hop]
    | storeWriteEnd =>
      refine finish_sends ?_ h
      split <;> exact hx
    | frameComplete =>
      refine finish_sends ?_ h
      rw [if_neg hop, State.completeFrame_sending, hx]
    | characterReceived =>
      refine finish_sends ?_ h
      rw [if_neg hop]
      split
      · exact hx
      · rw [State.completeFrame_sending, hx]
    | idleTimerExpiry =>
      refine finish_sends ?_ h
      split <;> exact hx
    | intervalTimerExpiry =>
      refine finish_sends ?_ h
      repeat' split
      · exact hx
      · exact s.link.becomeLost_frame.1.trans hx
      · exact hx
    | _ => cases hc

end

/-- Settles O2: every command ends in the transmitter's choice; the commands that keep the Link Unit keep the frame
being sent, and so does each of its own. -/
theorem everyStepSettlesTransmitter : Obligations.EveryStepSettlesTransmitter := by
  refine ⟨fun s t h => ?_, fun s t c x hop hx hend hreset h => exec_sends hop hx hend hreset h, fun s => ?_⟩
  · obtain ⟨c, queue, hc⟩ | rfl := step_cases h
    · exact exec_settled hc
    · exact finish_settled (s := s.timersTenth.clockTenth) rfl
  · split
    · next h =>
      obtain hop | hsending := h
      · exact State.settle_starting hop
      · obtain ⟨x, hx⟩ := Option.ne_none_iff_exists'.1 hsending
        exact State.settle_busy hx
    · next h =>
      simp only [not_or, not_not] at h
      exact State.settle_free h.1 h.2

/-! ### The end of a transmission (R151, R152) -/

/-- A frame that comes into service is answered or its request handed on. -/
theorem Link.serveFrame_eq (f : Frame) (l : Link) : l.serveFrame f = l.takesUp f := by
  unfold Link.serveFrame Link.takesUp
  cases decodeRequest f.kind f.payload <;> rfl

/-- Settles O9: the transmitter becomes free, after a reply in service with the next frame in service, and then makes
the choice of a free transmitter. -/
theorem transmitterChoosesInOrder : Obligations.TransmitterChoosesInOrder := by
  intro s x hop hx free served becomes
  have hends {l : Link} (hl : s.link.sent x = l) (hfree : l.sending = none) : becomes l := by
    have hexec : exec .transmitEnd s = finish { s with link := s.link.sent x } := by
      change finish _ = _
      rw [hx]
      rfl
    change exec .transmitEnd s = _
    rw [hexec, hl, finish, State.settle_free (s := { s with link := l }) hop hfree]
  refine ⟨fun h => hends ?_ rfl, fun r hr hanswers => ?_⟩
  · cases x with
    | reply r => simp [Link.sent, h r rfl, free]
    | probe p => rfl
    | report r gap => rfl
  · subst hr
    have hsent : s.link.sent (.reply r) = Link.serve served := by simp [Link.sent, hanswers, served, free]
    split
    · next hnil => exact hends (by simp [hsent, Link.serve, served, hnil]) rfl
    · next f rest hcons =>
      refine hends ?_ (by rw [← Link.serveFrame_eq, Link.serveFrame_sending])
      rw [hsent, ← Link.serveFrame_eq]
      simp [Link.serve, served, hcons]

/-! ### Supervision (R154, R155) -/

/-- Settles O10: each expiry by the supervision state in which its timer runs. -/
theorem supervisionTimersExpire : Obligations.SupervisionTimersExpire := by
  intro s probe becomes
  refine ⟨fun hup hidle => ?_, fun hlost hidle => ?_, fun hquiet hinterval => ?_⟩
  · obtain ⟨k, hk⟩ := Option.isSome_iff_exists.1 hidle
    change finish _ = _
    rw [hk, hup]
    rfl
  · obtain ⟨k, hk⟩ := Option.isSome_iff_exists.1 hidle
    change finish _ = _
    rw [hk, hlost]
    simp only [finish, State.probeDue, State.onLink, hlost, probe]
  · obtain ⟨k, hk⟩ := Option.isSome_iff_exists.1 hinterval
    have hexec : exec .intervalTimerExpiry s = finish
        (if s.link.probes < s.link.settings.count then
          State.probeDue (s.onLink fun l =>
            { l with probes := l.probes + 1, interval := Timer.start l.settings.interval })
        else s.onLink Link.becomeLost) := by
      change finish _ = _
      rw [hk, hquiet]
    split
    · next hcount =>
      change exec _ _ = _
      rw [hexec, if_pos hcount]
      simp only [finish, State.probeDue, State.onLink, hquiet, probe]
    · next hcount =>
      split
      · next hflush =>
        change exec _ _ = _
        rw [hexec, if_neg hcount]
        simp only [finish, State.onLink, Link.becomeLost, if_pos hflush]
      · next hretain =>
        change exec _ _ = _
        rw [hexec, if_neg hcount]
        simp only [finish, State.onLink, Link.becomeLost, if_neg hretain]

/-! ### The report queue (R153, R155) -/

theorem reportPriority_eq (b : Body) : reportPriority b = b.priority := by cases b <;> rfl

/-- Settles O11: the mask, FLUSH in LOST, a queue with room, and a full one by the lowest priority in it. -/
theorem raisedReportIsQueuedOrDiscarded : Obligations.RaisedReportIsQueuedOrDiscarded := by
  intro s b r queue becomes
  simp only [reportPriority_eq]
  refine ⟨fun hmask => if_pos hmask, fun hmask => ?_⟩
  have hoffer {l : Link} (hl : s.link.offer r = l) : becomes l := by
    change s.raise b = _
    rw [State.raise, if_neg (Nat.not_lt.2 hmask), ← hl]
    rfl
  refine ⟨fun hlost hflush => hoffer (if_pos ⟨hlost, hflush⟩), fun hkept => ⟨fun hroom => ?_, fun hfull hall => ?_,
    fun hfull hlower => ?_⟩⟩
  · exact hoffer (by rw [Link.offer, if_neg hkept, if_pos hroom])
  · have hne : queue ≠ [] := fun h => by simp [h] at hfull
    obtain ⟨q, hq, hlowest⟩ := exists_lowest hne
    refine hoffer ?_
    rw [Link.offer, if_neg hkept, if_neg (Nat.not_lt.2 hfull), if_neg]
    rw [Nat.not_lt, ← hlowest]
    exact hall q hq
  · obtain ⟨q, hq, hlt⟩ := hlower
    have hlowest : lowestPriority queue < b.priority := (lowestPriority_le hq).trans_lt hlt
    have hne : queue ≠ [] := List.ne_nil_of_mem hq
    obtain ⟨p, hp, hpriority⟩ := exists_lowest hne
    obtain ⟨oldest, before, after, hbefore, holdest, hsplit, herase⟩ :=
      List.exists_of_eraseP (p := fun r : Report => r.body.priority == lowestPriority queue) hp (by simp [hpriority])
    have holdest : oldest.body.priority = lowestPriority queue := by simpa using holdest
    refine ⟨before, oldest, after, hsplit, fun q hq => by rw [holdest]; exact lowestPriority_le hq, fun q hq => ?_,
      hoffer ?_⟩
    · have hle : lowestPriority queue ≤ q.body.priority :=
        lowestPriority_le (by rw [hsplit]; exact List.mem_append_left _ hq)
      have hdiffers : q.body.priority ≠ lowestPriority queue := by simpa using hbefore q hq
      omega
    · rw [Link.offer, if_neg hkept, if_neg (Nat.not_lt.2 hfull), if_pos hlowest, dropOldest, herase]

end Sys2Proof.Machine
end

section
/-! The receiver, the receive buffer and the Settings Store's requests (chapters 9 and 10). -/

namespace Sys2Proof.Machine

/-! ### The receiver (R149) -/

/-- The state with another receiver state. -/
def State.withReceiver (r : Receiver) (s : State) : State := { s with link := { s.link with receiver := r } }

section
variable {s : State}

/-- The receiver has no part in the transmitter's choice. -/
theorem State.withReceiver_settle (hs : s.settled) (r : Receiver) : (s.withReceiver r).settle = s.withReceiver r :=
  (State.settled_iff (s.withReceiver r)).1 hs

theorem exec_character_moves (hs : s.settled) (hop : s.part.op ≠ .starting) {c : Byte} {r : Receiver}
    (htake : s.link.receiver.take c = .state r) : exec (.characterReceived c) s = .next (s.withReceiver r) := by
  change finish _ = _
  rw [if_neg hop, htake]
  exact congrArg _ (State.withReceiver_settle hs r)

theorem exec_character_completes (hop : s.part.op ≠ .starting) {c : Byte} {f : RawFrame}
    (htake : s.link.receiver.take c = .frame f) : exec (.characterReceived c) s = exec (.frameComplete f) s := by
  change finish _ = finish _
  rw [if_neg hop, if_neg hop, htake]

theorem exec_frame_invalid (hs : s.settled) (hop : s.part.op ≠ .starting) {f : RawFrame}
    (hcheck : f.check ≠ crc (f.length :: f.kind :: f.payload)) :
    exec (.frameComplete f) s = .next (s.withReceiver .hunt) := by
  have hinvalid : frameValid f = false := by
    simp only [frameValid, frameCheck, Bool.and_eq_false_iff]
    exact .inr (by simpa using hcheck)
  change finish _ = _
  rw [if_neg hop, State.completeFrame, hinvalid]
  exact congrArg _ (State.withReceiver_settle hs .hunt)

/-- The completion of a frame does not rest on where the receiver stands. -/
theorem exec_frame_withReceiver (f : RawFrame) (r : Receiver) (hop : s.part.op ≠ .starting) :
    exec (.frameComplete f) (s.withReceiver r) = exec (.frameComplete f) s := by
  change finish _ = finish _
  rw [if_neg hop, if_neg (show (s.withReceiver r).part.op ≠ .starting from hop)]
  rfl

theorem awaitRest_nil (n c : Byte) :
    awaitRest n c [] = if n.toNat = 0 then .check n c [] none else .payload n c [] := by
  unfold awaitRest
  by_cases h : n.toNat = 0
  · simp [h]
  · rw [if_neg h, List.length_nil, if_pos (Nat.pos_of_ne_zero h)]

theorem awaitRest_concat (n k c : Byte) (got : List Byte) :
    awaitRest n k (got ++ [c])
      = if got.length + 1 < n.toNat then .payload n k (got ++ [c]) else .check n k (got ++ [c]) none := by
  simp [awaitRest]

end

/-- Settles O6: each receiver state by what it makes of a character. -/
theorem receiverFollowsCharacters : Obligations.ReceiverFollowsCharacters := by
  intro s hs hunts
  have hsilent : exec .receiveSilence s = .next hunts := congrArg _ (State.withReceiver_settle hs .hunt)
  have hstays : s.settle = s := (State.settled_iff s).1 hs
  refine ⟨hsilent, hsilent, fun hop => ⟨fun c => ?_, fun f => ?_⟩, fun hop f hf => exec_frame_invalid hs hop hf,
    fun hop c => ?_⟩
  · change finish _ = _
    rw [if_pos hop, finish, hstays]
  · change finish _ = _
    rw [if_pos hop, finish, hstays]
  · have hmoves {r : Receiver} (htake : s.link.receiver.take c = .state r) := exec_character_moves hs hop htake
    refine ⟨fun h => hmoves ?_, fun h => hmoves ?_, fun h => hmoves ?_, fun n h => hmoves ?_, fun n k got h => hmoves ?_,
      fun n k p h => hmoves ?_, fun n k p a h => ?_⟩
    · rw [h]; rfl
    · rw [h]; rfl
    · rw [h]; rfl
    · rw [h, ← awaitRest_nil]; rfl
    · rw [h, ← awaitRest_concat]; rfl
    · rw [h]; rfl
    · have hcompletes := exec_character_completes hop (s := s) (c := c) (f := ⟨n, k, p, a ++ c⟩) (by rw [h]; rfl)
      exact ⟨hcompletes, fun hcheck => hcompletes.trans (exec_frame_invalid hs hop hcheck)⟩

/-! ### The characters of a whole frame -/

section
variable {s : State}

theorem State.receive_moves (hs : s.settled) (hop : s.part.op ≠ .starting) {r r' : Receiver} {c : Byte}
    (htake : r.take c = .state r') : (s.withReceiver r).receive c = s.withReceiver r' := by
  unfold State.receive State.command
  rw [exec_character_moves (s := s.withReceiver r) hs hop htake]
  rfl

/-- The rest of a payload is gathered, and the check is awaited. -/
theorem State.receiveAll_payload (hs : s.settled) (hop : s.part.op ≠ .starting) (n k : Byte) (got rest : List Byte)
    (hlength : got.length + rest.length = n.toNat) :
    (s.withReceiver (awaitRest n k got)).receiveAll rest = s.withReceiver (.check n k (got ++ rest) none) := by
  induction rest generalizing got with
  | nil =>
    have hdone : ¬got.length < n.toNat := by simp at hlength; omega
    simp [State.receiveAll, awaitRest, hdone]
  | cons c rest ih =>
    have hmore : got.length < n.toNat := by simp at hlength; omega
    have hstep : (s.withReceiver (awaitRest n k got)).receive c = s.withReceiver (awaitRest n k (got ++ [c])) := by
      rw [show awaitRest n k got = .payload n k got from if_pos hmore]
      exact State.receive_moves hs hop rfl
    have hrest := ih (got ++ [c]) (by simp at hlength ⊢; omega)
    rw [List.append_assoc, List.singleton_append] at hrest
    rw [← hrest, ← hstep]
    rfl

end

theorem checkBytes_append (c : BitVec 16) : c.extractLsb' 8 8 ++ c.extractLsb' 0 8 = c := by
  rw [BitVec.extractLsb'_append_extractLsb'_eq_extractLsb' (by rfl)]
  exact BitVec.extractLsb'_eq_self

/-- Settles O5: the sync pair, length, kind and payload are taken one after the other, and the second check byte
completes the frame. -/
theorem frameCharactersCompleteFrame : Obligations.FrameCharactersCompleteFrame := by
  intro s kind payload hop hs hhunt hlength
  have hn : (byte payload.length).toNat = payload.length := by
    simp only [byte, BitVec.toNat_ofNat]
    omega
  have hstart : s = s.withReceiver .hunt := by
    unfold State.withReceiver
    rw [← hhunt]
  set check := crc (checkedBytes kind payload) with hcheck
  have hhead : s.receiveAll [0xA6, 0x59, byte payload.length, kind]
      = s.withReceiver (awaitRest (byte payload.length) kind []) := by
    conv_lhs => rw [hstart]
    simp only [State.receiveAll, List.foldl_cons, List.foldl_nil]
    rw [State.receive_moves hs hop (r' := .sync) rfl, State.receive_moves hs hop (r' := .length) rfl,
      State.receive_moves hs hop (r' := .kind (byte payload.length)) (by simp [Receiver.take, hn, hlength]),
      State.receive_moves hs hop rfl]
  have hpayload := State.receiveAll_payload hs hop (byte payload.length) kind [] payload (by simp [hn])
  obtain ⟨u, hu⟩ := exec_finishes (.frameComplete ⟨byte payload.length, kind, payload, check⟩) s
  have hlast : (s.withReceiver (.check (byte payload.length) kind payload (some (check.extractLsb' 8 8)))).receive
      (check.extractLsb' 0 8) = u.settle := by
    have hcompletes := exec_character_completes
      (s := s.withReceiver (.check (byte payload.length) kind payload (some (check.extractLsb' 8 8)))) hop
      (c := check.extractLsb' 0 8) rfl
    rw [exec_frame_withReceiver _ _ hop, checkBytes_append, hu] at hcompletes
    simp only [State.receive, State.command, hcompletes, finish]
  have hall : s.receiveAll (frameBytes kind payload) = u.settle := by
    have hsplit : frameBytes kind payload
        = [0xA6, 0x59, byte payload.length, kind] ++ (payload ++ [check.extractLsb' 8 8, check.extractLsb' 0 8]) := by
      simp [frameBytes, checkedBytes, checkBytes, hcheck]
    rw [hsplit]
    simp only [State.receiveAll, List.foldl_append] at hhead hpayload ⊢
    rw [hhead, hpayload]
    simp only [List.foldl_cons, List.foldl_nil, List.nil_append]
    rw [State.receive_moves hs hop rfl, hlast]
  rw [hall]
  exact hu

/-! ### The receive buffer (R150, R151, R154) -/

/-- A report raised changes the Link Unit alone. -/
theorem State.raise_eq (b : Body) (s : State) : s.raise b = { s with link := (s.raise b).link } := by
  unfold State.raise
  split <;> rfl

theorem State.raise_buffer (b : Body) (s : State) : (s.raise b).link.buffer = s.link.buffer :=
  (s.raise_within b).link.buffer

/-- Settles O8: the completion of a valid frame is its mark of the host's presence and its place in the buffer. -/
theorem validFrameIsBuffered : Obligations.ValidFrameIsBuffered := by
  refine ⟨fun s => by simp [State.readyOutput], ?_⟩
  intro s f hop hlength hmax hcheck frame up back
  have hvalid : frameValid f = true := by simp [frameValid, frameCheck, hlength, hmax, hcheck]
  have hback : State.hostPresent (s.onLink fun l => { l with receiver := .hunt }) = back := by
    simp only [State.hostPresent, back, up]
    rfl
  have hframe : back = { s with link := back.link } := by
    simp only [back]
    split
    · rfl
    · exact State.raise_eq _ _
  have hbuffer : back.link.buffer = s.link.buffer := by
    simp only [back]
    split
    · rfl
    · exact State.raise_buffer _ _
  have hplace : s.completeFrame f = { s with link := Link.place frame back.link } := by
    rw [State.completeFrame, hvalid, if_pos rfl, hback]
    conv_lhs => rw [hframe]
    rfl
  change finish _ = _
  rw [if_neg hop, hplace, finish]
  congr 3
  rw [← hbuffer]
  generalize back.link = l
  rcases l with ⟨receiver, _ | ⟨g, _ | ⟨g', rest⟩⟩⟩
  · exact Link.serveFrame_eq _ _
  · rfl
  · rfl

/-! ### STORE (R163) -/

theorem State.snapshot_isConfiguration (s : State) : IsConfiguration s.snapshot s := by
  constructor <;> simp [State.snapshot]

/-- In STARTING, or during a STORE write, a request is passed over. -/
theorem exec_request_waits {c : Instr} {frame : Byte × List Byte} {s : State} (hc : encodeRequest c = some frame)
    (h : s.takesRequests = false) : exec c s = .next s.settle := by
  by_cases hstore : c = .store
  · subst hstore
    change finish _ = _
    rw [h]
    rfl
  · obtain ⟨act, hact⟩ := exec_eq_request hc hstore s
    exact (hact).trans (request_waits h)

/-- Settles O16: what STORE snapshots, that requests wait, and what the end of the write leaves. -/
theorem storeWritesSnapshot : Obligations.StoreWritesSnapshot := by
  refine ⟨fun s htakes => ⟨s.snapshot, s.snapshot_isConfiguration, ?_⟩, fun c frame s hc h => ?_,
    fun s w verified hw => ?_⟩
  · change finish _ = _
    rw [if_pos htakes, finish, State.takeHanded_eq]
    by_cases hhanded : s.link.handed = some .store
    · simp only [State.inService, hhanded, beq_self_eq_true, if_true, decide_true]
      rfl
    · simp only [State.inService, hhanded, beq_eq_decide, decide_false, if_false]
      rfl
  · refine exec_request_waits hc ?_
    obtain h | h := h
    · simp [State.takesRequests, h]
    · simp [State.takesRequests, Option.isSome_iff_ne_none.2 h]
  · change finish _ = _
    rw [hw]
    rfl

end Sys2Proof.Machine
end

section
/-! A step runs the front command, or the part goes on by itself (assumption log, entry 5). -/

namespace Sys2Proof.Machine

/-! ### What is due -/

theorem firstDue_eq {n : Nat} {test : Fin n → Bool} {p : Fin n → Prop} [DecidablePred p]
    (h : ∀ k, test k = true ↔ p k) (c : Fin n → Instr) : firstDue test c = (whereTrue p c).head? := by
  have htest : test = fun k => decide (p k) := funext fun k => Bool.eq_iff_iff.2 (by rw [h, decide_eq_true_iff])
  rw [firstDue, whereTrue, List.head?_map, htest, List.head?_filter]

theorem dueIf_eq {b : Bool} {p : Prop} [Decidable p] (h : b = true ↔ p) (c : Instr) :
    dueIf b c = (noticeIf p [c]).head? := by
  unfold dueIf noticeIf
  by_cases hp : p
  · simp [hp, h.2 hp]
  · simp [hp, mt h.1 hp]

theorem timer_due_iff (t : Timer) : Timer.due t = true ↔ t = some 0 := by simp [Timer.due]

/-- A line settles that is timed, differs, and has differed for the filter time (R54). -/
theorem Line.settlesAt_iff (filter : Nat) (l : Line) :
    l.settlesAt filter = true ↔ l.high ≠ l.settled ∧ ∃ k ∈ l.timing, filter ≤ k := by
  cases ht : l.timing <;> simp [Line.settlesAt, Line.timed, ht]

theorem Air.sampleDue_iff (a : Air) : a.sampleDue = true ↔ ∃ c ∈ a.clock, c.left = some 0 := by
  cases hc : a.clock <;> simp [Air.sampleDue, hc, timer_due_iff]

theorem Budget.capDue_iff (b : Budget) : b.capDue = true ↔ ∃ c ∈ b.cap, c.span = .minutes 0 := by
  unfold Budget.capDue
  split
  · next hcap => simp [hcap]
  · next hcap =>
    simp only [Bool.false_eq_true, false_iff, not_exists, not_and]
    rintro ⟨v, _ | n⟩ hc hspan
    · cases hspan
    · cases hspan
      exact hcap v (by simpa using hc)

/-- The first command there is among the heads of some lists is the head of the lists put together. -/
theorem findSome?_heads {α : Type} (ls : List (List α)) :
    ((ls.map List.head?).findSome? fun o => o) = ls.flatten.head? := by
  rw [List.findSome?_map, List.head?_flatten]
  rfl

/-- The first expiry that is due is the first of those whose time has run out. -/
theorem State.due_eq (s : State) : ((s.unitsDue ++ s.siteDue).findSome? fun o => o) = s.expiries.head? := by
  simp only [State.unitsDue, State.siteDue, firstDue_eq fun n => Line.settlesAt_iff s.doors.filter (s.doors.lines.get n),
    firstDue_eq fun n => timer_due_iff (s.doors.doors.get n).dwell,
    firstDue_eq fun n => timer_due_iff (s.readings.sensors.get n).quiet,
    firstDue_eq fun n => timer_due_iff (s.readings.sensors.get n).due,
    firstDue_eq fun z => timer_due_iff (s.air.zones.get z).hold,
    firstDue_eq fun z => timer_due_iff (s.heat.zones.get z).hold,
    firstDue_eq fun n => timer_due_iff (s.loads.get n).minOff,
    dueIf_eq s.air.sampleDue_iff, dueIf_eq s.budget.capDue_iff, dueIf_eq (timer_due_iff _), List.cons_append,
    List.nil_append]
  refine (findSome?_heads [_, _, _, _, _, _, _, _, _, _, _, _, _]).trans ?_
  simp only [State.expiries, List.flatten_cons, List.flatten_nil, List.append_nil, List.append_assoc]

/-- What an idle part takes: the request handed to its block, else the first notice in flight, else the first expiry. -/
theorem State.waiting_eq (s : State) :
    s.waiting = match s.handedDue, s.inFlight, s.expiries with
      | some request, _, _ => some request
      | none, first :: _, _ => some first.notice
      | none, [], expiry :: _ => some expiry
      | none, [], [] => none := by
  have hdue := s.due_eq
  rw [State.waiting, List.append_assoc, List.findSome?_append, hdue]
  cases s.handedDue <;> cases s.inFlight <;> cases s.expiries <;> rfl

/-! ### A tenth of a second -/

theorem Timer.countDown_eq (t : Timer) : t.countDown = tenthLater t := by cases t <;> rfl

theorem State.timersTenth_eq (s : State) : s.timersTenth = s.timersRun := by
  simp only [State.timersTenth, State.timersRun, Doors.tenth, Readings.tenth, Air.tenth, Heat.tenth, Budget.tenth,
    Link.tenth, Timer.countDown_eq]
  rfl

/-- A tenth of a second passes at the timers, and then at the clock (R20). -/
theorem State.tick_eq (s : State) : s.tick = s.timersRun.clockTenth.settle := by rw [State.tick, s.timersTenth_eq]

/-- Settles O1: the front command, else what waits, else a tenth of a second. -/
theorem stepRunsFrontCommand : Obligations.StepRunsFrontCommand := by
  refine ⟨fun c rest s => rfl, ?_⟩
  intro s hpending c passes
  have hidle : step s = match s.waiting with | some c => exec c s | none => .next s.tick := by
    unfold step
    rw [hpending]
    rfl
  have hhanded : (if s.part.op ≠ .starting ∧ s.store.write = none then s.link.handed else none) = s.handedDue := by
    have htakes : s.takesRequests = true ↔ s.part.op ≠ .starting ∧ s.store.write = none := by
      simp [State.takesRequests]
    simp only [State.handedDue, htakes]
  rw [s.waiting_eq] at hidle
  rw [hhanded]
  split
  · next hreq => rw [hidle, hreq]
  · next hreq hflight => rw [hidle, hreq, hflight]
  · next hreq hflight hexp => rw [hidle, hreq, hflight, hexp]
  · next hreq hflight hexp =>
    rw [hreq, hflight, hexp] at hidle
    have hcalendar : s.timersRun.calendar = c := rfl
    simp only [passes, hidle, s.tick_eq, State.clockTenth, hcalendar]
    split
    · rfl
    · split
      · rfl
      · rfl

end Sys2Proof.Machine
end

section
/-! SUPPORT. The Calendar Unit's events: the lookahead taken afresh, the shift boundary, and a resync (R37 to R43). -/

namespace Sys2Proof.Machine

/-! ### The lookahead (R42, R43) -/

theorem ceilDiv_bounds (n : Nat) {d : Nat} (hd : 0 < d) : n ≤ d * ceilDiv n d ∧ d * ceilDiv n d < n + d := by
  unfold ceilDiv
  have hmod := Nat.mod_add_div (n + (d - 1)) d
  have hlt := Nat.mod_lt (n + (d - 1)) hd
  omega

theorem Calendar.lookaheadMinutes_hold (c : Calendar) : LookaheadMinutes c c.lookaheadMinutes := by
  unfold LookaheadMinutes Calendar.lookaheadMinutes
  cases c.cursor with
  | none => trivial
  | some x =>
    cases x with
    | inShift row left stack => rfl
    | waiting =>
      cases c.anchor with
      | none => trivial
      | some a =>
        dsimp only [anchorSeconds, Calendar.seconds]
        obtain ⟨hlow, hhigh⟩ := ceilDiv_bounds (a.day * 86400 + a.minute * 60 - (c.day * 86400 + c.second))
          (d := 60) (by omega)
        split <;> omega

theorem Calendar.takeLookahead_profile {c : Calendar} (hcursor : c.cursor ≠ none) {row left : Nat}
    {stack : List LoopFrame} (hnext : c.nextCursor = some (.inShift row left stack)) :
    c.takeLookahead.lookahead.map (fun l => l.profile)
      = Machine.shiftProfile? (if c.committed then c.pendingTable else c.active) row := by
  have hrotating : c.rotating = true := Option.isSome_iff_ne_none.2 hcursor
  simp only [Calendar.takeLookahead, hrotating, if_true, Calendar.nextProfile?, hnext, Option.bind_some, Option.map_map]
  exact Option.map_id'

theorem Calendar.takeLookahead_taken (c : Calendar) : LookaheadTaken c.takeLookahead where
  stopped h := by
    have hstopped : c.rotating = false := by simp [Calendar.rotating, show c.cursor = none from h]
    simp [Calendar.takeLookahead, hstopped]
  committed hcursor hcommitted row left stack hwalk := by
    have hnext : c.nextCursor = some (.inShift row left stack) := (if_pos hcommitted).trans hwalk
    have hclosed : c.committed = true := hcommitted
    exact (Calendar.takeLookahead_profile (c := c) hcursor hnext).trans (by rw [hclosed]; rfl)
  waiting hcursor hcommitted row left stack hwalk := by
    have hwaiting : c.cursor = some .waiting := hcursor
    have hopen : c.committed = false := hcommitted
    have hnext : c.nextCursor = some (.inShift row left stack) := by
      simp only [Calendar.nextCursor, hopen, hwaiting]
      exact hwalk
    exact (Calendar.takeLookahead_profile (by simp [hwaiting]) hnext).trans (by rw [hopen]; rfl)
  inShift row left stack hcursor hcommitted row' left' stack' hwalk := by
    have hshift : c.cursor = some (.inShift row left stack) := hcursor
    have hopen : c.committed = false := hcommitted
    have hnext : c.nextCursor = some (.inShift row' left' stack') := by
      simp only [Calendar.nextCursor, hopen, hshift]
      exact hwalk
    exact (Calendar.takeLookahead_profile (by simp [hshift]) hnext).trans (by rw [hopen]; rfl)
  minutes l hl := by
    have hminutes : l.minutes = c.lookaheadMinutes := by
      simp only [Calendar.takeLookahead] at hl
      split at hl
      · obtain ⟨p, _, rfl⟩ := Option.map_eq_some_iff.1 hl
        rfl
      · cases hl
    rw [hminutes]
    exact c.lookaheadMinutes_hold

theorem Calendar.takeLookahead_eq (c : Calendar) :
    c.takeLookahead = { c with lookahead := c.takeLookahead.lookahead } := rfl

/-- The lookahead has no part in the profiles in force. -/
theorem ProfilesHold.takeLookahead {c : Calendar} (h : ProfilesHold c) : ProfilesHold c.takeLookahead :=
  ⟨h.site, h.inForce⟩

/-- The calendar with its profiles worked out and its lookahead taken afresh. -/
def Calendar.refreshed (c : Calendar) : Calendar := c.settled.takeLookahead

theorem Calendar.refreshed_hold (c : Calendar) : ProfilesHold c.refreshed := c.settled_hold.takeLookahead

theorem Calendar.refreshed_taken (c : Calendar) : LookaheadTaken c.refreshed := c.settled.takeLookahead_taken

theorem Calendar.refreshed_eq (c : Calendar) :
    c.refreshed =
      { c with
        lookahead := c.refreshed.lookahead, inForce := c.refreshed.inForce, siteProfile := c.refreshed.siteProfile } :=
  rfl

/-! ### The shift boundary (R32, R40, R41) -/

/-- The calendar at a shift boundary before profiles and lookahead: overrides until the boundary are gone, and a
committed table is adopted. -/
def Calendar.atBoundary (c : Calendar) : Calendar :=
  { c with
    active := if c.committed then c.pendingTable else c.active
    committed := false
    anchor := if c.committed then some ⟨c.day, c.second / 60⟩ else c.anchor
    cursor := if c.committed then walk c.pendingTable 0 [] else c.cursor
    overrides := c.overrides.map endAtBoundary }

theorem Calendar.boundary_eq (minute : Bool) (c : Calendar) :
    c.boundary minute =
      { calendar := c.atBoundary.refreshed
        draft := some
          { head := c.atBoundary.refreshed.boundaryHead, air := none, doors := none
            adopted := if c.committed then c.atBoundary.refreshed.anchor else none }
        minute := minute, look := true } := by
  unfold Calendar.boundary Calendar.atBoundary Calendar.refreshed
  cases c.committed <;> simp [Calendar.adoptAtBoundary, Calendar.adoptNow, Calendar.nowAnchor]

theorem endAtBoundary_eq (o : Option Override) :
    endAtBoundary o = match o with
      | some ⟨p, .minutes n⟩ => some ⟨p, .minutes n⟩
      | _ => none := by
  obtain _ | ⟨p, _ | n⟩ := o <;> rfl

section
variable {s : State}

theorem State.calendarEvent_drafts_run (h : s.part.op = .run) (e : CalendarEvent) :
    (s.calendarEvent e).drafts = s.drafts ++ e.draft.toList := by
  rw [State.calendarEvent_drafts, if_pos (s.running_iff.2 h)]

theorem State.calendarEvent_drafts_quiet {e : CalendarEvent} (h : e.draft = none) :
    (s.calendarEvent e).drafts = s.drafts := by
  rw [State.calendarEvent_drafts, h]
  simp

/-- An event without a BOUNDARY report changes calendar and notices alone. -/
theorem State.calendarEvent_onlyChanges_quiet {e : CalendarEvent} (h : e.draft = none) :
    s.onlyChanges (s.calendarEvent e) [.calendar, .inFlight] := by
  intro region hregion
  by_cases hdrafts : region = .drafts
  · rw [hdrafts]
    exact State.calendarEvent_drafts_quiet h
  · exact State.calendarEvent_onlyChanges _ s region (by simp_all)

/-- What a minute expiry gives first. -/
def minuteNotice (minute : Bool) : List Instr := if minute then [.airMinuteExpiryNotice] else []

theorem Calendar.boundary_others (minute : Bool) (c : Calendar) :
    (c.boundary minute).others = minuteNotice minute
      ++ [.airShiftBoundary, .heatShiftBoundary, .doorShiftBoundary,
        .lookaheadNotice (c.boundary minute).calendar.lookahead] := by
  rw [CalendarEvent.others, Calendar.boundary_eq]
  exact List.append_assoc _ _ _

theorem Calendar.boundaryHead_inShift {c : Calendar} {row left : Nat} {stack : List LoopFrame}
    (h : c.cursor = some (.inShift row left stack)) :
    c.boundaryHead.row = some row ∧ c.boundaryHead.crew = crewOf c.active row := by
  simp [Calendar.boundaryHead, h]

theorem Calendar.boundaryHead_waiting {c : Calendar} (h : c.cursor = some .waiting) :
    c.boundaryHead.row = none ∧ c.boundaryHead.crew = 0 := by
  simp [Calendar.boundaryHead, h]

/-- A shift boundary of the Calendar Unit in RUN has all the actions of one. -/
theorem State.shiftBegins (h : s.part.op = .run) (minute : Bool) (c : Calendar) :
    ShiftBegins s c (s.calendarEvent (c.boundary minute)) (minuteNotice minute) where
  calendar := by
    rw [State.calendarEvent_calendar, Calendar.boundary_eq]
    rfl
  overrides z := by
    rw [State.calendarEvent_calendar, Calendar.boundary_eq]
    exact (Table.get_map _ _ _).trans (endAtBoundary_eq _)
  profiles := by
    have hfollow := s.calendarEvent_profilesFollow (e := c.boundary minute) (by
      rw [Calendar.boundary_eq]
      exact Calendar.refreshed_hold _)
    rw [State.calendarEvent_calendar]
    rwa [Calendar.boundary_others] at hfollow
  lookahead := by
    rw [State.calendarEvent_calendar, Calendar.boundary_eq]
    exact Calendar.refreshed_taken _
  report := by
    rw [State.calendarEvent_drafts_run h, State.calendarEvent_calendar, Calendar.boundary_eq]
    refine ⟨_, rfl, rfl, rfl, rfl, rfl, rfl, rfl, fun row left stack hcursor => ?_,
      fun hcursor => Calendar.boundaryHead_waiting hcursor⟩
    obtain ⟨hrow, hcrew⟩ := Calendar.boundaryHead_inShift hcursor
    refine ⟨hrow, fun p n crew hactive => hcrew.trans ?_⟩
    simp only [crewOf, hactive]

/-! ### A resync (R37, R38) -/

theorem Cursor.position_eq_iff (x y : Cursor) : x.position = y.position ↔ SamePosition x y := by
  cases x with
  | waiting => cases y <;> simp [Cursor.position, SamePosition]
  | inShift row left stack =>
    cases y with
    | waiting => simp [Cursor.position, SamePosition]
    | inShift row' left' stack' =>
      simp [Cursor.position, SamePosition, eq_comm (a := row'), eq_comm (a := stack')]

theorem Calendar.placed_of_placedAt {c : Calendar} {x : Cursor} (h : PlacedAt c x) : c.placed = some x := by
  obtain ⟨a, ha, hbefore, hafter⟩ := h
  unfold Calendar.placed
  rw [ha]
  dsimp only
  split
  · next hlt => rw [hbefore hlt]
  · next hle => exact hafter hle

/-- A resync that does not move the cursor: profiles and lookahead follow. -/
def Calendar.quietResync (c : Calendar) : CalendarEvent :=
  { calendar := Calendar.refreshed { c with cursor := c.placed }, draft := none, minute := false, look := true }

theorem Calendar.resync_stays {c : Calendar} {x : Cursor} (hx : c.placed = some x)
    (hstays : c.cursor = none ∨ ∃ y, c.cursor = some y ∧ SamePosition y x) : c.resync = c.quietResync := by
  unfold Calendar.resync
  obtain hnone | ⟨y, hy, hsame⟩ := hstays
  · rw [hnone]
    rfl
  · simp only [hy, hx, if_pos ((Cursor.position_eq_iff _ _).2 hsame)]
    rw [← hx]
    rfl

theorem Calendar.resync_moves {c : Calendar} {x : Cursor} (hx : c.placed = some x)
    (hmoves : ¬(c.cursor = none ∨ ∃ y, c.cursor = some y ∧ SamePosition y x)) :
    c.resync = Calendar.boundary false { c with cursor := some x } := by
  unfold Calendar.resync
  cases hy : c.cursor with
  | none => exact absurd (.inl hy) hmoves
  | some y =>
    have hdiffers : y.position ≠ x.position := fun h =>
      hmoves (.inr ⟨y, hy, (Cursor.position_eq_iff _ _).1 h⟩)
    simp only [hx, if_neg hdiffers]

theorem Calendar.quietResync_others (c : Calendar) :
    c.quietResync.others = [.lookaheadNotice c.quietResync.calendar.lookahead] := rfl

theorem State.resynced (h : s.part.op = .run) (c : Calendar) : Resynced s c (s.calendarEvent c.resync) := by
  intro x hplaced
  have hx := Calendar.placed_of_placedAt hplaced
  refine ⟨fun hstays => ?_, fun hmoves => ?_⟩
  · rw [Calendar.resync_stays hx hstays]
    have hfollow := s.calendarEvent_profilesFollow (e := c.quietResync) (Calendar.refreshed_hold _)
    refine ⟨?_, ?_, ?_, State.calendarEvent_drafts_quiet rfl⟩
    · rw [State.calendarEvent_calendar, Calendar.quietResync, hx]
      rfl
    · rw [State.calendarEvent_calendar]
      exact Calendar.refreshed_taken _
    · rwa [Calendar.quietResync_others, ← State.calendarEvent_calendar (s := s)] at hfollow
  · rw [Calendar.resync_moves hx hmoves]
    exact s.shiftBegins h false _

theorem partRows_ne_nil_iff (t : Table 24 Row) : partRows t ≠ [] ↔ ∃ r, t.get r ≠ .empty := by
  rw [partRows, ne_eq, List.rdropWhile_eq_nil_iff]
  simp only [Table.entries_eq, List.mem_map, List.mem_finRange, true_and, forall_exists_index,
    forall_apply_eq_imp_iff, decide_eq_true_eq, not_forall]

theorem Calendar.canRotate_iff (c : Calendar) : c.canRotate = true ↔ CanRotate c := by
  rw [Calendar.canRotate, CanRotate, Bool.and_eq_true, Bool.and_eq_true, holdsRotation_iff, partRows_ne_nil_iff,
    Bool.not_eq_true', Option.isSome_iff_ne_none, and_assoc]

theorem Calendar.resyncIf_rotates (c : Calendar) (h : CanRotate c) : Calendar.resyncIf true c = c.resync := by
  simp [Calendar.resyncIf, (Calendar.canRotate_iff c).2 h]

/-- An event that changes neither a profile in force nor the site profile, and gives no lookahead, gives nothing. -/
theorem State.calendarEvent_plain {c : Calendar} (hinForce : c.inForce = s.calendar.inForce)
    (hsite : c.siteProfile = s.calendar.siteProfile) : s.calendarEvent (.plain c) = { s with calendar := c } := by
  unfold State.calendarEvent
  split
  · simp [State.calendarNotices, State.profileNotices, siteNotices, CalendarEvent.plain, hinForce, hsite, State.give]
  · rfl

end

end Sys2Proof.Machine
end

section
/-! The default profile and timed overrides, the end of a shift, plans and the anchor (chapter 2). -/

namespace Sys2Proof.Machine

/-! ### Requests that are an event of the Calendar Unit -/

section
variable {s : State}

/-- A request that answers OK with some fields and is an event of the Calendar Unit. -/
theorem completes_of_calendarEvent {c : Instr} {act : State → State × Answer} {fields : List Byte} {e : CalendarEvent}
    (hexec : exec c s = request c act s) (htakes : s.takesRequests = true)
    (hact : act (s.takeHanded c) = ((s.takeHanded c).calendarEvent e, ⟨.ok, fields⟩)) :
    Completes c .ok fields s (s.calendarEvent e) := by
  rw [State.calendarEvent_takeHanded] at hact
  obtain ⟨t, ht, hreply, hframe⟩ := request_replied (b := s.calendarEvent e) htakes hact
    (by rw [State.calendarEvent_part]; exact State.operating_of_takes htakes)
    (by simp [State.inService])
  exact ⟨t, hexec.trans ht, hreply, hframe⟩

/-! ### SET-CALENDAR and the expiry of an override (R26, R46) -/

theorem State.resettle_profilesFollow (c : Calendar) (s : State) : ProfilesFollow s (s.resettle c) [] :=
  State.calendarEvent_profilesFollow s (Calendar.settled_hold _)

theorem setCalendar_badField (htakes : s.takesRequests = true) {k : Nat} (hk : 8 ≤ k) :
    AnswersOnly (.setCalendar k) .badField [] s := by
  have hexec : exec (.setCalendar k) s = execSetCalendar k s := rfl
  refine answersOnly_of_refuse (hexec.trans rfl) htakes ?_
  rw [number?_eq_none hk]

theorem setCalendar_accepted (htakes : s.takesRequests = true) (p : ProfileNo) :
    Completes (.setCalendar p) .ok [] s (s.resettle { s.calendar with defaultProfile := p }) := by
  have hexec : exec (.setCalendar p) s = execSetCalendar p s := rfl
  refine completes_of_calendarEvent (hexec.trans rfl) htakes ?_
  simp only [number?_val, State.takeHanded_calendar]
  rfl

theorem exec_overrideExpiry_timed (hop : s.part.op = .run) {z : Zone} {p : ProfileNo} {n : Nat}
    (h : s.calendar.overrides.get z = some ⟨p, .minutes n⟩) :
    exec (.overrideExpiry z) s = .next (s.resettle (s.calendar.withOverride z none)).settle := by
  have hexec : exec (.overrideExpiry z) s = execOverrideExpiry z s := rfl
  rw [hexec, execOverrideExpiry, runEvent_run (s.running_iff.2 hop), h]
  rfl

/-- Settles O32: SET-CALENDAR and the expiry each work the profiles out from a calendar that differs in one field. -/
theorem defaultProfileAndExpiryAreFollowed : Obligations.DefaultProfileAndExpiryAreFollowed := by
  intro s
  refine ⟨fun htakes => ⟨fun k => setCalendar_badField htakes, fun p => ?_⟩, fun z p n hop h => ?_⟩
  · refine ⟨_, setCalendar_accepted htakes p, State.resettle_onlyChanges _ _, State.resettle_profilesFollow _ _, ?_⟩
    rw [State.resettle, State.calendarEvent_calendar]
    rfl
  · refine ⟨_, exec_overrideExpiry_timed hop h, State.resettle_onlyChanges _ _, State.resettle_profilesFollow _ _, ?_⟩
    rw [State.resettle, State.calendarEvent_calendar]
    rfl

/-! ### The end of a shift (R35, R40) -/

theorem exec_shiftEnd (hop : s.part.op = .run) :
    exec .shiftEnd s = .next (if s.calendar.shiftCanEnd then s.calendarEvent (s.calendar.endShift false)
      else s).settle := by
  have hexec : exec .shiftEnd s = execShiftEnd s := rfl
  rw [hexec, execShiftEnd, runEvent_run (s.running_iff.2 hop)]

theorem shiftEnd_begins (hop : s.part.op = .run) (hends : s.calendar.shiftCanEnd = true) :
    LeadsTo .shiftEnd s [.calendar, .drafts, .inFlight] fun b =>
      ShiftBegins s { s.calendar with cursor := s.calendar.advanced } b [] := by
  refine ⟨_, by rw [exec_shiftEnd hop, if_pos hends], s.calendarEvent_onlyChanges _, ?_⟩
  exact s.shiftBegins hop false _

theorem Calendar.atAnchor_iff {c : Calendar} {a : Anchor} (ha : c.anchor = some a) :
    c.atAnchor = true ↔ c.day = a.day ∧ c.second / 60 = a.minute := by
  simp [Calendar.atAnchor, ha]

/-- Settles O34: a shift that ends, or a wait at its minute, is a shift boundary; elsewhere nothing happens. -/
theorem shiftEndIsBoundary : Obligations.ShiftEndIsBoundary := by
  intro s hop c begins
  have hbegins {x : Option Cursor} (hends : c.shiftCanEnd = true) (hx : c.advanced = x) : begins x := by
    subst hx
    exact shiftEnd_begins hop hends
  refine ⟨fun row left stack hcursor => hbegins ?_ ?_, fun a hcursor ha => ⟨fun hday hminute => hbegins ?_ ?_,
    fun hother => ?_⟩⟩
  · simp only [Calendar.shiftCanEnd, hcursor]
  · simp only [Calendar.advanced, hcursor]
  · simp only [Calendar.shiftCanEnd, hcursor, (Calendar.atAnchor_iff ha).2 ⟨hday, hminute⟩]
  · simp only [Calendar.advanced, hcursor]
  · have hstays : ¬c.shiftCanEnd = true := by
      simp only [Calendar.shiftCanEnd, hcursor]
      exact mt (Calendar.atAnchor_iff ha).1 hother
    rw [exec_shiftEnd hop, if_neg hstays]

/-! ### The anchor (R36 to R38) -/

/-- After a change of the calendar that leaves the profiles, where no rotation can run nothing else follows. -/
theorem State.calendarEvent_resyncIf_stays {c : Calendar} (h : ¬(s.part.op = .run ∧ CanRotate c))
    (hinForce : c.inForce = s.calendar.inForce) (hsite : c.siteProfile = s.calendar.siteProfile) :
    s.calendarEvent (Calendar.resyncIf s.running c) = { s with calendar := c } := by
  have hno : ¬((s.running && c.canRotate) = true) := by
    rw [Bool.and_eq_true, s.running_iff, Calendar.canRotate_iff]
    exact h
  rw [Calendar.resyncIf, if_neg hno, State.calendarEvent_plain hinForce hsite]

/-- Where a rotation can run a resync follows. -/
theorem State.calendarEvent_resyncIf_resyncs {c : Calendar} (hop : s.part.op = .run) (h : CanRotate c) :
    s.calendarEvent (Calendar.resyncIf s.running c) = s.calendarEvent c.resync := by
  rw [s.running_iff.2 hop, Calendar.resyncIf_rotates c h]

theorem planAnchor_badField (htakes : s.takesRequests = true) {day minute : Nat}
    (h : 65535 < day ∨ 1439 < minute) : AnswersOnly (.planAnchor day minute) .badField [] s := by
  have hexec : exec (.planAnchor day minute) s = execPlanAnchor day minute s := rfl
  refine answersOnly_of_refuse (hexec.trans rfl) htakes ?_
  rw [if_pos h]

theorem planAnchor_accepted (htakes : s.takesRequests = true) {day minute : Nat} (hday : day ≤ 65535)
    (hminute : minute ≤ 1439) :
    Completes (.planAnchor day minute) .ok [] s
      (s.calendarEvent (Calendar.resyncIf s.running { s.calendar with anchor := some ⟨day, minute⟩ })) := by
  have hexec : exec (.planAnchor day minute) s = execPlanAnchor day minute s := rfl
  refine completes_of_calendarEvent (hexec.trans rfl) htakes ?_
  rw [if_neg (by omega), State.takeHanded_running, State.takeHanded_calendar]
  rfl

/-- Settles O30: the anchor is set, and the resync follows where a rotation can run. -/
theorem planAnchorResyncs : Obligations.PlanAnchorResyncs := by
  intro s day minute htakes c
  refine ⟨planAnchor_badField htakes, fun hday hminute => ?_⟩
  have hcompletes := planAnchor_accepted htakes hday hminute
  refine ⟨fun hstays => ?_, fun hop hrotates => ?_⟩
  · rwa [State.calendarEvent_resyncIf_stays hstays rfl rfl] at hcompletes
  · rw [State.calendarEvent_resyncIf_resyncs hop hrotates] at hcompletes
    exact ⟨_, hcompletes, s.calendarEvent_onlyChanges _, s.resynced hop _⟩

/-! ### Plans committed and withdrawn (R29 to R31) -/

/-- A valid plan holds a rotation. -/
theorem exists_row_of_planDetail {t : Table 24 Row} (h : planDetail t = none) : ∃ r, t.get r ≠ .empty := by
  rw [← partRows_ne_nil_iff]
  obtain ⟨_, _, hcycle⟩ := planDetail_eq_none h
  intro hnil
  rw [cycleLength, rowsOf_eq, hnil] at hcycle
  simp [weighedShifts] at hcycle

/-- The lookahead is taken afresh from a calendar that differs in a mark alone, and in RUN it alone is given. -/
def lookaheadEvent (c : Calendar) : CalendarEvent := { CalendarEvent.plain c.takeLookahead with look := true }

theorem State.lookaheadEvent_given (hop : s.part.op = .run) {c : Calendar} (hinForce : c.inForce = s.calendar.inForce)
    (hsite : c.siteProfile = s.calendar.siteProfile) :
    s.gives (s.calendarEvent (lookaheadEvent c)) [.lookaheadNotice c.takeLookahead.lookahead] := by
  refine ⟨_, .refl _, ?_⟩
  have hgiven := State.calendarEvent_given (e := lookaheadEvent c) (s.running_iff.2 hop)
  have hnotices : s.calendarNotices (lookaheadEvent c) = [.lookaheadNotice c.takeLookahead.lookahead] := by
    simp [State.calendarNotices, State.profileNotices, siteNotices, lookaheadEvent, CalendarEvent.plain,
      Calendar.takeLookahead, hinForce, hsite]
  rwa [hnotices] at hgiven

section
variable (htakes : s.takesRequests = true)
include htakes

theorem planCommit_frozen (h : s.calendar.committed = true) : AnswersOnly .planCommit .frozen [] s := by
  have hexec : exec .planCommit s = execPlanCommit s := rfl
  refine answersOnly_of_refuse (hexec.trans rfl) htakes ?_
  simp [h]

theorem planCommit_invalid {d : Nat} (hopen : s.calendar.committed = false)
    (h : planDetail s.calendar.pendingTable = some d) : AnswersOnly .planCommit .planInvalid [byte d] s := by
  have hexec : exec .planCommit s = execPlanCommit s := rfl
  refine completes_of_effect_op (a := ⟨.planInvalid, [byte d]⟩) (effect := id) (hexec.trans rfl) htakes
    (fun _ _ => rfl) (State.operating_of_takes htakes) ?_
  simp [hopen, h]

theorem planCommit_accepted (hopen : s.calendar.committed = false) (h : planDetail s.calendar.pendingTable = none) :
    Completes .planCommit .ok [s.calendar.commitOutcome] s (s.calendarEvent (s.calendar.commit s.running)) := by
  have hexec : exec .planCommit s = execPlanCommit s := rfl
  refine completes_of_calendarEvent (hexec.trans rfl) htakes ?_
  simp [hopen, h]

theorem planWithdraw_notFound (h : s.calendar.committed = false) : AnswersOnly .planWithdraw .notFound [] s := by
  have hexec : exec .planWithdraw s = execPlanWithdraw s := rfl
  refine answersOnly_of_refuse (hexec.trans rfl) htakes ?_
  simp [h]

theorem planWithdraw_accepted (h : s.calendar.committed = true) :
    Completes .planWithdraw .ok [] s (s.calendarEvent (lookaheadEvent { s.calendar with committed := false })) := by
  have hexec : exec .planWithdraw s = execPlanWithdraw s := rfl
  refine completes_of_calendarEvent (hexec.trans rfl) htakes ?_
  simp only [State.takeHanded_calendar, h]
  rfl

end

/-- Settles O29: the checks, then adoption at once with its resync, the commit, or the withdrawal. -/
theorem plansAreCommittedAndWithdrawn : Obligations.PlansAreCommittedAndWithdrawn := by
  intro s htakes c valid taken
  have htaken (d : Calendar) (hinForce : d.inForce = c.inForce) (hsite : d.siteProfile = c.siteProfile) :
      taken d (s.calendarEvent (lookaheadEvent d)) := by
    refine ⟨?_, ?_, fun hop => ?_⟩ <;> rw [State.calendarEvent_calendar]
    · rfl
    · exact d.takeLookahead_taken
    · exact State.lookaheadEvent_given hop hinForce hsite
  have hadopts (hopen : c.committed = false) (hcursor : c.cursor = none) : c.commitOutcome = 0
      ∧ c.commit s.running = Calendar.resyncIf s.running { c with active := c.pendingTable } := by
    simp [Calendar.commitOutcome, Calendar.commit, Calendar.rotating, Calendar.adoptNow, hcursor, hopen]
  have hcommits (hcursor : c.cursor ≠ none) :
      c.commitOutcome = 1 ∧ c.commit s.running = lookaheadEvent { c with committed := true } := by
    have hrotating : c.rotating = true := Option.isSome_iff_ne_none.2 hcursor
    simp [Calendar.commitOutcome, Calendar.commit, hrotating, lookaheadEvent]
  refine ⟨planCommit_frozen htakes, fun d => planCommit_invalid htakes, fun hvalid hcursor hstays => ?_,
    fun hvalid hcursor hop hknown hanchor => ?_, fun hvalid hcursor => ?_, planWithdraw_notFound htakes, fun h => ?_⟩
  · obtain ⟨hopen, hdetail⟩ := hvalid
    have hcompletes := planCommit_accepted htakes hopen hdetail
    obtain ⟨houtcome, hcommit⟩ := hadopts hopen hcursor
    have hno : ¬(s.part.op = .run ∧ CanRotate { c with active := c.pendingTable }) := by
      rintro ⟨hop, hknown, hanchor, _⟩
      obtain h | h | h := hstays
      · exact h hop
      · rw [show c.unknown = false from hknown] at h; cases h
      · exact hanchor h
    rwa [houtcome, hcommit, State.calendarEvent_resyncIf_stays hno rfl rfl] at hcompletes
  · obtain ⟨hopen, hdetail⟩ := hvalid
    have hcompletes := planCommit_accepted htakes hopen hdetail
    obtain ⟨houtcome, hcommit⟩ := hadopts hopen hcursor
    have hrotates : CanRotate { c with active := c.pendingTable } :=
      ⟨hknown, hanchor, exists_row_of_planDetail hdetail⟩
    rw [houtcome, hcommit, State.calendarEvent_resyncIf_resyncs hop hrotates] at hcompletes
    exact ⟨_, hcompletes, s.calendarEvent_onlyChanges _, s.resynced hop _⟩
  · obtain ⟨hopen, hdetail⟩ := hvalid
    have hcompletes := planCommit_accepted htakes hopen hdetail
    obtain ⟨houtcome, hcommit⟩ := hcommits hcursor
    rw [houtcome, hcommit] at hcompletes
    exact ⟨_, hcompletes, State.calendarEvent_onlyChanges_quiet rfl, htaken _ rfl rfl⟩
  · exact ⟨_, planWithdraw_accepted htakes h, State.calendarEvent_onlyChanges_quiet rfl, htaken _ rfl rfl⟩

end

end Sys2Proof.Machine
end

section
/-! A minute expiry, and SET-TIME (chapter 2). -/

namespace Sys2Proof.Machine

/-! ### The clock's next minute (R20) -/

/-- The clock's next minute, its rotation left as it is. -/
def Calendar.minuteLater (c : Calendar) : Calendar :=
  if c.second / 60 + 1 < 1440 then { c with second := 60 * (c.second / 60 + 1), tenth := 0 }
  else { c with day := c.day + 1, second := 0, tenth := 0 }

/-- The clock runs past day 65535 at its next minute. -/
def Calendar.wraps (c : Calendar) : Prop := 1440 ≤ c.second / 60 + 1 ∧ 65535 ≤ c.day

section
variable {c : Calendar}

theorem Calendar.reachMinute_of_not_wraps (h : ¬c.wraps) : c.reachMinute = c.minuteLater := by
  have hminute : (c.second / 60 + 1) * 60 < 86400 ↔ c.second / 60 + 1 < 1440 := by omega
  simp only [Calendar.reachMinute, Calendar.minuteLater, hminute]
  split
  · rw [Nat.mul_comm]
  · next hlate => rw [if_pos (by unfold Calendar.wraps at h; omega)]

theorem Calendar.reachMinute_of_wraps (h : c.wraps) :
    c.reachMinute = { (if c.rotating then c.stopRotation else c) with day := 0, second := 0, tenth := 0, unknown := true } := by
  obtain ⟨hlate, hlast⟩ := h
  simp only [Calendar.reachMinute]
  rw [if_neg (by omega), if_neg (by omega)]

/-- The clock after a minute expiry. -/
theorem Calendar.reachMinute_clock (c : Calendar) :
    (c.second / 60 + 1 < 1440 → c.reachMinute.day = c.day ∧ c.reachMinute.second = 60 * (c.second / 60 + 1))
    ∧ (1440 ≤ c.second / 60 + 1 → c.day < 65535 → c.reachMinute.day = c.day + 1 ∧ c.reachMinute.second = 0)
    ∧ (c.wraps → c.reachMinute.day = 0 ∧ c.reachMinute.second = 0)
    ∧ (c.reachMinute.unknown = true ↔ c.unknown = true ∨ c.wraps) := by
  by_cases hwraps : c.wraps
  · rw [Calendar.reachMinute_of_wraps hwraps]
    obtain ⟨hlate, hlast⟩ := hwraps
    exact ⟨fun h => by omega, fun _ h => by omega, fun _ => ⟨rfl, rfl⟩, by simp [Calendar.wraps, hlate, hlast]⟩
  · rw [Calendar.reachMinute_of_not_wraps hwraps, Calendar.minuteLater]
    refine ⟨fun h => ?_, fun h _ => ?_, fun h => absurd h hwraps, ?_⟩
    · rw [if_pos h]; exact ⟨rfl, rfl⟩
    · rw [if_neg (Nat.not_lt.2 h)]; exact ⟨rfl, rfl⟩
    · split <;> simp [hwraps]

theorem Calendar.minuteLater_eq (c : Calendar) :
    c.minuteLater =
      { c with day := c.minuteLater.day, second := c.minuteLater.second, tenth := 0 } := by
  unfold Calendar.minuteLater
  split <;> rfl

/-- Outside its cursor, tables and lookahead the calendar stays; the profiles in force are not yet worked out. -/
theorem Calendar.reachMinute_profiles (c : Calendar) :
    c.reachMinute.inForce = c.inForce ∧ c.reachMinute.siteProfile = c.siteProfile
      ∧ c.reachMinute.overrides = c.overrides ∧ c.reachMinute.tenth = 0 := by
  by_cases hwraps : c.wraps
  · rw [Calendar.reachMinute_of_wraps hwraps]
    split
    · rw [Calendar.stopRotation_eq]; exact ⟨rfl, rfl, rfl, rfl⟩
    · exact ⟨rfl, rfl, rfl, rfl⟩
  · rw [Calendar.reachMinute_of_not_wraps hwraps, Calendar.minuteLater_eq]
    exact ⟨rfl, rfl, rfl, rfl⟩

/-! ### What a minute expiry counts (R35, R43, R46) -/

/-- The calendar with its timed overrides counted down (R46). -/
def Calendar.counted (c : Calendar) : Calendar := { c with overrides := c.overrides.map countOverride }

/-- A minute expiry that leaves a cursor where it is, or in its shift: the lookahead's minutes follow. -/
def Calendar.goesOn (x : Cursor) (c : Calendar) : CalendarEvent :=
  { calendar := Calendar.settled (Calendar.followLookahead { c.counted with cursor := some x }), draft := none
    minute := true, look := true }

theorem Calendar.countMinute_stopped (h : c.cursor = none) :
    c.countMinute = { CalendarEvent.plain c.counted.settled with minute := true } := by
  simp only [Calendar.countMinute, Calendar.counted, h]

theorem Calendar.countMinute_inShift {row left : Nat} {stack : List LoopFrame}
    (h : c.cursor = some (.inShift row left stack)) :
    c.countMinute =
      if left ≤ 1 then Calendar.boundary true { c.counted with cursor := walk c.active (row + 1) stack }
      else c.goesOn (.inShift row (left - 1) stack) := by
  simp only [Calendar.countMinute, h, Calendar.endShift, Calendar.advanced]
  rfl

theorem Calendar.countMinute_waiting (h : c.cursor = some .waiting) :
    c.countMinute =
      if c.atAnchor then Calendar.boundary true { c.counted with cursor := walk c.active 0 [] }
      else c.goesOn .waiting := by
  simp only [Calendar.countMinute, h, Calendar.endShift, Calendar.advanced, Calendar.goesOn, Calendar.counted]
  rfl

theorem Calendar.goesOn_others (x : Cursor) (c : Calendar) :
    (c.goesOn x).others = [.airMinuteExpiryNotice, .lookaheadNotice (c.goesOn x).calendar.lookahead] := rfl

end

/-! ### The state after a minute expiry -/

section
variable {s b : State} {others : List Instr}

/-- That profiles follow rests on the profiles in force before, the zones and the notices alone. -/
theorem ProfilesFollow.congr {s' b' : State} (h : ProfilesFollow s b others) (hpart : s'.part = s.part)
    (hzones : s'.zones = s.zones) (hflight : s'.inFlight = s.inFlight)
    (hinForce : s'.calendar.inForce = s.calendar.inForce) (hsite : s'.calendar.siteProfile = s.calendar.siteProfile)
    (hcalendar : b'.calendar = b.calendar) (hgiven : b'.inFlight = b.inFlight) : ProfilesFollow s' b' others where
  hold := by rw [hcalendar]; exact h.hold
  quiet := by rw [hpart, hflight, hgiven]; exact h.quiet
  given := by
    have hg := h.given
    simp only [State.gives, State.given, State.reprofiled, State.zonesDefined] at hg ⊢
    rw [hpart, hzones, hflight, hgiven, hinForce, hsite, hcalendar]
    exact hg

theorem ShiftBegins.congr {s' b' : State} {c : Calendar} (h : ShiftBegins s c b others) (hpart : s'.part = s.part)
    (hzones : s'.zones = s.zones) (hflight : s'.inFlight = s.inFlight)
    (hinForce : s'.calendar.inForce = s.calendar.inForce) (hsite : s'.calendar.siteProfile = s.calendar.siteProfile)
    (hdrafts : s'.drafts = s.drafts) (hcalendar : b'.calendar = b.calendar) (hgiven : b'.inFlight = b.inFlight)
    (hbegun : b'.drafts = b.drafts) : ShiftBegins s' c b' others where
  calendar := by rw [hcalendar]; exact h.calendar
  overrides := by rw [hcalendar]; exact h.overrides
  profiles := by
    rw [hcalendar]
    exact h.profiles.congr hpart hzones hflight hinForce hsite hcalendar hgiven
  lookahead := by rw [hcalendar]; exact h.lookahead
  report := by rw [hcalendar, hbegun, hdrafts]; exact h.report

/-- The event of a minute expiry in RUN, a lookahead given also where the rotation has stopped. -/
def Calendar.minuteEvent (c : Calendar) : CalendarEvent :=
  { c.reachMinute.countMinute with
    look := c.reachMinute.countMinute.look || (c.rotating && !c.reachMinute.rotating) }

theorem State.nextMinute_run (hop : s.part.op = .run) :
    s.nextMinute =
      { (s.withCalendar s.calendar.reachMinute).calendarEvent s.calendar.minuteEvent with
        budget := s.budget.countCap } := by
  have hrun : (s.withCalendar s.calendar.reachMinute).running = true := s.running_iff.2 hop
  simp only [State.nextMinute, State.minuteExpiry, hrun, if_true, State.calendarEvent_budget]
  rfl

theorem State.nextMinute_stopped (hop : s.part.op ≠ .run) :
    s.nextMinute = s.withCalendar s.calendar.reachMinute := by
  have hrun : ¬(s.withCalendar s.calendar.reachMinute).running = true := mt s.running_iff.1 hop
  simp only [State.nextMinute, State.minuteExpiry, if_neg hrun]

theorem State.nextMinute_onlyChanges (s : State) :
    s.onlyChanges s.nextMinute [.calendar, .budget, .drafts, .inFlight] := by
  have hlink : s.nextMinute.link = s.link := by
    by_cases hop : s.part.op = .run
    · rw [State.nextMinute_run hop]
      exact State.calendarEvent_link _ _
    · rw [State.nextMinute_stopped hop]
      rfl
  intro r hr
  by_cases h : r = .link
  · rw [h]
    exact hlink
  · exact s.nextMinute_within.frame r (by simp_all)

theorem State.nextMinute_calendar (hop : s.part.op = .run) :
    s.nextMinute.calendar = s.calendar.reachMinute.countMinute.calendar := by
  rw [State.nextMinute_run hop]
  exact State.calendarEvent_calendar _ _

theorem State.nextMinute_follows (hop : s.part.op = .run)
    (hhold : ProfilesHold s.calendar.reachMinute.countMinute.calendar) :
    ProfilesFollow s s.nextMinute s.calendar.minuteEvent.others := by
  obtain ⟨hinForce, hsite, _⟩ := s.calendar.reachMinute_profiles
  rw [State.nextMinute_run hop]
  exact ((s.withCalendar s.calendar.reachMinute).calendarEvent_profilesFollow (e := s.calendar.minuteEvent) hhold).congr
    rfl rfl rfl hinForce.symm hsite.symm rfl rfl

theorem State.nextMinute_drafts (hop : s.part.op = .run) (hquiet : s.calendar.reachMinute.countMinute.draft = none) :
    s.nextMinute.drafts = s.drafts := by
  rw [State.nextMinute_run hop]
  exact State.calendarEvent_drafts_quiet (s := s.withCalendar s.calendar.reachMinute) hquiet

/-- A minute expiry that ends a shift or a wait is a shift boundary with all its actions. -/
theorem State.nextMinute_begins (hop : s.part.op = .run) {d : Calendar}
    (h : s.calendar.reachMinute.countMinute = Calendar.boundary true d) :
    ShiftBegins s d s.nextMinute [.airMinuteExpiryNotice] := by
  obtain ⟨hinForce, hsite, _⟩ := s.calendar.reachMinute_profiles
  have hevent : s.calendar.minuteEvent = Calendar.boundary true d := by
    rw [Calendar.minuteEvent, h]
    rfl
  rw [State.nextMinute_run hop, hevent]
  exact ((s.withCalendar s.calendar.reachMinute).shiftBegins hop true d).congr rfl rfl rfl hinForce.symm hsite.symm rfl
    rfl rfl rfl

end

/-- Counting a minute leaves the clock where it is. -/
theorem Calendar.countMinute_clock (c : Calendar) :
    c.countMinute.calendar.day = c.day ∧ c.countMinute.calendar.second = c.second
      ∧ c.countMinute.calendar.unknown = c.unknown ∧ c.countMinute.calendar.tenth = c.tenth := by
  cases hcursor : c.cursor with
  | none => rw [Calendar.countMinute_stopped hcursor]; exact ⟨rfl, rfl, rfl, rfl⟩
  | some x =>
    cases x with
    | waiting =>
      rw [Calendar.countMinute_waiting hcursor]
      split
      · rw [Calendar.boundary_eq]; exact ⟨rfl, rfl, rfl, rfl⟩
      · exact ⟨rfl, rfl, rfl, rfl⟩
    | inShift row left stack =>
      rw [Calendar.countMinute_inShift hcursor]
      split
      · rw [Calendar.boundary_eq]; exact ⟨rfl, rfl, rfl, rfl⟩
      · exact ⟨rfl, rfl, rfl, rfl⟩

theorem State.nextMinute_clock (s : State) :
    s.nextMinute.calendar.day = s.calendar.reachMinute.day
      ∧ s.nextMinute.calendar.second = s.calendar.reachMinute.second
      ∧ s.nextMinute.calendar.unknown = s.calendar.reachMinute.unknown := by
  by_cases hop : s.part.op = .run
  · obtain ⟨hday, hsecond, hunknown, _⟩ := s.calendar.reachMinute.countMinute_clock
    rw [State.nextMinute_calendar hop]
    exact ⟨hday, hsecond, hunknown⟩
  · rw [State.nextMinute_stopped hop]
    exact ⟨rfl, rfl, rfl⟩

/-- A minute of the demand cap (R134). -/
theorem Budget.countCap_eq (b : Budget) :
    b.countCap =
      { b with
        cap := b.cap.map fun x =>
          { x with span := match x.span with | .untilEnded => .untilEnded | .minutes n => .minutes (n - 1) } } := by
  obtain ⟨site, mode, cap, inForce, tie, rotation, period, shed, queue, stagger, zones, guarded, committed⟩ := b
  obtain _ | ⟨v, _ | n⟩ := cap <;> rfl

/-- The calendar with its clock at the next minute and nothing else changed. -/
def Calendar.atNextMinute (c : Calendar) : Calendar :=
  { c with
    day := c.reachMinute.day, second := c.reachMinute.second, tenth := 0, unknown := c.reachMinute.unknown }

section
variable {c : Calendar}

theorem Calendar.reachMinute_stays (h : ¬c.wraps ∨ c.cursor = none) : c.reachMinute = c.atNextMinute := by
  unfold Calendar.atNextMinute
  by_cases hwraps : c.wraps
  · have hstill : c.rotating = false := by simp [Calendar.rotating, h.resolve_left (not_not.2 hwraps)]
    rw [Calendar.reachMinute_of_wraps hwraps, hstill]
    rfl
  · rw [Calendar.reachMinute_of_not_wraps hwraps]
    unfold Calendar.minuteLater
    split <;> rfl

theorem Calendar.reachMinute_stops (hwraps : c.wraps) (h : c.cursor ≠ none) :
    c.reachMinute =
      { c.atNextMinute with
        active := if c.committed then c.pendingTable else c.active
        committed := false, cursor := none, lookahead := none } := by
  have hrotating : c.rotating = true := Option.isSome_iff_ne_none.2 h
  unfold Calendar.atNextMinute
  rw [Calendar.reachMinute_of_wraps hwraps, if_pos hrotating, Calendar.stopRotation_eq]

/-- The second of day reached is that of a whole minute. -/
theorem Calendar.reachMinute_second (c : Calendar) : c.reachMinute.second % 60 = 0 := by
  obtain ⟨hsame, hnext, hwrap, _⟩ := c.reachMinute_clock
  by_cases hminute : c.second / 60 + 1 < 1440
  · have := (hsame hminute).2
    omega
  · by_cases hday : c.day < 65535
    · have := (hnext (by omega) hday).2
      omega
    · have := (hwrap ⟨by omega, by omega⟩).2
      omega

end

section
variable {s : State}

/-- A minute expiry without a rotation: the timed overrides, and the profiles in force. -/
theorem State.nextMinute_quiet (hop : s.part.op = .run) (h : s.calendar.reachMinute.cursor = none) :
    s.nextMinute.calendar = s.calendar.reachMinute.counted.settled ∧ s.nextMinute.drafts = s.drafts
      ∧ ProfilesFollow s s.nextMinute
        (.airMinuteExpiryNotice
          :: if s.calendar.rotating then [.lookaheadNotice s.nextMinute.calendar.lookahead] else []) := by
  have hcount := Calendar.countMinute_stopped h
  have hcalendar : s.nextMinute.calendar = s.calendar.reachMinute.counted.settled := by
    rw [State.nextMinute_calendar hop, hcount]
    rfl
  refine ⟨hcalendar, State.nextMinute_drafts hop (by rw [hcount]; rfl), ?_⟩
  have hfollow := State.nextMinute_follows hop (by rw [hcount]; exact Calendar.settled_hold _)
  have hothers : s.calendar.minuteEvent.others = .airMinuteExpiryNotice
      :: if s.calendar.rotating then [.lookaheadNotice s.nextMinute.calendar.lookahead] else [] := by
    have hstill : s.calendar.reachMinute.rotating = false := by simp [Calendar.rotating, h]
    rw [CalendarEvent.others, Calendar.minuteEvent, hcount, hstill, hcalendar]
    simp [CalendarEvent.plain]
  rwa [hothers] at hfollow

/-- A minute expiry in a shift or a wait that goes on: the lookahead's minutes follow the cursor. -/
theorem State.nextMinute_goesOn (hop : s.part.op = .run) {x : Cursor}
    (h : s.calendar.reachMinute.countMinute = s.calendar.reachMinute.goesOn x) :
    ProfilesFollow s s.nextMinute [.airMinuteExpiryNotice, .lookaheadNotice s.nextMinute.calendar.lookahead]
      ∧ s.nextMinute.calendar = (s.calendar.reachMinute.goesOn x).calendar ∧ s.nextMinute.drafts = s.drafts
      ∧ s.nextMinute.calendar.lookahead.map (fun l => l.profile)
        = s.calendar.reachMinute.lookahead.map (fun l => l.profile)
      ∧ ∀ l, s.nextMinute.calendar.lookahead = some l → LookaheadMinutes s.nextMinute.calendar l.minutes := by
  have hcalendar : s.nextMinute.calendar = (s.calendar.reachMinute.goesOn x).calendar := by
    rw [State.nextMinute_calendar hop, h]
  have hfollow := State.nextMinute_follows hop (by rw [h]; exact Calendar.settled_hold _)
  refine ⟨?_, hcalendar, State.nextMinute_drafts hop (by rw [h]; rfl), ?_, fun l hl => ?_⟩
  · have hevent : s.calendar.minuteEvent = s.calendar.reachMinute.goesOn x := by
      rw [Calendar.minuteEvent, h]
      rfl
    rw [hevent, Calendar.goesOn_others, ← hcalendar] at hfollow
    exact hfollow
  · rw [hcalendar]
    simp only [Calendar.goesOn, Calendar.settled, Calendar.followLookahead, Option.map_map]
    rfl
  · rw [hcalendar] at hl ⊢
    obtain ⟨k, _, rfl⟩ := Option.map_eq_some_iff.1 hl
    exact Calendar.lookaheadMinutes_hold (Calendar.goesOn x s.calendar.reachMinute).calendar

end

/-- Settles O33: the clock's next minute, then what is counted, by the cursor. -/
theorem minuteExpiryCounts : Obligations.MinuteExpiryCounts := by
  intro s c minute wraps
  refine ⟨s.nextMinute, rfl, s.nextMinute_onlyChanges, ?_⟩
  beta_reduce
  intro clock stopped counted now settles looks counts
  obtain ⟨hday, hsecond, hunknown⟩ := s.nextMinute_clock
  obtain ⟨hsame, hnext, hwrap, hknown⟩ := c.reachMinute_clock
  have hclock : clock c = c.atNextMinute := by
    simp only [clock, hday, hsecond, hunknown]
    rfl
  have hnow : now = c.atNextMinute.counted := by
    have hcounted : counted = countOverride := by
      funext o
      obtain _ | ⟨p, _ | n⟩ := o <;> rfl
    simp only [now, hclock, hcounted]
    rfl
  refine ⟨fun h => ?_, fun h h' => ?_, fun h => ?_, ?_, fun hop => ?_, fun hop => ⟨?_, fun hcursor => ?_,
    fun hcursor hwraps => ?_, fun row left stack hcursor hwraps => ?_, fun a hcursor ha hwraps => ?_⟩⟩
  · rw [hday, hsecond]; exact hsame h
  · rw [hday, hsecond]; exact hnext h h'
  · rw [hday, hsecond]; exact hwrap h
  · rw [hunknown]; exact hknown
  · rw [hclock, State.nextMinute_stopped hop]
    refine ⟨rfl, rfl, rfl, ?_, fun h => Calendar.reachMinute_stays h⟩
    split
    · next hwraps =>
      by_cases hcursor : c.cursor = none
      · exact (congrArg Calendar.cursor (Calendar.reachMinute_stays (c := c) (.inr hcursor))).trans hcursor
      · exact congrArg Calendar.cursor (Calendar.reachMinute_stops hwraps hcursor)
    · next hwraps => exact (congrArg Calendar.cursor (Calendar.reachMinute_stays (c := c) (.inl hwraps))).trans rfl
  · rw [State.nextMinute_run hop]
    exact s.budget.countCap_eq
  · have hreach := Calendar.reachMinute_stays (c := c) (.inr hcursor)
    obtain ⟨hcalendar, hdrafts, hfollow⟩ := State.nextMinute_quiet hop (by rw [hreach]; exact hcursor)
    have hstill : c.rotating = false := by simp [Calendar.rotating, hcursor]
    refine ⟨⟨?_, hdrafts⟩, by rwa [hstill] at hfollow⟩
    rw [hnow, hcalendar, hreach]
    rfl
  · have hreach := Calendar.reachMinute_stops hwraps hcursor
    obtain ⟨hcalendar, hdrafts, hfollow⟩ := State.nextMinute_quiet hop (by rw [hreach])
    have hrotating : c.rotating = true := Option.isSome_iff_ne_none.2 hcursor
    refine ⟨⟨?_, hdrafts⟩, by rwa [hrotating] at hfollow⟩
    rw [hnow, hcalendar, hreach]
    rfl
  · have hreach := Calendar.reachMinute_stays (c := c) (.inl hwraps)
    have hcount := Calendar.countMinute_inShift (c := c.reachMinute) (by rw [hreach]; exact hcursor)
    refine ⟨fun hleft => ?_, fun hleft => ?_⟩
    · rw [if_neg (by omega)] at hcount
      obtain ⟨hfollow, hcalendar, hdrafts, hprofile, hminutes⟩ := State.nextMinute_goesOn hop hcount
      refine ⟨hfollow, ⟨?_, hdrafts⟩, by rw [hprofile, hreach]; rfl, hminutes⟩
      rw [hnow, hcalendar, hreach]
      rfl
    · rw [if_pos hleft] at hcount
      have hbegins := State.nextMinute_begins hop hcount
      rw [hreach] at hbegins
      rw [hnow]
      exact hbegins
  · have hreach := Calendar.reachMinute_stays (c := c) (.inl hwraps)
    have hcount := Calendar.countMinute_waiting (c := c.reachMinute) (by rw [hreach]; exact hcursor)
    have hat : c.reachMinute.atAnchor = true
        ↔ s.nextMinute.calendar.day = a.day ∧ s.nextMinute.calendar.second = 60 * a.minute := by
      have hwhole := s.calendar.reachMinute_second
      rw [Calendar.atAnchor_iff (by rw [hreach]; exact ha), hday, hsecond]
      refine and_congr Iff.rfl ?_
      change s.calendar.reachMinute.second / 60 = a.minute ↔ _
      omega
    refine ⟨fun hd hm => ?_, fun hother => ?_⟩
    · rw [if_pos (hat.2 ⟨hd, hm⟩)] at hcount
      have hbegins := State.nextMinute_begins hop hcount
      rw [hreach] at hbegins
      rw [hnow]
      exact hbegins
    · rw [if_neg (mt hat.1 hother)] at hcount
      obtain ⟨hfollow, hcalendar, hdrafts, hprofile, hminutes⟩ := State.nextMinute_goesOn hop hcount
      refine ⟨hfollow, ⟨?_, hdrafts⟩, by rw [hprofile, hreach]; rfl, hminutes⟩
      rw [hnow, hcalendar, hreach]
      rfl

end Sys2Proof.Machine
end

section
/-! SET-TIME (R22, R23). -/

namespace Sys2Proof.Machine

/-! ### The tenth within the second has no part in a minute expiry -/

/-- The calendar with another tenth within its second. -/
def Calendar.withTenth (k : Nat) (c : Calendar) : Calendar := { c with tenth := k }

/-- The event with another tenth within its calendar's second. -/
def CalendarEvent.withTenth (k : Nat) (e : CalendarEvent) : CalendarEvent :=
  { e with calendar := e.calendar.withTenth k }

/-- The state with another tenth within the second. -/
def State.withTenth (k : Nat) (s : State) : State := s.withCalendar (s.calendar.withTenth k)

theorem Calendar.countMinute_withTenth (k : Nat) (c : Calendar) :
    (c.withTenth k).countMinute = c.countMinute.withTenth k := by
  cases hcursor : c.cursor with
  | none =>
    rw [Calendar.countMinute_stopped hcursor, Calendar.countMinute_stopped (c := c.withTenth k) hcursor]
    rfl
  | some x =>
    cases x with
    | waiting =>
      rw [Calendar.countMinute_waiting hcursor, Calendar.countMinute_waiting (c := c.withTenth k) hcursor,
        show (c.withTenth k).atAnchor = c.atAnchor from rfl]
      split
      · rw [Calendar.boundary_eq, Calendar.boundary_eq]; rfl
      · rfl
    | inShift row left stack =>
      rw [Calendar.countMinute_inShift hcursor, Calendar.countMinute_inShift (c := c.withTenth k) hcursor]
      split
      · rw [Calendar.boundary_eq, Calendar.boundary_eq]; rfl
      · rfl

theorem State.calendarEvent_withTenth (k : Nat) (e : CalendarEvent) (s : State) :
    (s.withTenth k).calendarEvent (e.withTenth k) = (s.calendarEvent e).withTenth k := by
  unfold State.calendarEvent
  rw [show (s.withTenth k).running = s.running from rfl]
  split <;> rfl

/-- The event of a minute expiry, with its lookahead also where the rotation has stopped. -/
def Calendar.countEvent (stopped : Bool) (c : Calendar) : CalendarEvent :=
  { c.countMinute with look := c.countMinute.look || stopped }

theorem State.minuteExpiry_run {s : State} (h : s.running = true) (stopped : Bool) :
    s.minuteExpiry stopped
      = { s.calendarEvent (s.calendar.countEvent stopped) with budget := s.budget.countCap } := by
  simp only [State.minuteExpiry, if_pos h, State.calendarEvent_budget]
  rfl

theorem State.minuteExpiry_withTenth (k : Nat) (stopped : Bool) (s : State) :
    (s.withTenth k).minuteExpiry stopped = (s.minuteExpiry stopped).withTenth k := by
  by_cases hrun : s.running = true
  · have hevent := s.calendarEvent_withTenth k (s.calendar.countEvent stopped)
    have hcount : (s.calendar.withTenth k).countEvent stopped = (s.calendar.countEvent stopped).withTenth k := by
      rw [Calendar.countEvent, Calendar.countMinute_withTenth]
      rfl
    rw [State.minuteExpiry_run hrun, State.minuteExpiry_run (s := s.withTenth k) hrun,
      show (s.withTenth k).calendar = s.calendar.withTenth k from rfl, hcount, hevent]
    rfl
  · rw [State.minuteExpiry, State.minuteExpiry, if_neg hrun, if_neg (show ¬(s.withTenth k).running = true from hrun)]

theorem State.passMinute_withTenth (k m : Nat) (s : State) :
    (s.withTenth k).passMinute m = (s.passMinute m).withTenth k :=
  State.minuteExpiry_withTenth k false (s.withCalendar (s.calendar.setClock (60 * m)))

/-! ### A minute expiry of a trim -/

section
variable {s : State}

theorem State.minuteExpiry_clock (stopped : Bool) (s : State) :
    (s.minuteExpiry stopped).calendar.day = s.calendar.day
      ∧ (s.minuteExpiry stopped).calendar.second = s.calendar.second
      ∧ (s.minuteExpiry stopped).calendar.tenth = s.calendar.tenth
      ∧ (s.minuteExpiry stopped).calendar.unknown = s.calendar.unknown := by
  unfold State.minuteExpiry
  split
  · obtain ⟨hday, hsecond, hunknown, htenth⟩ := s.calendar.countMinute_clock
    simp only [State.calendarEvent_calendar]
    exact ⟨hday, hsecond, htenth, hunknown⟩
  · exact ⟨rfl, rfl, rfl, rfl⟩

/-- A minute that a trim passes is the minute expiry of the clock's next minute, but for the tenth. -/
theorem State.nextMinute_eq_passMinute (hsecond : s.calendar.second < 86400)
    (hlast : 60 * (s.calendar.seconds / 60 + 1) < 65536 * 86400) :
    s.nextMinute = (s.passMinute (s.calendar.seconds / 60 + 1)).withTenth 0 := by
  have hclock : s.calendar.reachMinute
      = (s.calendar.setClock (60 * (s.calendar.seconds / 60 + 1))).withTenth 0 := by
    unfold Calendar.seconds at hlast ⊢
    have hstays : ¬s.calendar.wraps := by
      rintro ⟨hlate, hday⟩
      omega
    rw [Calendar.reachMinute_of_not_wraps hstays, Calendar.minuteLater, Calendar.withTenth, Calendar.setClock]
    split
    · congr 1 <;> dsimp only <;> omega
    · congr 1 <;> dsimp only <;> omega
  have hrotating : (s.calendar.rotating && !s.calendar.reachMinute.rotating) = false := by
    rw [hclock]
    exact Bool.and_not_self _
  rw [State.nextMinute, hrotating, hclock]
  exact State.minuteExpiry_withTenth 0 false (s.withCalendar (s.calendar.setClock _))

/-- Outside RUN the minutes passed change the clock alone. -/
theorem State.trim_stopped (hop : s.part.op ≠ .run) (target : Nat) :
    s.trim target = s.withCalendar (s.calendar.setClock target) := by
  have hpasses (ms : List Nat) (u : State) (hu : u.part.op ≠ .run) :
      (ms.foldl State.passMinute u).withCalendar ((ms.foldl State.passMinute u).calendar.setClock target)
        = u.withCalendar (u.calendar.setClock target) := by
    induction ms generalizing u with
    | nil => rfl
    | cons m ms ih =>
      have hstill : u.passMinute m = u.withCalendar (u.calendar.setClock (60 * m)) := by
        have hrun : ¬(u.withCalendar (u.calendar.setClock (60 * m))).running = true := mt u.running_iff.1 hu
        rw [State.passMinute, State.minuteExpiry, if_neg hrun]
      rw [List.foldl_cons, hstill]
      exact (ih (u.withCalendar (u.calendar.setClock (60 * m))) hu).trans rfl
  exact hpasses _ s hop

/-- The minutes that a trim passes: none, one or two. -/
theorem trim_minutes (now target : Nat) :
    ((List.range 2).map fun k => now / 60 + 1 + k).filter (fun m => 60 * m ≤ target)
      = if target < 60 * (now / 60 + 1) then []
        else if target < 60 * (now / 60 + 2) then [now / 60 + 1]
        else [now / 60 + 1, now / 60 + 2] := by
  rw [show ((List.range 2).map fun k => now / 60 + 1 + k) = [now / 60 + 1, now / 60 + 2] from rfl]
  split
  · simp only [List.filter_cons, List.filter_nil]
    rw [if_neg (by simp only [decide_eq_true_eq]; omega), if_neg (by simp only [decide_eq_true_eq]; omega)]
  · split
    · simp only [List.filter_cons, List.filter_nil]
      rw [if_pos (by simp only [decide_eq_true_eq]; omega), if_neg (by simp only [decide_eq_true_eq]; omega)]
    · simp only [List.filter_cons, List.filter_nil]
      rw [if_pos (by simp only [decide_eq_true_eq]; omega), if_pos (by simp only [decide_eq_true_eq]; omega)]

theorem State.minuteExpiry_withHanded (stopped : Bool) (o : Option Instr) (s : State) :
    (s.withHanded o).minuteExpiry stopped = (s.minuteExpiry stopped).withHanded o := by
  by_cases hrun : s.running = true
  · rw [State.minuteExpiry_run hrun, State.minuteExpiry_run (s := s.withHanded o) hrun]
    exact congrArg (fun t : State => { t with budget := s.budget.countCap })
      (State.calendarEvent_withHanded (s.calendar.countEvent stopped) s o)
  · rw [State.minuteExpiry, State.minuteExpiry, if_neg hrun, if_neg (show ¬(s.withHanded o).running = true from hrun)]

theorem State.passMinute_withHanded (m : Nat) (o : Option Instr) (s : State) :
    (s.withHanded o).passMinute m = (s.passMinute m).withHanded o :=
  State.minuteExpiry_withHanded false o (s.withCalendar (s.calendar.setClock (60 * m)))

theorem State.trim_ignoresHanded (target : Nat) : IgnoresHanded (State.trim target) := by
  intro s o
  have hpasses (ms : List Nat) (u : State) :
      ms.foldl State.passMinute (u.withHanded o) = (ms.foldl State.passMinute u).withHanded o := by
    induction ms generalizing u with
    | nil => rfl
    | cons m ms ih => rw [List.foldl_cons, State.passMinute_withHanded, ih, List.foldl_cons]
  simp only [State.trim, show (s.withHanded o).calendar = s.calendar from rfl, hpasses]
  rfl

theorem State.passMinute_clock (m : Nat) (s : State) :
    (s.passMinute m).calendar.seconds = 60 * m ∧ (s.passMinute m).calendar.tenth = s.calendar.tenth := by
  obtain ⟨hday, hsecond, htenth, -⟩ :=
    State.minuteExpiry_clock false (s.withCalendar (s.calendar.setClock (60 * m)))
  refine ⟨?_, htenth⟩
  have hseconds : (s.passMinute m).calendar.seconds = 60 * m / 86400 * 86400 + 60 * m % 86400 :=
    congrArg₂ (fun d r => d * 86400 + r) hday hsecond
  omega

theorem Calendar.setClock_eq (c : Calendar) {day second : Nat} (hsecond : second ≤ 86399) :
    c.setClock (day * 86400 + second) = { c with day := day, second := second } := by
  unfold Calendar.setClock
  congr 1 <;> omega

theorem State.nextMinute_link (s : State) : s.nextMinute.link = s.link :=
  s.nextMinute_onlyChanges .link (by decide)

theorem exec_minuteExpiry (s : State) : exec .minuteExpiry s = .next s.nextMinute.settle := rfl

/-- After one minute that a trim passes the clock stands at that minute. -/
theorem State.nextMinute_twice_eq_passMinute (hsecond : s.calendar.second < 86400)
    (hlast : 60 * (s.calendar.seconds / 60 + 2) < 65536 * 86400) :
    s.nextMinute.nextMinute
      = ((s.passMinute (s.calendar.seconds / 60 + 1)).passMinute (s.calendar.seconds / 60 + 2)).withTenth 0 := by
  have hfirst := State.nextMinute_eq_passMinute hsecond (by omega)
  obtain ⟨hseconds, -⟩ := s.passMinute_clock (s.calendar.seconds / 60 + 1)
  have hthere : s.nextMinute.calendar.seconds = 60 * (s.calendar.seconds / 60 + 1) := by
    rw [hfirst]
    exact hseconds
  have hlate : s.nextMinute.calendar.second < 86400 := by
    rw [hfirst]
    obtain ⟨-, hsecond, -, -⟩ := State.minuteExpiry_clock false
      (s.withCalendar (s.calendar.setClock (60 * (s.calendar.seconds / 60 + 1))))
    exact lt_of_eq_of_lt hsecond (Nat.mod_lt _ (by decide))
  have hsecondMinute := State.nextMinute_eq_passMinute hlate (by omega)
  rw [hsecondMinute, hthere, show 60 * (s.calendar.seconds / 60 + 1) / 60 + 1 = s.calendar.seconds / 60 + 2 by omega,
    hfirst, State.passMinute_withTenth]
  rfl

/-! ### SET-TIME -/

section
variable (htakes : s.takesRequests = true)
include htakes

theorem setTime_badField {day second : Nat} (h : 65535 < day ∨ 86399 < second) :
    AnswersOnly (.setTime day second) .badField [] s := by
  have hexec : exec (.setTime day second) s = execSetTime day second s := rfl
  refine answersOnly_of_refuse (hexec.trans rfl) htakes ?_
  simp only [if_pos h]

theorem setTime_jumps {day second : Nat} (hday : day ≤ 65535) (hsecond : second ≤ 86399)
    (h : s.calendar.unknown = true ∨ s.calendar.seconds + 120 < day * 86400 + second
      ∨ day * 86400 + second + 120 < s.calendar.seconds) :
    Completes (.setTime day second) .ok [] s (s.moveClock (day * 86400 + second)) := by
  have hexec : exec (.setTime day second) s = execSetTime day second s := rfl
  refine completes_of_calendarEvent (hexec.trans rfl) htakes ?_
  have hfar : ¬differs (day * 86400 + second) s.calendar.seconds ≤ 120 ∨ s.calendar.unknown = true := by
    unfold differs
    obtain h | h | h := h
    · exact .inr h
    · exact .inl (by omega)
    · exact .inl (by omega)
  simp only [if_neg (show ¬(65535 < day ∨ 86399 < second) by omega), State.takeHanded_calendar]
  obtain h | h := hfar
  · simp only [if_neg h, ite_self, State.moveClock, State.takeHanded_calendar, State.takeHanded_running]
    rfl
  · simp only [if_pos h, State.moveClock, State.takeHanded_calendar, State.takeHanded_running]
    rfl

theorem setTime_trims {day second : Nat} (hday : day ≤ 65535) (hsecond : second ≤ 86399)
    (h : ¬(s.calendar.unknown = true ∨ s.calendar.seconds + 120 < day * 86400 + second
      ∨ day * 86400 + second + 120 < s.calendar.seconds)) :
    Completes (.setTime day second) .ok [] s (s.trim (day * 86400 + second)) := by
  have hexec : exec (.setTime day second) s = execSetTime day second s := rfl
  simp only [not_or] at h
  have hnear : differs (day * 86400 + second) s.calendar.seconds ≤ 120 := by unfold differs; omega
  refine completes_of_setting (hexec.trans rfl) htakes (State.trim_ignoresHanded _) ?_ ?_
  · exact congrArg Part.op (s.trim_kept _).part
  · simp only [if_neg (show ¬(65535 < day ∨ 86399 < second) by omega), State.takeHanded_calendar, if_neg h.1,
      if_pos hnear]

end

end

section
variable {s : State} {day second : Nat}

theorem State.trim_reaches_none (hsecond : second ≤ 86399)
    (hearly : day * 86400 + second < 60 * (s.calendar.seconds / 60 + 1)) :
    s.trim (day * 86400 + second) = { s with calendar := { s.calendar with day := day, second := second } } := by
  simp only [State.trim, trim_minutes, if_pos hearly, List.foldl_nil, Calendar.setClock_eq _ hsecond]
  rfl

theorem State.trim_reaches_one (hsecond : second ≤ 86399) (hnow : s.calendar.second < 86400) (hday : day ≤ 65535)
    (hlate : 60 * (s.calendar.seconds / 60 + 1) ≤ day * 86400 + second)
    (hearly : day * 86400 + second < 60 * (s.calendar.seconds / 60 + 2)) :
    s.trim (day * 86400 + second)
      = { s.nextMinute with
            calendar := { s.nextMinute.calendar with day := day, second := second, tenth := s.calendar.tenth } } := by
  obtain ⟨-, htenth⟩ := s.passMinute_clock (s.calendar.seconds / 60 + 1)
  simp only [State.trim, trim_minutes, if_neg (Nat.not_lt.2 hlate), if_pos hearly, List.foldl_cons, List.foldl_nil,
    Calendar.setClock_eq _ hsecond]
  rw [State.nextMinute_eq_passMinute hnow (by omega), ← htenth]
  rfl

theorem State.trim_reaches_two (hsecond : second ≤ 86399) (hnow : s.calendar.second < 86400) (hday : day ≤ 65535)
    (hlate : 60 * (s.calendar.seconds / 60 + 2) ≤ day * 86400 + second) :
    s.trim (day * 86400 + second)
      = { s.nextMinute.nextMinute with
            calendar := { s.nextMinute.nextMinute.calendar with
              day := day, second := second, tenth := s.calendar.tenth } } := by
  obtain ⟨-, htenth₁⟩ := s.passMinute_clock (s.calendar.seconds / 60 + 1)
  obtain ⟨-, htenth₂⟩ :=
    (s.passMinute (s.calendar.seconds / 60 + 1)).passMinute_clock (s.calendar.seconds / 60 + 2)
  simp only [State.trim, trim_minutes, if_neg (show ¬day * 86400 + second < 60 * (s.calendar.seconds / 60 + 1) by omega),
    if_neg (Nat.not_lt.2 hlate), List.foldl_cons, List.foldl_nil, Calendar.setClock_eq _ hsecond]
  rw [State.nextMinute_twice_eq_passMinute hnow (by omega), ← htenth₁, ← htenth₂]
  rfl

end

/-- Settles O23: a jump is the clock moved with its resync, a trim the minute expiries that it passes. -/
theorem setTimeSetsClock : Obligations.SetTimeSetsClock := by
  intro s day second htakes hnow old new clock jumps rotates
  refine ⟨setTime_badField htakes, fun hday hsecond => ?_⟩
  refine ⟨?_, ?_, ?_, ?_⟩
  · intro hjumps hstays
    have hcompletes := setTime_jumps htakes hday hsecond hjumps
    have hno : ¬(s.part.op = .run ∧ CanRotate { clock s.calendar with unknown := false }) :=
      fun ⟨hop, _, hanchor, hrow⟩ => hstays ⟨hop, hanchor, hrow⟩
    rwa [State.moveClock, Calendar.setClock_eq _ hsecond, State.calendarEvent_resyncIf_stays hno rfl rfl] at hcompletes
  · intro hjumps ⟨hop, hanchor, hrow⟩
    have hcompletes := setTime_jumps htakes hday hsecond hjumps
    have hrotates : CanRotate { clock s.calendar with unknown := false } := ⟨rfl, hanchor, hrow⟩
    rw [State.moveClock, Calendar.setClock_eq _ hsecond, State.calendarEvent_resyncIf_resyncs hop hrotates] at hcompletes
    exact ⟨_, hcompletes, s.calendarEvent_onlyChanges _, s.resynced hop _⟩
  · intro htrims hno
    have hcompletes := setTime_trims htakes hday hsecond htrims
    obtain hop | hearly := hno
    · rwa [State.trim_stopped hop, Calendar.setClock_eq _ hsecond] at hcompletes
    · rwa [State.trim_reaches_none hsecond hearly] at hcompletes
  · intro htrims hop hlate
    have hcompletes := setTime_trims htakes hday hsecond htrims
    refine ⟨s.nextMinute, exec_minuteExpiry s, s.nextMinute_link, fun hearly => ?_, fun htwo => ?_⟩
    · rwa [State.trim_reaches_one hsecond hnow hday hlate hearly] at hcompletes
    · refine ⟨_, exec_minuteExpiry _, (State.nextMinute_link _).trans s.nextMinute_link, ?_⟩
      rwa [State.trim_reaches_two hsecond hnow hday htwo] at hcompletes

end Sys2Proof.Machine
end

section
/-! Dock doors: input lines, settled changes, the dwell timer and its alert (R53 to R55, R59 to R66). -/

namespace Sys2Proof.Machine

/-! ### Tables of records -/

theorem Table.modify_eq_set {n : Nat} {α : Type} (t : Table n α) (i : Fin n) (f : α → α) :
    t.modify i f = t.set i (f (t.get i)) := rfl

theorem Table.set_get_self {n : Nat} {α : Type} (t : Table n α) (i : Fin n) : t.set i (t.get i) = t := by
  refine Table.ext_get fun j => ?_
  rw [Table.get_set]
  split
  · next h => rw [h]
  · rfl

theorem Doors.onDoor_of_fixed {ds : Doors} {n : DoorNo} {f : Door → Door} (h : f (ds.doors.get n) = ds.doors.get n) :
    ds.onDoor n f = ds := by
  rw [Doors.onDoor, Table.modify_eq_set, h, Table.set_get_self]

/-! ### Contacts (R53) -/

section
variable {n : LineNo} {ds : Doors}

theorem lineDoor_openLine (h : n.val % 2 = 0) : openLine (lineDoor n) = n := by
  apply Fin.ext
  simp only [openLine, lineDoor]
  omega

theorem lineDoor_trailerLine (h : n.val % 2 = 1) : trailerLine (lineDoor n) = n := by
  apply Fin.ext
  simp only [trailerLine, lineDoor]
  omega

theorem trailerLine_ne_of_even (h : n.val % 2 = 0) (k : DoorNo) : n ≠ trailerLine k := by
  intro heq
  have hval : n.val = 2 * k.val + 1 := congrArg Fin.val heq
  omega

/-- The line of an open contact has settled: the contact follows the line's level. -/
theorem Doors.openAsserted_settled (h : n.val % 2 = 0) :
    (ds.onLine n Line.settle).openAsserted (lineDoor n)
      = assertedAt (ds.doors.get (lineDoor n)).openPolarity (ds.lines.get n).high := by
  simp only [Doors.openAsserted, Doors.onLine, lineDoor_openLine h, Table.get_modify, if_true]
  rfl

/-- The line of a trailer-present contact has settled: the contact follows the line's level. -/
theorem Doors.trailerAsserted_settled (h : n.val % 2 = 1) :
    (ds.onLine n Line.settle).trailerAsserted (lineDoor n)
      = assertedAt (ds.doors.get (lineDoor n)).trailerPolarity (ds.lines.get n).high := by
  simp only [Doors.trailerAsserted, Doors.onLine, lineDoor_trailerLine h, Table.get_modify, if_true]
  rfl

/-- The line of an open contact has settled: every trailer-present contact stays. -/
theorem Doors.trailerAsserted_openSettled (h : n.val % 2 = 0) (k : DoorNo) :
    (ds.onLine n Line.settle).trailerAsserted k = ds.trailerAsserted k := by
  simp only [Doors.trailerAsserted, Doors.onLine, Table.get_modify, if_neg (trailerLine_ne_of_even h k)]

end

/-! ### What a settled change does at an enabled door (R60 to R62) -/

section
variable {d : Door} {f : DoorDef}

theorem Door.limitTimer_of_defined (h : d.defn = some f) : d.limitTimer = Timer.start f.limit := by
  rw [Door.limitTimer, h]

theorem Door.toOpen_of_defined (h : d.defn = some f) :
    d.toOpen = { d with state := .opened, dwell := Timer.start f.limit } := by
  rw [Door.toOpen, d.limitTimer_of_defined h]

theorem Door.opensUp_of_defined (h : d.defn = some f) (trailer : Bool) :
    d.opensUp trailer
      = match d.state, trailer with
        | .closed, false =>
          { d with state := .opened, dwell := Timer.start f.limit, opens := min 255 (d.opens + 1) }
        | .closed, true => { d with state := .sealed, opens := min 255 (d.opens + 1) }
        | _, _ => d := by
  unfold Door.opensUp
  cases hstate : d.state <;> cases trailer <;> try rfl
  simp only [Door.toOpen, Door.limitTimer, h]
  rfl

theorem Door.trailerLeaves_of_defined (h : d.defn = some f) :
    d.trailerLeaves
      = match d.state with
        | .sealed => { d with state := .opened, dwell := Timer.start f.limit }
        | _ => d := by
  rw [Door.trailerLeaves, d.toOpen_of_defined h] <;> rfl

end

/-! ### Settled changes (R54) -/

section
variable {s : State} {n : LineNo}

theorem Line.timed_iff (l : Line) : l.timed = true ↔ l.timing ≠ none ∧ l.high ≠ l.settled := by
  simp [Line.timed, Option.isSome_iff_ne_none]

/-- Outside RUN, and at a door that is not enabled, a settled change is of the line alone. -/
theorem State.settleLine_still (h : s.part.op ≠ .run ∨ (s.doors.doors.get (lineDoor n)).enabled = false) :
    s.settleLine n = { s with doors := s.doors.onLine n Line.settle } := by
  have hno : ¬((s.running && (s.doors.doors.get (lineDoor n)).enabled) = true) := by
    rw [Bool.and_eq_true, s.running_iff]
    rintro ⟨hop, henabled⟩
    obtain h | h := h
    · exact h hop
    · rw [h] at henabled
      exact absurd henabled (by decide)
  exact if_neg hno

theorem State.settleLine_moves (hop : s.part.op = .run) (h : (s.doors.doors.get (lineDoor n)).enabled = true) :
    s.settleLine n
      = s.doorEvent ((s.doors.onLine n Line.settle).onDoor (lineDoor n)
          ((s.doors.onLine n Line.settle).contactEvent n)) :=
  if_pos (Bool.and_eq_true_iff.2 ⟨s.running_iff.2 hop, h⟩)

theorem State.settleLine_lines (n : LineNo) (s : State) :
    (s.settleLine n).doors.lines = s.doors.lines.modify n Line.settle ∧ (s.settleLine n).doors.filter = s.doors.filter := by
  simp only [State.settleLine]
  split <;> exact ⟨rfl, rfl⟩

theorem State.settleLine_otherDoor {j : DoorNo} (hj : j ≠ lineDoor n) :
    (s.settleLine n).doors.doors.get j = s.doors.doors.get j := by
  simp only [State.settleLine]
  split
  · exact (Table.get_modify _ _ _ _).trans (if_neg hj.symm)
  · rfl

theorem State.settleLine_door (hop : s.part.op = .run) (h : (s.doors.doors.get (lineDoor n)).enabled = true) :
    (s.settleLine n).doors.doors.get (lineDoor n)
      = (s.doors.onLine n Line.settle).contactEvent n (s.doors.doors.get (lineDoor n)) := by
  rw [State.settleLine_moves hop h]
  exact (Table.get_modify _ _ _ _).trans (if_pos rfl)

theorem State.settleLine_onlyChanges (s : State) (n : LineNo) : s.onlyChanges (s.settleLine n) [.doors, .inFlight] :=
  fun r hr => by cases r <;> simp_all [State.same]

end

/-- What a settled change of the line does to its door, from the line's level. -/
theorem Doors.contactEvent_settled {ds : Doors} {n : LineNo} {d : Door} {f : DoorDef}
    (hget : ds.doors.get (lineDoor n) = d) (hdefn : d.defn = some f) :
    (ds.onLine n Line.settle).contactEvent n d
      = if n.val % 2 = 0 then
          if assertedAt f.openPolarity (ds.lines.get n).high then d.opensUp (ds.trailerAsserted (lineDoor n)) else d.closes
        else if assertedAt f.trailerPolarity (ds.lines.get n).high then d.trailerArrives else d.trailerLeaves := by
  unfold Doors.contactEvent
  by_cases heven : n.val % 2 = 0
  · have hline : isTrailerLine n = false := by simp [isTrailerLine, heven]
    simp only [hline, Doors.openAsserted_settled heven, Doors.trailerAsserted_openSettled heven, if_pos heven, hget,
      Door.openPolarity, hdefn]
    rfl
  · have hodd : n.val % 2 = 1 := by omega
    have hline : isTrailerLine n = true := by simp [isTrailerLine, hodd]
    simp only [hline, Doors.trailerAsserted_settled hodd, if_neg heven, hget, Door.trailerPolarity, hdefn, if_true]

/-- Settles O36: the line settles, and in RUN its enabled door makes the transition of its contact. -/
theorem settledChangeMovesDoor : Obligations.SettledChangeMovesDoor := by
  intro s n l k d htiming hdiffers
  have hexec : exec (.settledChange n) s = .next (s.settleLine n).settle := by
    change finish _ = _
    rw [if_pos ((Line.timed_iff _).2 ⟨htiming, hdiffers⟩)]
    rfl
  obtain ⟨hlines, hfilter⟩ := s.settleLine_lines n
  refine ⟨_, hexec, s.settleLine_onlyChanges n, hlines, hfilter, fun j hj => State.settleLine_otherDoor hj,
    fun hstill => ?_, ?_⟩
  · rw [State.settleLine_still hstill]
    exact ⟨rfl, rfl⟩
  · intro f hop hdefn henabled asserted
    have hasserted (p : Polarity) : asserted p = assertedAt p l.high := by cases p <;> rfl
    have hen : d.enabled = true := by rw [Door.enabled, hdefn]; exact henabled
    rw [State.settleLine_door hop hen, Doors.contactEvent_settled rfl hdefn, hasserted, hasserted,
      Door.opensUp_of_defined hdefn, Door.trailerLeaves_of_defined hdefn]
    rfl

/-! ### The dwell timer and its alert (R64 to R66) -/

section
variable {s : State} {n : DoorNo}

theorem exec_dwellTimerExpiry_dwelling (hop : s.part.op = .run) (hstate : (s.doors.doors.get n).state = .opened)
    (hdwell : (s.doors.doors.get n).dwell ≠ none) :
    exec (.dwellTimerExpiry n) s
      = .next (State.settle ((s.raiseAll (doorAlerts n (s.doors.doors.get n) (s.doors.doors.get n).dwells)).doorEvent
          (s.doors.onDoor n Door.dwells))) := by
  have hdwelling : (s.doors.doors.get n).dwelling = true := by
    simp [Door.dwelling, hstate, Option.isSome_iff_ne_none, hdwell]
  have hexec : exec (.dwellTimerExpiry n) s = execDwellTimerExpiry n s := rfl
  rw [hexec, execDwellTimerExpiry, runEvent_run (s.running_iff.2 hop)]
  simp only [if_pos hdwelling]

theorem State.raiseAll_doorAlerts {old new : Door} {f : DoorDef} (hdefn : new.defn = some f) :
    (s.raiseAll (doorAlerts n old new)).link
      = if old.alert then s.link else (s.raise (.doorAlert n f.zone f.limit new.entries f.mode)).link := by
  unfold doorAlerts
  cases old.alert <;> rw [hdefn] <;> rfl

theorem ackDoor_notFound (htakes : s.takesRequests = true) {k : Nat}
    (h : ∀ n : DoorNo, k = n → (s.doors.doors.get n).defn = none) : AnswersOnly (.ackDoor k) .notFound [] s := by
  have hexec : exec (.ackDoor k) s = execAckDoor k s := rfl
  refine answersOnly_of_refuse (hexec.trans rfl) htakes ?_
  cases hnumber : number? 32 k with
  | none => rfl
  | some n => simp only [State.takeHanded_doors, h n (number?_eq_some_iff.1 hnumber)]

theorem ackDoor_stillActive (htakes : s.takesRequests = true) {f : DoorDef}
    (hdefn : (s.doors.doors.get n).defn = some f) (halert : (s.doors.doors.get n).alert = true) (hmode : f.mode = .level)
    (hstate : (s.doors.doors.get n).state = .dwell) : AnswersOnly (.ackDoor n) .stillActive [] s := by
  have hexec : exec (.ackDoor n) s = execAckDoor n s := rfl
  refine answersOnly_of_refuse (hexec.trans rfl) htakes ?_
  simp only [number?_val, State.takeHanded_doors, hdefn, if_pos (And.intro halert (And.intro hmode hstate))]

theorem ackDoor_cleared (htakes : s.takesRequests = true) {f : DoorDef}
    (hdefn : (s.doors.doors.get n).defn = some f)
    (h : ¬((s.doors.doors.get n).alert = true ∧ f.mode = .level ∧ (s.doors.doors.get n).state = .dwell)) :
    Completes (.ackDoor n) .ok [] s
      { s with doors := s.doors.onDoor n fun d => { d with alert := false } } := by
  have hexec : exec (.ackDoor n) s = execAckDoor n s := rfl
  refine completes_of_setting
    (effect := fun s => { s with doors := s.doors.onDoor n fun d => { d with alert := false } })
    (hexec.trans rfl) htakes (fun _ _ => rfl) rfl ?_
  simp only [number?_val, State.takeHanded_doors, hdefn, if_neg h]

end

/-- Settles O37: the expiry takes the door to DWELL with its alert, which ACK-DOOR clears. -/
theorem doorAlertsAreRaisedAndCleared : Obligations.DoorAlertsAreRaisedAndCleared := by
  refine ⟨?_, ?_⟩
  · intro s n f d hop hdefn hstate hdwell entries
    refine ⟨_, exec_dwellTimerExpiry_dwelling hop hstate hdwell, fun r hr => ?_, rfl, ?_⟩
    · cases r <;> simp_all [State.same]
    · exact State.raiseAll_doorAlerts (new := d.dwells) hdefn
  · intro s k htakes
    refine ⟨fun hk => ackDoor_notFound htakes fun n hn => absurd n.isLt (by omega), ?_⟩
    rintro n rfl d
    refine ⟨fun hnone => ackDoor_notFound htakes fun m hm => ?_, fun f hdefn => ?_⟩
    · rwa [← Fin.ext hm]
    · split
      · next halert =>
        have hcleared := ackDoor_cleared htakes hdefn fun h => absurd (halert.symm.trans h.1) (by decide)
        rwa [Doors.onDoor_of_fixed (show ({ d with alert := false } : Door) = d by rw [← halert])] at hcleared
      · next halert =>
        split
        · next h => exact ackDoor_stillActive htakes hdefn (Bool.eq_true_of_not_eq_false halert) h.1 h.2
        · next h => exact ackDoor_cleared htakes hdefn fun hactive => h hactive.2

end Sys2Proof.Machine
end

section
/-! Door inputs and the filter time (R54, R55). -/

namespace Sys2Proof.Machine

/-! ### Lines that settle one after the other -/

/-- The state with another filter time. -/
def State.withFilter (v : Nat) (s : State) : State := { s with doors := { s.doors with filter := v } }

theorem Line.settle_settle (l : Line) : l.settle.settle = l.settle := rfl

theorem State.settleAll_filter (ns : List LineNo) (s : State) :
    (ns.foldl State.settleLine s).doors.filter = s.doors.filter := by
  induction ns generalizing s with
  | nil => rfl
  | cons n ns ih => rw [List.foldl_cons, ih, (s.settleLine_lines n).2]

theorem State.settleAll_line (ns : List LineNo) (s : State) (n : LineNo) :
    (ns.foldl State.settleLine s).doors.lines.get n
      = if n ∈ ns then (s.doors.lines.get n).settle else s.doors.lines.get n := by
  induction ns generalizing s with
  | nil => rfl
  | cons m ns ih =>
    rw [List.foldl_cons, ih, (s.settleLine_lines m).1, Table.get_modify]
    by_cases heq : m = n
    · subst heq
      simp only [if_true, List.mem_cons_self, Line.settle_settle, ite_self]
    · simp only [if_neg heq, List.mem_cons, Ne.symm heq, false_or]

theorem State.settleAll_part (ns : List LineNo) (s : State) : (ns.foldl State.settleLine s).part = s.part := by
  induction ns generalizing s with
  | nil => rfl
  | cons n ns ih => rw [List.foldl_cons, ih, State.settleLine_part]

theorem State.settleAll_onlyChanges (ns : List LineNo) (s : State) :
    s.onlyChanges (ns.foldl State.settleLine s) [.doors, .inFlight] := by
  induction ns generalizing s with
  | nil => exact fun r _ => by cases r <;> rfl
  | cons n ns ih => exact (s.settleLine_onlyChanges n).trans (ih _)

theorem State.settleAll_stopped (ns : List LineNo) {s : State} (hop : s.part.op ≠ .run) :
    (ns.foldl State.settleLine s).doors.doors = s.doors.doors
      ∧ (ns.foldl State.settleLine s).inFlight = s.inFlight := by
  induction ns generalizing s with
  | nil => exact ⟨rfl, rfl⟩
  | cons n ns ih =>
    rw [List.foldl_cons, State.settleLine_still (.inl hop)]
    exact ih (s := { s with doors := s.doors.onLine n Line.settle }) hop

theorem State.settleLine_withHanded (n : LineNo) (o : Option Instr) (s : State) :
    (s.withHanded o).settleLine n = (s.settleLine n).withHanded o := by
  unfold State.settleLine
  rw [show (s.withHanded o).running = s.running from rfl, show (s.withHanded o).doors = s.doors from rfl]
  dsimp only
  split <;> rfl

theorem State.settleAll_withHanded (ns : List LineNo) (o : Option Instr) (s : State) :
    ns.foldl State.settleLine (s.withHanded o) = (ns.foldl State.settleLine s).withHanded o := by
  induction ns generalizing s with
  | nil => rfl
  | cons n ns ih => rw [List.foldl_cons, State.settleLine_withHanded, ih, List.foldl_cons]

/-! ### The same lines as settled changes -/

/-- Two states agree in all that a settled change reads. -/
def State.settlesAlike (s t : State) : Prop :=
  t.doors = s.doors ∧ t.loads = s.loads ∧ t.inFlight = s.inFlight ∧ t.part = s.part

theorem State.settlesAlike.settleLine {s t : State} (h : s.settlesAlike t) (n : LineNo) :
    (s.settleLine n).settlesAlike (t.settleLine n) := by
  obtain ⟨hdoors, hloads, hflight, hpart⟩ := h
  unfold State.settlesAlike State.settleLine
  rw [show t.running = s.running from congrArg (fun p : Part => p.op == .run) hpart, hdoors]
  dsimp only
  split
  · refine ⟨rfl, hloads, ?_, hpart⟩
    simp only [State.doorEvent, State.give, State.nextEvent, hdoors, hloads, hflight]
  · exact ⟨rfl, hloads, hflight, hpart⟩

theorem State.settlesAlike.settle {s t : State} (h : s.settlesAlike t) : s.settlesAlike t.settle := by
  obtain ⟨hdoors, hloads, hflight, hpart⟩ := h
  exact ⟨by simpa using hdoors, by simpa using hloads, by simpa using hflight, by simpa using hpart⟩

theorem State.command_settledChange {t : State} {n : LineNo} (h : (t.doors.lines.get n).timed = true) :
    t.command (.settledChange n) = (t.settleLine n).settle := by
  have hexec : exec (.settledChange n) t = execSettledChange n t := rfl
  rw [State.command, hexec, execSettledChange, if_pos h, finish]

/-- Lines that are timed settle as settled changes do, one after the other. -/
theorem State.settlesAlike.settleAll (ns : List LineNo) {s t : State} (h : s.settlesAlike t) (hnodup : ns.Nodup)
    (htimed : ∀ n ∈ ns, (s.doors.lines.get n).timed = true) :
    (ns.foldl State.settleLine s).settlesAlike (ns.foldl (fun t n => t.command (.settledChange n)) t) := by
  induction ns generalizing s t with
  | nil => exact h
  | cons n ns ih =>
    obtain ⟨hfresh, hrest⟩ := List.nodup_cons.1 hnodup
    have hn : (t.doors.lines.get n).timed = true := by
      rw [h.1]
      exact htimed n List.mem_cons_self
    rw [List.foldl_cons, List.foldl_cons, State.command_settledChange hn]
    refine ih (h.settleLine n).settle hrest fun m hm => ?_
    have hother : n ≠ m := fun heq => hfresh (heq ▸ hm)
    rw [(s.settleLine_lines n).1, Table.get_modify, if_neg hother]
    exact htimed m (List.mem_cons_of_mem n hm)

/-! ### SET-DOORS (R55) -/

/-- The lines that settle at a filter time, in the free order that is next. -/
def State.settlingNow (v : Nat) (s : State) : List LineNo := arrange s.choices (s.doors.settling v)

/-- The effect of a SET-DOORS that is accepted. -/
def State.setFilter (v : Nat) (s : State) : State :=
  (s.settlingNow v).foldl State.settleLine (State.countChoice (s.doors.settling v).length (s.withFilter v))

section
variable {s : State} {v : Nat}

theorem State.settlingNow_perm (v : Nat) (s : State) :
    (s.settlingNow v).Perm ((List.finRange 64).filter fun n => (s.doors.lines.get n).high ≠ (s.doors.lines.get n).settled
      ∧ ∃ k, (s.doors.lines.get n).timing = some k ∧ v ≤ k) := by
  refine (arrange_perm _ _).trans (List.Perm.of_eq (List.filter_congr fun n _ => ?_))
  rw [Bool.eq_iff_iff, decide_eq_true_iff]
  exact Line.settlesAt_iff v _

theorem State.mem_settlingNow {n : LineNo} :
    n ∈ s.settlingNow v ↔ (s.doors.lines.get n).high ≠ (s.doors.lines.get n).settled
      ∧ ∃ k, (s.doors.lines.get n).timing = some k ∧ v ≤ k := by
  rw [(s.settlingNow_perm v).mem_iff, List.mem_filter, decide_eq_true_iff]
  exact ⟨fun h => h.2, fun h => ⟨List.mem_finRange n, h⟩⟩

theorem State.setFilter_ignoresHanded (v : Nat) : IgnoresHanded (State.setFilter v) := by
  intro s o
  have hcount (k : Nat) : State.countChoice k ((s.withFilter v).withHanded o)
      = (State.countChoice k (s.withFilter v)).withHanded o := by
    unfold State.countChoice
    split <;> rfl
  exact (congrArg (fun u => List.foldl State.settleLine u (s.settlingNow v)) (hcount _)).trans
    (State.settleAll_withHanded _ o _)

theorem State.setFilter_onlyChanges (v : Nat) (s : State) :
    s.onlyChanges (s.setFilter v) [.doors, .inFlight, .choices] := by
  have hcount : s.onlyChanges (State.countChoice (s.doors.settling v).length (s.withFilter v)) [.doors, .inFlight, .choices] := by
    intro r hr
    unfold State.countChoice
    split <;> (cases r <;> simp_all [State.same, State.withFilter])
  exact hcount.trans ((State.settleAll_onlyChanges _ _).mono (by decide))

theorem setDoors_badField (htakes : s.takesRequests = true) (h : v < 1 ∨ 20 < v) :
    AnswersOnly (.setDoors v) .badField [] s := by
  have hexec : exec (.setDoors v) s = execSetDoors v s := rfl
  refine answersOnly_of_refuse (hexec.trans rfl) htakes ?_
  simp only [if_pos h]

theorem setDoors_accepted (htakes : s.takesRequests = true) (hlow : 1 ≤ v) (hhigh : v ≤ 20) :
    Completes (.setDoors v) .ok [] s (s.setFilter v) := by
  have hexec : exec (.setDoors v) s = execSetDoors v s := rfl
  refine completes_of_setting (hexec.trans rfl) htakes (State.setFilter_ignoresHanded v) ?_ ?_
  · exact congrArg Part.op (s.setFilter_onlyChanges v .part (by decide))
  · simp only [if_neg (show ¬(v < 1 ∨ 20 < v) by omega)]
    rfl

end

/-- The line after a filter time has settled it or not. -/
theorem Line.filtered_eq (v : Nat) (l : Line) {settles : Prop} [Decidable settles]
    (h : settles ↔ l.high ≠ l.settled ∧ ∃ k, l.timing = some k ∧ v ≤ k) :
    (if settles then l.settle else l)
      = match l.timing with
        | none => l
        | some k => if v ≤ k ∧ l.high ≠ l.settled then { l with settled := l.high, timing := none } else l := by
  cases htiming : l.timing with
  | none => exact if_neg fun hsettles => by simp [htiming] at h; exact h hsettles
  | some k =>
    refine if_congr (h.trans ?_) rfl rfl
    simp [htiming, and_comm]

/-- A change of a line's level (R54). -/
theorem exec_doorInputChange (n : LineNo) (high : Bool) (s : State) :
    exec (.doorInputChange n high) s
      = .next (State.settle
          { s with
            doors := s.doors.onLine n fun l =>
              { l with
                high := high
                timing := if s.part.op = .starting then l.timing else if high = l.settled then none
                  else some (l.timing.getD 0) } }) := by
  change finish { s with doors := s.doors.onLine n _ } = _
  congr 4
  funext l
  split
  · rfl
  · simp only [Line.take, beq_iff_eq]

/-- Settles O35: the level of a line, and the filter time at which lines settle one after the other. -/
theorem doorInputsAreFiltered : Obligations.DoorInputsAreFiltered := by
  refine ⟨fun s n high => exec_doorInputChange n high s, ?_⟩
  intro s v htakes
  refine ⟨setDoors_badField htakes, fun hlow hhigh => ?_⟩
  have hpart : (State.countChoice (s.doors.settling v).length (s.withFilter v)).part = s.part := State.countChoice_part _ _
  have hdoors : (State.countChoice (s.doors.settling v).length (s.withFilter v)).doors = { s.doors with filter := v } :=
    State.countChoice_doors _ _
  have hflight : (State.countChoice (s.doors.settling v).length (s.withFilter v)).inFlight = s.inFlight :=
    State.countChoice_inFlight _ _
  refine ⟨_, setDoors_accepted htakes hlow hhigh, s.setFilter_onlyChanges v, ?_, fun hop => ?_, fun _ => ?_, fun n => ?_⟩
  · rw [State.setFilter, State.settleAll_filter, hdoors]
  · obtain ⟨hsame, hquiet⟩ := State.settleAll_stopped (s.settlingNow v)
      (s := State.countChoice (s.doors.settling v).length (s.withFilter v)) (by rwa [hpart])
    exact ⟨hsame.trans (by rw [hdoors]), hquiet.trans hflight⟩
  · have hperm := s.settlingNow_perm v
    refine ⟨_, hperm, ?_⟩
    have halike : State.settlesAlike (State.countChoice (s.doors.settling v).length (s.withFilter v)) (s.withFilter v) :=
      ⟨hdoors.symm, (State.countChoice_loads _ _).symm, hflight.symm, hpart.symm⟩
    obtain ⟨hchain, -, hgiven, -⟩ := halike.settleAll (s.settlingNow v)
      (hperm.nodup_iff.2 ((List.nodup_finRange 64).filter _)) fun n hn => by
        obtain ⟨hdiffers, k, hk, -⟩ := State.mem_settlingNow.1 hn
        rw [hdoors]
        exact (Line.timed_iff _).2 ⟨by rw [hk]; exact Option.some_ne_none k, hdiffers⟩
    exact ⟨(congrArg Doors.doors hchain).symm, hgiven.symm⟩
  · rw [State.setFilter, State.settleAll_line, hdoors]
    exact Line.filtered_eq v _ State.mem_settlingNow

end Sys2Proof.Machine
end

section
/-! DEF-DOOR (R56 to R59). -/

namespace Sys2Proof.Machine

/-! ### The fields of a definition (R56, check 1) -/

theorem polarity?_eq (k : Nat) :
    polarity? k = if k ≤ 1 then some (if k = 0 then Polarity.high else Polarity.low) else none := by
  match k with
  | 0 | 1 | _ + 2 => rfl

theorem alertMode?_eq (k : Nat) :
    alertMode? k = if k ≤ 1 then some (if k = 0 then AlertMode.edge else AlertMode.level) else none := by
  match k with
  | 0 | 1 | _ + 2 => rfl

theorem polarity_eq_iff_code {k : Nat} (h : k ≤ 1) (p : Polarity) :
    (if k = 0 then Polarity.high else Polarity.low) = p ↔ k = p.code := by
  obtain rfl | rfl : k = 0 ∨ k = 1 := by omega
  all_goals cases p <;> decide

/-- The fields of a DEF-DOOR that gives a zone are in range (Table 3-1). -/
def DoorFits (f : DoorFields) : Prop :=
  f.openPolarity ≤ 1 ∧ f.trailerPolarity ≤ 1 ∧ 10 ≤ f.limit ∧ f.limit ≤ 900 ∧ f.mode ≤ 1 ∧ f.enabled ≤ 1

/-- The definition that the fields of a DEF-DOOR give in a zone. -/
def doorDefOf (f : DoorFields) (z : Zone) : DoorDef where
  zone := z
  openPolarity := if f.openPolarity = 0 then .high else .low
  trailerPolarity := if f.trailerPolarity = 0 then .high else .low
  limit := f.limit
  mode := if f.mode = 0 then .edge else .level
  enabled := decide (f.enabled = 1)

section
variable {f : DoorFields}

theorem DoorOrder.ofFields?_remove (h : f.zone = 255) : DoorOrder.ofFields? f = some .remove := if_pos h

theorem DoorOrder.ofFields?_define (hzone : f.zone ≠ 255) (h : DoorFits f) :
    DoorOrder.ofFields? f = some (.define f.zone (doorDefOf f)) := by
  obtain ⟨hopen, htrailer, hlow, hhigh, hmode, henabled⟩ := h
  simp only [DoorOrder.ofFields?, if_neg hzone, polarity?_eq, alertMode?_eq, flag?_eq, if_pos hopen, if_pos htrailer,
    if_pos hmode, if_pos henabled, if_pos (And.intro hlow hhigh)]
  rfl

theorem DoorOrder.ofFields?_none (hzone : f.zone ≠ 255) (h : ¬DoorFits f) : DoorOrder.ofFields? f = none := by
  rw [DoorOrder.ofFields?, if_neg hzone, polarity?_eq, polarity?_eq, alertMode?_eq, flag?_eq]
  by_cases hcodes : f.openPolarity ≤ 1 ∧ f.trailerPolarity ≤ 1 ∧ f.mode ≤ 1 ∧ f.enabled ≤ 1
  · obtain ⟨hopen, htrailer, hmode, henabled⟩ := hcodes
    simp only [if_pos hopen, if_pos htrailer, if_pos hmode, if_pos henabled]
    exact if_neg fun hlimit => h ⟨hopen, htrailer, hlimit.1, hlimit.2, hmode, henabled⟩
  · split
    · next ho ht hm he =>
      simp only [Option.ite_none_right_eq_some] at ho ht hm he
      exact absurd ⟨ho.1, ht.1, hm.1, he.1⟩ hcodes
    · rfl

end

/-! ### Placing a door (R56, checks 4 and 5) -/

section
variable {s : State} {n : DoorNo}

theorem State.doorBound_iff : s.doorBound n = true ↔ ∃ l g, (s.loads.get l).defn = some g ∧ g.door = some n := by
  have hload (l : Load) : l.boundTo n = true ↔ ∃ g, l.defn = some g ∧ g.door = some n := by
    unfold Load.boundTo
    cases l.defn <;> simp
  rw [State.doorBound, any_entries_iff]
  exact exists_congr fun l => hload _

theorem State.doorBound_eq_false_iff :
    s.doorBound n = false ↔ ¬∃ l g, (s.loads.get l).defn = some g ∧ g.door = some n := by
  rw [Bool.eq_false_iff, Ne, State.doorBound_iff]

theorem State.defineDoor_stopped (hop : s.part.op ≠ .run) (d : Option DoorDef) :
    s.defineDoor n d = { s with doors := { s.doors with doors := s.doors.doors.set n (Door.atRest d) } } := by
  have hrun : s.running = false := Bool.eq_false_iff.2 (mt s.running_iff.1 hop)
  unfold State.defineDoor
  rw [hrun]
  rfl

theorem State.defineDoor_running (hop : s.part.op = .run) (f : DoorDef) :
    s.defineDoor n (some f) = s.doorEvent (s.doors.redefine n f) := by
  unfold State.defineDoor
  rw [s.running_iff.2 hop]

theorem State.defineDoor_part (d : Option DoorDef) (s : State) : (s.defineDoor n d).part = s.part := by
  unfold State.defineDoor
  split <;> rfl

theorem State.defineDoor_ignoresHanded (d : Option DoorDef) : IgnoresHanded (State.defineDoor n d) := by
  intro s o
  unfold State.defineDoor
  rw [show (s.withHanded o).running = s.running from rfl]
  split <;> rfl

theorem State.placeDoor_defines {d : Option DoorDef}
    (h : d.map (fun f => f.zone) = (s.doors.doors.get n).defn.map (fun p => p.zone)
      ∨ (s.doorBound n = false ∧ ∀ f ∈ d, s.doors.doors.entries.countP (·.inZone f.zone) < 8)) :
    s.placeDoor n d = accept (s.defineDoor n d) := by
  unfold State.placeDoor
  dsimp only
  split
  · rfl
  · next hmoves =>
    obtain hstays | ⟨hfree, hroom⟩ := h
    · exact absurd hstays hmoves
    · have hfits : (d.map fun f => f.zone).any s.zoneFull = false := by
        cases d with
        | none => rfl
        | some f =>
          have := hroom f rfl
          simp only [Option.map_some, Option.any_some, State.zoneFull, decide_eq_false_iff_not]
          omega
      rw [hfree, hfits]
      rfl

theorem State.placeDoor_inUse {d : Option DoorDef}
    (hmoves : d.map (fun f => f.zone) ≠ (s.doors.doors.get n).defn.map (fun p => p.zone))
    (h : s.doorBound n = true ∨ ∃ f ∈ d, 8 ≤ s.doors.doors.entries.countP (·.inZone f.zone)) :
    s.placeDoor n d = refuse .inUse s := by
  unfold State.placeDoor
  dsimp only
  rw [if_neg hmoves]
  split
  · rfl
  · next hfree =>
    obtain hbound | ⟨f, hf, hfull⟩ := h
    · exact absurd hbound hfree
    · have hany : (d.map fun f => f.zone).any s.zoneFull = true := by
        rw [Option.mem_def.1 hf]
        exact decide_eq_true hfull
      rw [if_pos hany]

end

/-! ### The command -/

section
variable {s : State} {f : DoorFields} {n : DoorNo} (htakes : s.takesRequests = true)
include htakes

theorem defDoor_badField (h : 32 ≤ f.door ∨ (f.zone ≠ 255 ∧ ¬DoorFits f)) : AnswersOnly (.defDoor f) .badField [] s := by
  have hexec : exec (.defDoor f) s = execDefDoor f s := rfl
  refine answersOnly_of_refuse (hexec.trans rfl) htakes ?_
  obtain hdoor | ⟨hzone, hfits⟩ := h
  · rw [number?_eq_none hdoor]
  · rw [DoorOrder.ofFields?_none hzone hfits]
    cases number? 32 f.door <;> rfl

theorem defDoor_wrongState {o : DoorOrder} (hdoor : f.door = n) (horder : DoorOrder.ofFields? f = some o)
    (hop : s.part.op = .run) (h : o.allowedInRun (s.doors.doors.get n).defn = false) :
    AnswersOnly (.defDoor f) .wrongState [] s := by
  have hexec : exec (.defDoor f) s = execDefDoor f s := rfl
  refine answersOnly_of_refuse (hexec.trans rfl) htakes ?_
  simp only [hdoor, number?_val, horder, State.takeHanded_running, State.takeHanded_doors, s.running_iff.2 hop, h]
  rfl

/-- A removal, outside RUN, places the door without a definition. -/
theorem defDoor_removes (hdoor : f.door = n) (hop : s.part.op ≠ .run) (hzone : f.zone = 255) {a : Status}
    {effect : State → State} (heffect : IgnoresHanded effect) (hpart : (effect s).part = s.part)
    (h : ∀ u : State, u.doors = s.doors → u.loads = s.loads → u.placeDoor n none = (effect u, Answer.bare a)) :
    Completes (.defDoor f) a [] s (effect s) := by
  have hexec : exec (.defDoor f) s = execDefDoor f s := rfl
  have hrun : s.running = false := Bool.eq_false_iff.2 (mt s.running_iff.1 hop)
  refine completes_of_effect (hexec.trans rfl) htakes heffect hpart ?_
  simp only [hdoor, number?_val, DoorOrder.ofFields?_remove hzone, State.takeHanded_running, hrun, Bool.false_and]
  exact h _ (State.takeHanded_doors _ _) (State.takeHanded_loads _ _)

theorem defDoor_notFound (hdoor : f.door = n) (hop : s.part.op ≠ .run) (hrange : f.zone ≠ 255) (hfits : DoorFits f)
    (h : ∀ z : Zone, f.zone = z → s.zones.get z = .undefined) : AnswersOnly (.defDoor f) .notFound [] s := by
  have hexec : exec (.defDoor f) s = execDefDoor f s := rfl
  have hrun : s.running = false := Bool.eq_false_iff.2 (mt s.running_iff.1 hop)
  refine answersOnly_of_refuse (hexec.trans rfl) htakes ?_
  have hzone : (s.takeHanded (.defDoor f)).zone? f.zone = none :=
    State.zone?_eq_none fun z hz => by rw [State.takeHanded_zones]; exact h z hz
  simp only [hdoor, number?_val, DoorOrder.ofFields?_define hrange hfits, State.takeHanded_running, hrun, Bool.false_and,
    hzone]
  rfl

/-- A definition in a zone, where it is allowed, is refused in a FLOOR zone and else places the door. -/
theorem defDoor_defines {z : Zone} (hdoor : f.door = n) (hfits : DoorFits f) (hz : f.zone = z)
    (hallowed : s.part.op = .run → (DoorOrder.define f.zone (doorDefOf f)).allowedInRun (s.doors.doors.get n).defn = true)
    (hzone : s.zones.get z ≠ .undefined) {a : Status} {effect : State → State} (heffect : IgnoresHanded effect)
    (hpart : (effect s).part = s.part)
    (h : ∀ u : State, u.doors = s.doors → u.loads = s.loads → u.part = s.part →
      (if s.zones.get z = .floor then refuse .badField u else u.placeDoor n (some (doorDefOf f z)))
        = (effect u, Answer.bare a)) :
    Completes (.defDoor f) a [] s (effect s) := by
  have hexec : exec (.defDoor f) s = execDefDoor f s := rfl
  have hrange : f.zone ≠ 255 := by have := z.isLt; omega
  have hpasses : (s.running && !(DoorOrder.define f.zone (doorDefOf f)).allowedInRun (s.doors.doors.get n).defn) = false := by
    by_cases hop : s.part.op = .run
    · rw [hallowed hop]
      exact Bool.and_false _
    · rw [Bool.eq_false_iff.2 (mt s.running_iff.1 hop)]
      rfl
  have hzone' : (s.takeHanded (.defDoor f)).zone? f.zone = some z := by
    rw [hz]
    exact State.zone?_of_defined (by rwa [State.takeHanded_zones])
  refine completes_of_effect (hexec.trans rfl) htakes heffect hpart ?_
  simp only [hdoor, number?_val, DoorOrder.ofFields?_define hrange hfits, State.takeHanded_running, State.takeHanded_doors,
    hpasses, hzone', State.takeHanded_zones]
  exact h _ (State.takeHanded_doors _ _) (State.takeHanded_loads _ _) (State.takeHanded_part _ _)

end

/-! ### The door in RUN (R58, R59) -/

theorem Doors.onDoor_onDoor (n : DoorNo) (f g : Door → Door) (ds : Doors) :
    (ds.onDoor n f).onDoor n g = ds.onDoor n (g ∘ f) := by
  have htable : (ds.doors.modify n f).modify n g = ds.doors.modify n (g ∘ f) := by
    refine Table.ext_get fun i => ?_
    simp only [Table.get_modify]
    split <;> rfl
  simp only [Doors.onDoor, htable]

/-- A door with the fields of a DEF-DOOR that leaves its zone and polarities. -/
theorem Doors.redefine_eq {ds : Doors} {n : DoorNo} {p : DoorDef} {g : DoorDef} (hp : (ds.doors.get n).defn = some p)
    (hopen : g.openPolarity = p.openPolarity) (htrailer : g.trailerPolarity = p.trailerPolarity) :
    let d := ds.doors.get n
    let d' : Door := { d with defn := some g }
    ds.redefine n g
      = { ds with
          doors := ds.doors.set n
            (if p.enabled = true ∧ g.enabled = false then
               { d' with state := .disabled, evaluated := false, dwell := none, alert := false }
             else if p.enabled = false ∧ g.enabled = true then
               { d' with
                 evaluated := true
                 state :=
                   if ds.openAsserted n = false then .closed else if ds.trailerAsserted n then .sealed else .opened
                 dwell :=
                   if ds.openAsserted n = true ∧ ds.trailerAsserted n = false then Timer.start g.limit else none }
             else if d.state = .opened ∧ p.limit ≠ g.limit then { d' with dwell := Timer.start g.limit }
             else d') } := by
  intro d d'
  have hcontacts : (ds.onDoor n fun d => { d with defn := some g }).openAsserted n = ds.openAsserted n
      ∧ (ds.onDoor n fun d => { d with defn := some g }).trailerAsserted n = ds.trailerAsserted n := by
    simp only [Doors.openAsserted, Doors.trailerAsserted, Doors.onDoor, Table.get_modify, if_true, Door.openPolarity,
      Door.trailerPolarity, hp, hopen, htrailer, and_self]
  have hopened (hstate : d.state = .opened) : d'.toOpen = { d' with dwell := Timer.start g.limit } := by
    rw [Door.toOpen, Door.limitTimer_of_defined (show d'.defn = some g from rfl), ← hstate]
  have hevaluated : d'.evaluate (ds.openAsserted n) (ds.trailerAsserted n)
      = { d' with
          evaluated := true
          state := if ds.openAsserted n = false then .closed else if ds.trailerAsserted n then .sealed else .opened
          dwell := if ds.openAsserted n = true ∧ ds.trailerAsserted n = false then Timer.start g.limit else none } := by
    cases ds.openAsserted n <;> cases ds.trailerAsserted n <;> rfl
  unfold Doors.redefine
  dsimp only
  rw [hp]
  simp only [hcontacts.1, hcontacts.2, Doors.onDoor_onDoor]
  by_cases hdisabled : p.enabled = true ∧ g.enabled = false
  · rw [if_pos hdisabled, if_pos (by simp [hdisabled])]
    rfl
  · rw [if_neg hdisabled, if_neg (by simpa using hdisabled)]
    by_cases henabled : p.enabled = false ∧ g.enabled = true
    · rw [if_pos henabled, if_pos (by simp [henabled]), ← hevaluated]
      rfl
    · rw [if_neg henabled, if_neg (by simpa using henabled)]
      by_cases hlimit : (ds.doors.get n).state = .opened ∧ p.limit ≠ g.limit
      · rw [if_pos hlimit, if_pos hlimit, ← hopened hlimit.1]
        rfl
      · rw [if_neg hlimit, if_neg hlimit]
        rfl

/-- In RUN zone and polarities stay (R56, check 2). -/
theorem allowedInRun_define_iff {f : DoorFields} (hfits : DoorFits f) {p : DoorDef} :
    (DoorOrder.define f.zone (doorDefOf f)).allowedInRun (some p) = true
      ↔ f.zone = p.zone ∧ f.openPolarity = p.openPolarity.code ∧ f.trailerPolarity = p.trailerPolarity.code := by
  obtain ⟨hopen, htrailer, -⟩ := hfits
  rw [← polarity_eq_iff_code hopen, ← polarity_eq_iff_code htrailer]
  simp only [DoorOrder.allowedInRun, Bool.and_eq_true, beq_iff_eq, and_assoc, eq_comm (a := p.zone.val)]
  rfl

/-- Settles O39: the checks of R56 in their order, and the door that a definition leaves. -/
theorem defDoorIsChecked : Obligations.DefDoorIsChecked := by
  intro s f htakes answers fits defn
  refine ⟨?_, ?_⟩
  · rintro (hdoor | hfits)
    · exact defDoor_badField htakes (.inl hdoor)
    · exact defDoor_badField htakes (.inr (not_or.1 hfits))
  intro n hdoor hfits d bound sets
  refine ⟨fun hop => ⟨fun hzone => ⟨fun hbound hdefined => ?_, fun hfree => ?_⟩, fun hrange hmissing => ?_, fun z hz => ?_⟩,
    fun hop => ⟨fun hother => ?_, fun p hp hzone hdock hopen htrailer => ?_⟩⟩
  · refine defDoor_removes htakes hdoor hop hzone (effect := id) (fun _ _ => rfl) rfl fun u hdoors hloads => ?_
    refine State.placeDoor_inUse ?_ (.inl (State.doorBound_iff.2 (by rwa [hloads])))
    rw [hdoors]
    exact fun heq => hdefined (Option.map_eq_none_iff.1 heq.symm)
  · have hcompletes : Completes (.defDoor f) .ok [] s (s.defineDoor n none) := by
      refine defDoor_removes htakes hdoor hop hzone (State.defineDoor_ignoresHanded none) (State.defineDoor_part _ _)
        fun u hdoors hloads => State.placeDoor_defines ?_
      rw [hdoors, State.doorBound_eq_false_iff, hloads]
      obtain hfree | hnone := hfree
      · exact .inr ⟨hfree, fun _ h => absurd h (Option.not_mem_none _)⟩
      · exact .inl (by rw [show (s.doors.doors.get n).defn = none from hnone])
    rwa [State.defineDoor_stopped hop] at hcompletes
  · exact defDoor_notFound htakes hdoor hop hrange (hfits.resolve_left hrange) hmissing
  · have hin : DoorFits f := hfits.resolve_left (by have := z.isLt; omega)
    have hallowed (hrun : s.part.op = .run) :
        (DoorOrder.define f.zone (doorDefOf f)).allowedInRun (s.doors.doors.get n).defn = true := absurd hrun hop
    refine ⟨fun hfloor => ?_, fun hdock => ⟨fun hmoves hfull => ?_, fun hplaced => ?_⟩⟩
    · refine defDoor_defines htakes hdoor hin hz hallowed (by rw [hfloor]; decide) (effect := id) (fun _ _ => rfl) rfl
        fun u _ _ _ => ?_
      rw [if_pos hfloor]
      rfl
    · refine defDoor_defines htakes hdoor hin hz hallowed (by rw [hdock]; decide) (effect := id) (fun _ _ => rfl) rfl
        fun u hdoors hloads _ => ?_
      rw [hdock, if_neg (by decide)]
      refine State.placeDoor_inUse ?_ ?_
      · rw [hdoors]
        exact fun heq => hmoves heq.symm
      · rw [hdoors, State.doorBound_iff, hloads]
        exact hfull.imp_right fun h => ⟨_, rfl, h⟩
    · have hcompletes : Completes (.defDoor f) .ok [] s (s.defineDoor n (some (defn z))) := by
        refine defDoor_defines htakes hdoor hin hz hallowed (by rw [hdock]; decide)
          (State.defineDoor_ignoresHanded (some (defn z))) (State.defineDoor_part _ _) fun u hdoors hloads _ => ?_
        rw [hdock, if_neg (by decide)]
        refine State.placeDoor_defines ?_
        rw [hdoors, State.doorBound_eq_false_iff, hloads]
        refine hplaced.imp (fun h => h.symm) fun ⟨hfree, hroom⟩ => ⟨hfree, fun g hg => ?_⟩
        rw [← Option.some.inj hg]
        exact hroom
      rwa [State.defineDoor_stopped hop] at hcompletes
  · obtain hzone | hrange := eq_or_ne f.zone 255
    · exact defDoor_wrongState htakes hdoor (DoorOrder.ofFields?_remove hzone) hop rfl
    · have hin := hfits.resolve_left hrange
      refine defDoor_wrongState htakes hdoor (DoorOrder.ofFields?_define hrange hin) hop ?_
      cases hp : (s.doors.doors.get n).defn with
      | none => rfl
      | some p =>
        rw [Bool.eq_false_iff, Ne, allowedInRun_define_iff hin]
        exact fun ⟨hzone, hopen, htrailer⟩ => hother p hp hzone hopen htrailer
  · have hin : DoorFits f := hfits.resolve_left (by have := p.zone.isLt; omega)
    have hdefine := State.defineDoor_running (n := n) hop (defn p.zone)
    have hcompletes : Completes (.defDoor f) .ok [] s (s.defineDoor n (some (defn p.zone))) := by
      refine defDoor_defines htakes hdoor hin hzone (fun _ => ?_) (by rw [hdock]; decide)
        (State.defineDoor_ignoresHanded (some (defn p.zone))) (State.defineDoor_part _ _) fun u hdoors _ _ => ?_
      · rw [show (s.doors.doors.get n).defn = some p from hp]
        exact (allowedInRun_define_iff hin).2 ⟨hzone, hopen, htrailer⟩
      · rw [hdock, if_neg (by decide)]
        refine State.placeDoor_defines (.inl ?_)
        rw [hdoors, show (s.doors.doors.get n).defn = some p from hp]
        rfl
    rw [hdefine] at hcompletes
    refine ⟨_, hcompletes, fun r hr => by cases r <;> simp_all [State.same], ?_⟩
    have hredefined := Doors.redefine_eq (g := defn p.zone) hp ((polarity_eq_iff_code hin.1 _).2 hopen)
      ((polarity_eq_iff_code hin.2.1 _).2 htrailer)
    have hdisabled : (p.enabled = true ∧ (defn p.zone).enabled = false) ↔ (p.enabled = true ∧ f.enabled = 0) := by
      have := hin.2.2.2.2.2
      refine and_congr_right' ?_
      rw [decide_eq_false_iff_not]
      omega
    have henabled : (p.enabled = false ∧ (defn p.zone).enabled = true) ↔ (p.enabled = false ∧ f.enabled = 1) :=
      and_congr_right' decide_eq_true_iff
    exact hredefined.trans (congrArg (fun x => { s.doors with doors := s.doors.doors.set n x })
      (if_congr hdisabled rfl (if_congr henabled rfl rfl)))

end Sys2Proof.Machine
end

section
/-! The figures of a shift boundary (R41, R67, R107). -/

namespace Sys2Proof.Machine

/-! ### Entering figures (R41) -/

theorem enterFirst_found {lacks : Draft → Bool} {enter : Draft → Draft} {before after : List Draft} {d : Draft}
    (hbefore : ∀ x ∈ before, lacks x = false) (hd : lacks d = true) :
    enterFirst lacks enter (before ++ d :: after) = before ++ enter d :: after := by
  induction before with
  | nil => exact if_pos hd
  | cons x before ih =>
    have hx : ¬lacks x = true := by rw [hbefore x List.mem_cons_self]; decide
    rw [List.cons_append, enterFirst, if_neg hx, ih fun y hy => hbefore y (List.mem_cons_of_mem x hy), List.cons_append]

theorem enterFirst_none {lacks : Draft → Bool} {enter : Draft → Draft} {l : List Draft} (h : ∀ x ∈ l, lacks x = false) :
    enterFirst lacks enter l = l := by
  induction l with
  | nil => rfl
  | cons x l ih =>
    have hx : ¬lacks x = true := by rw [h x List.mem_cons_self]; decide
    rw [enterFirst, if_neg hx, ih fun y hy => h y (List.mem_cons_of_mem x hy)]

/-! ### Raising BOUNDARY and ADOPTED -/

/-- The reports being formed, and the Link Unit, after the report of the oldest boundary is raised where it is whole. -/
def State.boundaryRaised (s : State) (entered : List Draft) : List Draft × Link :=
  match entered with
  | ⟨head, some air, some doors, none⟩ :: rest => (rest, (s.raise (.boundary head air doors)).link)
  | ⟨head, some air, some doors, some a⟩ :: rest =>
    (rest, ((s.raise (.boundary head air doors)).raise (.adopted a)).link)
  | _ => (entered, s.link)

theorem State.raiseAll_eq (bs : List Body) (s : State) : s.raiseAll bs = { s with link := (s.raiseAll bs).link } := by
  induction bs generalizing s with
  | nil => rfl
  | cons b bs ih =>
    have hone := s.raise_eq b
    have hrest := ih (s.raise b)
    rw [State.raiseAll, List.foldl_cons]
    exact hrest.trans (by rw [hone]; rfl)

theorem State.raiseBoundary_eq {s u : State} (hlink : u.link = s.link) (hcalendar : u.calendar = s.calendar) :
    u.raiseBoundary
      = { u with drafts := (s.boundaryRaised u.drafts).1, link := (s.boundaryRaised u.drafts).2 } := by
  have hraised (bs : List Body) (rest : List Draft) :
      State.raiseAll bs { u with drafts := rest } = { u with drafts := rest, link := (s.raiseAll bs).link } := by
    rw [State.raiseAll_eq, State.raiseAll_link_congr (s := { u with drafts := rest }) hlink hcalendar]
  have hstays {l : List Draft} (hl : u.drafts = l) : u = { u with drafts := l, link := s.link } := by rw [← hlink, ← hl]
  unfold State.raiseBoundary
  match hdrafts : u.drafts with
  | [] => exact hstays hdrafts
  | ⟨head, some air, some doors, none⟩ :: rest => exact hraised [.boundary head air doors] rest
  | ⟨head, some air, some doors, some a⟩ :: rest => exact hraised [.boundary head air doors, .adopted a] rest
  | ⟨head, none, doors, a⟩ :: rest => exact hstays hdrafts
  | ⟨head, some air, none, a⟩ :: rest => exact hstays hdrafts

/-! ### The figures (R67, R107) -/

/-- The figures of every zone that the Air Unit enters (R107), as R41 names them. -/
theorem State.airFigures_eq (s : State) :
    s.airFigures = (List.finRange 12).map fun z =>
      if s.zones.get z = .undefined then ⟨none, none, 0, false⟩
      else
        ⟨if s.readings.monitors z .co = true ∧ 0 < (s.air.zones.get z).co.count then
            some ((s.air.zones.get z).co.dose / (s.air.zones.get z).co.count) else none,
          if s.readings.monitors z .no2 = true ∧ 0 < (s.air.zones.get z).no2.count then
            some ((s.air.zones.get z).no2.dose / (s.air.zones.get z).no2.count) else none,
          (s.air.zones.get z).highest, (s.air.zones.get z).exceeded⟩ := by
  have hmean (monitored : Bool) (r : GasAir) : (if monitored = true then average r.dose r.count else none)
      = if monitored = true ∧ 0 < r.count then some (r.dose / r.count) else none := by
    unfold average
    cases monitored <;> simp [Nat.pos_iff_ne_zero, ite_not]
  rw [State.airFigures, Table.entries_eq]
  refine List.map_congr_left fun z _ => ?_
  rw [Table.get_mapIdx]
  by_cases hzone : s.zones.get z = .undefined
  · have hno : ¬s.definedZone z = true := by simp [State.definedZone, hzone]
    rw [if_neg hno, if_pos hzone]
    rfl
  · have hyes : s.definedZone z = true := by simp [State.definedZone, hzone]
    rw [if_pos hyes, if_neg hzone, ← hmean, ← hmean]
    rfl

/-- A zone's sums over its doors (R67). -/
theorem Doors.figures_eq (ds : Doors) (z : Zone) :
    ds.figures z
      = ⟨(((List.finRange 32).filter fun n => ((ds.doors.get n).defn.map fun f => f.zone) = some z).map fun n =>
            (ds.doors.get n).opens).sum,
          (((List.finRange 32).filter fun n => ((ds.doors.get n).defn.map fun f => f.zone) = some z).map fun n =>
            (ds.doors.get n).entries).sum⟩ := by
  have hmembers : ds.doors.entries.filter (·.inZone z)
      = ((List.finRange 32).filter fun n => ((ds.doors.get n).defn.map fun f => f.zone) = some z).map ds.doors.get := by
    rw [Table.entries_eq, List.filter_map]
    refine congrArg _ (List.filter_congr fun n _ => ?_)
    rw [Bool.eq_iff_iff, decide_eq_true_iff]
    exact Door.inZone_iff _ z
  simp only [Doors.figures, hmembers, List.map_map]
  rfl

/-! ### The two commands -/

section
variable {s : State}

theorem AirRecomputed.congr {s s' b : State} {zs : List Zone} {new new' : Zone → AirZone} (h : AirRecomputed s b zs new)
    (hair : s'.air = s.air) (hlink : s'.link = s.link) (hcalendar : s'.calendar = s.calendar)
    (hreadings : s'.readings = s.readings) (hloads : s'.loads = s.loads) (hflight : s'.inFlight = s.inFlight)
    (hnew : ∀ z ∈ zs, new' z = new z) : AirRecomputed s' b zs new' := by
  obtain ⟨hrest, hzones, ⟨bs, hperm, hraised⟩, ⟨cs, hcs, hgiven⟩⟩ := h
  refine ⟨by rw [hair]; exact hrest, fun z => ?_, ⟨bs, hperm.trans (List.Perm.of_eq ?_), ?_⟩,
    ⟨cs, hcs.trans (List.Perm.of_eq ?_), by rw [State.given, hflight]; exact hgiven⟩⟩
  · rw [hzones, hair]
    exact if_ctx_congr Iff.rfl (fun hz => (hnew z hz).symm) fun _ => rfl
  · refine List.flatMap_congr fun z hz => ?_
    simp only [airReportsDue, hair, hreadings, hnew z hz]
  · exact hraised.trans (State.raiseAll_link_congr hlink.symm hcalendar.symm bs)
  · refine List.flatMap_congr fun z hz => ?_
    simp only [State.requestsIn, hair, hloads, hnew z hz]

/-- AIR-SHIFT-BOUNDARY in turn in RUN: the figures entered, then every zone cleared and recomputed. -/
theorem airShiftBoundary_leads (hop : s.part.op = .run) (hturn : s.inTurn .airShiftBoundary = true) {entered : List Draft}
    (hentered : enterFirst (·.air.isNone) (fun d => { d with air := some s.airFigures }) s.drafts = entered) :
    LeadsTo .airShiftBoundary s [.air, .link, .drafts, .inFlight, .choices] fun b =>
      b.drafts = (s.boundaryRaised entered).1
      ∧ AirRecomputed { s.takeFlight .airShiftBoundary with link := (s.boundaryRaised entered).2 } b s.zonesDefined fun z =>
          ((s.air.zones.get z).newShift (s.readings.monitors z)).recompute s.air.settings (s.readings.monitors z) := by
  have hexec : exec .airShiftBoundary s = execAirShiftBoundary s := rfl
  rw [← hentered]
  have henter : (s.takeFlight .airShiftBoundary).enterAir (s.takeFlight .airShiftBoundary).airFigures
      = { s.takeFlight .airShiftBoundary with
          drafts := (s.boundaryRaised (enterFirst (·.air.isNone) (fun d => { d with air := some s.airFigures }) s.drafts)).1
          link := (s.boundaryRaised (enterFirst (·.air.isNone) (fun d => { d with air := some s.airFigures }) s.drafts)).2 } :=
    State.raiseBoundary_eq rfl rfl
  refine ⟨_, (hexec.trans (notice_run (s.running_iff.2 hop) hturn)), fun r hr => ?_, ?_, ?_⟩
  · rw [henter]
    cases r <;> simp_all [State.same]
  · rw [henter]
    simp
  · rw [henter]
    have hrecomputed := State.recomputeAir_recomputed
      { s.takeFlight .airShiftBoundary with
          drafts := (s.boundaryRaised (enterFirst (·.air.isNone) (fun d => { d with air := some s.airFigures }) s.drafts)).1
          link := (s.boundaryRaised (enterFirst (·.air.isNone) (fun d => { d with air := some s.airFigures }) s.drafts)).2 }
      (fun _ => true) (fun z => AirZone.newShift (s.readings.monitors z))
    rw [State.filter_true_zones] at hrecomputed
    exact hrecomputed.congr rfl rfl rfl rfl rfl rfl fun _ _ => rfl

theorem doorShiftBoundary_leads (hop : s.part.op = .run) (hturn : s.inTurn .doorShiftBoundary = true) {entered : List Draft}
    (hentered : enterFirst (·.doors.isNone) (fun d => { d with doors := some ((List.finRange 12).map s.doors.figures) })
      s.drafts = entered) :
    exec .doorShiftBoundary s = .next (State.settle
      { s.takeFlight .doorShiftBoundary with
        doors := { s.doors with doors := s.doors.doors.map fun x => { x with opens := 0, entries := 0 } }
        drafts := (s.boundaryRaised entered).1, link := (s.boundaryRaised entered).2 }) := by
  have hexec : exec .doorShiftBoundary s = execDoorShiftBoundary s := rfl
  rw [← hentered, hexec, execDoorShiftBoundary, notice_run (s.running_iff.2 hop) hturn]
  exact congrArg (fun u => Host.Outcome.next (State.settle u)) (State.raiseBoundary_eq rfl rfl)

end

/-- Settles O40: both units enter their figures in the first report that lacks them, and a whole report is raised. -/
theorem boundaryFiguresAreEntered : Obligations.BoundaryFiguresAreEntered := by
  intro s hop airFigures doorFigures raised cleared airTaken doorsTaken
  have hair : s.airFigures = airFigures := s.airFigures_eq
  have hdoors : (List.finRange 12).map s.doors.figures = doorFigures :=
    List.map_congr_left fun z _ => s.doors.figures_eq z
  have hraised (entered : List Draft) : s.boundaryRaised entered = raised entered := by
    match entered with
    | [] => rfl
    | ⟨_, some _, some _, none⟩ :: _ => rfl
    | ⟨_, some _, some _, some _⟩ :: _ => rfl
    | ⟨_, none, _, _⟩ :: _ => rfl
    | ⟨_, some _, none, _⟩ :: _ => rfl
  have hairTaken (entered : List Draft)
      (h : enterFirst (·.air.isNone) (fun d => { d with air := some airFigures }) s.drafts = entered) : airTaken entered := by
    intro hturn
    rw [← hair] at h
    have hleads := airShiftBoundary_leads hop hturn h
    rw [hraised] at hleads
    exact hleads
  have hdoorsTaken (entered : List Draft)
      (h : enterFirst (·.doors.isNone) (fun d => { d with doors := some doorFigures }) s.drafts = entered) :
      doorsTaken entered := by
    intro hturn
    rw [← hdoors] at h
    have hleads := doorShiftBoundary_leads hop hturn h
    rw [hraised] at hleads
    exact hleads
  have hlacks {α : Type} {o : Option α} (h : o ≠ none) : o.isNone = false := by
    rwa [Bool.eq_false_iff, Ne, Option.isNone_iff_eq_none]
  refine ⟨fun before d after hdrafts hbefore hd => hairTaken _ ?_, fun hall => hairTaken _ ?_,
    fun before d after hdrafts hbefore hd => hdoorsTaken _ ?_, fun hall => hdoorsTaken _ ?_⟩
  · rw [hdrafts]
    exact enterFirst_found (fun x hx => hlacks (hbefore x hx)) (Option.isNone_iff_eq_none.2 hd)
  · exact enterFirst_none fun x hx => hlacks (hall x hx)
  · rw [hdrafts]
    exact enterFirst_found (fun x hx => hlacks (hbefore x hx)) (Option.isNone_iff_eq_none.2 hd)
  · exact enterFirst_none fun x hx => hlacks (hall x hx)

end Sys2Proof.Machine
end

section
/-! Sensors that age (R81 to R83). -/

namespace Sys2Proof.Machine

section
variable {s : State} {n : SensorNo}

theorem FiguresGiven.congr {s u b : State} (h : FiguresGiven u b) (hreadings : u.readings = s.readings)
    (hflight : u.inFlight = s.inFlight) : FiguresGiven s b := by
  unfold FiguresGiven State.gives State.given at h ⊢
  rwa [hreadings, hflight] at h

theorem State.onSensor_const (x : Sensor) :
    s.onSensor n (fun _ => x) = { s with readings := { s.readings with sensors := s.readings.sensors.set n x } } := rfl

theorem exec_quietTimerExpiry_running (hop : s.part.op = .run) (h : (s.readings.sensors.get n).quiet ≠ none) :
    exec (.quietTimerExpiry n) s = .next (State.settle (State.raiseAll
      (dueReport n ((s.readings.sensors.get n).quiets s.readings.settings.dueInterval))
      (s.onSensor n fun _ => (s.readings.sensors.get n).quiets s.readings.settings.dueInterval))) := by
  have hexec : exec (.quietTimerExpiry n) s = execQuietTimerExpiry n s := rfl
  rw [hexec, execQuietTimerExpiry, runEvent_run (s.running_iff.2 hop)]
  simp only [if_pos (Option.isSome_iff_ne_none.2 h)]

theorem exec_dueTimerExpiry_asks (hop : s.part.op = .run) (h : (s.readings.sensors.get n).due ≠ none)
    (hcount : (s.readings.sensors.get n).dueCount < s.readings.settings.dueCount) :
    exec (.dueTimerExpiry n) s = .next (State.settle (State.raiseAll
      (dueReport n ((s.readings.sensors.get n).ask s.readings.settings.dueInterval))
      (s.onSensor n fun _ => (s.readings.sensors.get n).ask s.readings.settings.dueInterval))) := by
  have hexec : exec (.dueTimerExpiry n) s = execDueTimerExpiry n s := rfl
  rw [hexec, execDueTimerExpiry, runEvent_run (s.running_iff.2 hop)]
  simp only [if_neg (mt Option.isNone_iff_eq_none.1 h), if_pos hcount]

theorem exec_dueTimerExpiry_loses (hop : s.part.op = .run) (h : (s.readings.sensors.get n).due ≠ none)
    (hcount : s.readings.settings.dueCount ≤ (s.readings.sensors.get n).dueCount) :
    exec (.dueTimerExpiry n) s = .next (State.settle
      ((State.raiseAll (lostReport n (s.readings.sensors.get n)) s).readingEvent n Sensor.lose)) := by
  have hexec : exec (.dueTimerExpiry n) s = execDueTimerExpiry n s := rfl
  rw [hexec, execDueTimerExpiry, runEvent_run (s.running_iff.2 hop)]
  simp only [if_neg (mt Option.isNone_iff_eq_none.1 h), if_neg (Nat.not_lt.2 hcount)]

/-- A sensor's record changes and its DUE report is raised. -/
theorem State.asks_onlyChanges (bs : List Body) (x : Sensor) :
    s.onlyChanges (State.raiseAll bs (s.onSensor n fun _ => x)) [.readings, .link] :=
  fun r hr => by cases r <;> simp_all [State.same]

theorem State.raiseAll_dueReport {x : Sensor} {d : SensorDef} (hdefn : x.defn = some d) :
    (State.raiseAll (dueReport n x) (s.onSensor n fun _ => x)).link = (s.raise (.due n d x.state x.dueCount)).link := by
  have hreport : dueReport n x = [.due n d x.state x.dueCount] := by rw [dueReport, hdefn]
  rw [hreport]
  exact State.raiseAll_link_congr (s := s.onSensor n fun _ => x) (t := s) rfl rfl [.due n d x.state x.dueCount]

end

/-- Settles O44: the timers of a defined sensor, each with its report, and the figures of a sensor that is lost. -/
theorem sensorsAge : Obligations.SensorsAge := by
  intro s n d r sets hop hdefn
  refine ⟨fun hquiet => ?_, fun hdue hcount => ?_, fun hdue hcount => ?_⟩
  · refine ⟨_, exec_quietTimerExpiry_running hop hquiet, State.asks_onlyChanges _ _, ?_, ?_⟩
    · rw [State.raiseAll_readings]
      rfl
    · exact State.raiseAll_dueReport (x := r.quiets s.readings.settings.dueInterval) hdefn
  · refine ⟨_, exec_dueTimerExpiry_asks hop hdue hcount, State.asks_onlyChanges _ _, ?_, ?_⟩
    · rw [State.raiseAll_readings]
      rfl
    · exact State.raiseAll_dueReport (x := r.ask s.readings.settings.dueInterval) hdefn
  · have hdefn' : ((s.raiseAll (lostReport n r)).readings.sensors.get n).defn = some d := by
      rw [State.raiseAll_readings]
      exact hdefn
    refine ⟨_, exec_dueTimerExpiry_loses hop hdue hcount, fun region hr => by cases region <;> simp_all [State.same],
      ?_, ?_, ?_⟩
    · rw [State.readingEvent_readings, State.raiseAll_readings]
      rfl
    · rw [State.readingEvent_link, lostReport, hdefn]
      rfl
    · exact (State.readingEvent_figuresGiven (f := Sensor.lose) hdefn' fun _ => rfl).congr (State.raiseAll_readings _ _)
        (State.raiseAll_inFlight _ _)

end Sys2Proof.Machine
end

section
/-! A recomputation at the Air Unit (R93, R96 to R99). -/

namespace Sys2Proof.Machine

/-! ### Indices and stages (R93, R96) -/

theorem gasIndex_eq (r : GasAir) :
    gasIndex r = max (max r.shortRatio r.shiftRatio) (if r.latch then 100 else if r.substitute then 90 else 0) := by
  unfold gasIndex
  cases r.latch <;> cases r.substitute <;> simp

theorem stageOf_eq (e : Nat) :
    stageOf e = if e ≤ 39 then 0 else if e ≤ 59 then 1 else if e ≤ 79 then 2 else if e ≤ 99 then 3 else 4 := by
  simp only [stageOf, Nat.lt_succ_iff]

theorem purgeFloor_eq (purge : Option Purge) (stage : Nat) :
    purgeFloor purge stage = if purge ≠ none ∧ stage < 2 then 2 else stage := by
  cases purge with
  | none => simp [purgeFloor]
  | some p =>
    simp only [purgeFloor, Option.isSome_some, if_true, ne_eq, Option.some_ne_none, not_false_eq_true, true_and]
    split <;> omega

/-- Step 4 of a recomputation, case by case (R98, R99). -/
theorem decideStage_cases (holdTime raw eff stage : Nat) (hold : Timer) :
    (100 ≤ raw → decideStage holdTime raw eff stage hold = (4, Timer.start holdTime))
    ∧ (raw < 100 → stage < stageOf eff → decideStage holdTime raw eff stage hold = (stageOf eff, Timer.start holdTime))
    ∧ (raw < 100 → stageOf eff < stage → hold ≠ none → decideStage holdTime raw eff stage hold = (stage, hold))
    ∧ (raw < 100 → stageOf eff < stage → hold = none → decideStage holdTime raw eff stage hold = (stageOf (eff + 10), none))
    ∧ (raw < 100 → stageOf eff = stage → decideStage holdTime raw eff stage hold = (stage, hold)) := by
  unfold decideStage
  refine ⟨fun h => if_pos h, fun h hrise => ?_, fun h hfall hrunning => ?_, fun h hfall hidle => ?_, fun h hequal => ?_⟩
  · rw [if_neg (Nat.not_le.2 h), if_pos hrise]
  · rw [if_neg (Nat.not_le.2 h), if_neg (Nat.not_lt.2 hfall.le), if_neg fun hdown => ?_]
    exact hrunning (Option.isNone_iff_eq_none.1 hdown.2)
  · rw [if_neg (Nat.not_le.2 h), if_neg (Nat.not_lt.2 hfall.le), hidle, if_pos ⟨hfall, rfl⟩]
  · rw [if_neg (Nat.not_le.2 h), if_neg (by omega), if_neg fun hdown => by omega]

/-! ### The recomputation (R97) -/

section
variable (settings : AirSettings) (monitors : Gas → Bool) (z : AirZone)

/-- The raw index that a recomputation works out (R96). -/
def AirZone.newRaw : Nat :=
  max (if monitors .co then gasIndex z.co else 0) (if monitors .no2 then gasIndex z.no2 else 0)

theorem AirZone.recompute_raw : (z.recompute settings monitors).raw = z.newRaw monitors := by
  unfold AirZone.recompute AirZone.rawIndex AirZone.onMonitored AirZone.newRaw
  dsimp only
  cases monitors .co <;> cases monitors .no2 <;> rfl

theorem AirZone.recompute_effective :
    (z.recompute settings monitors).effective = effectiveIndex (z.newRaw monitors) z.openCount := by
  rw [← z.recompute_raw settings monitors]
  rfl

/-- Stage and hold of a recomputation. -/
theorem AirZone.recompute_decided :
    let d := decideStage settings.hold (z.newRaw monitors) (effectiveIndex (z.newRaw monitors) z.openCount) z.stage z.hold
    (z.recompute settings monitors).stage = purgeFloor z.purge d.1 ∧ (z.recompute settings monitors).hold = d.2 := by
  intro d
  have hraw := z.recompute_raw settings monitors
  constructor
  · simp only [d, ← hraw]
    rfl
  · simp only [d, ← hraw]
    rfl

theorem AirZone.recompute_highest :
    (z.recompute settings monitors).highest
      = max z.highest (max (if monitors .co then z.co.shortRatio else 0) (if monitors .no2 then z.no2.shortRatio else 0)) := by
  unfold AirZone.recompute AirZone.shortRatios AirZone.onMonitored
  dsimp only
  cases monitors .co <;> cases monitors .no2 <;> rfl

theorem AirZone.recompute_exceeded :
    (z.recompute settings monitors).exceeded = (z.exceeded || decide (100 ≤ z.newRaw monitors)) := by
  rw [← z.recompute_raw settings monitors]
  rfl

end

/-- Settles O46: the indices, then the stage in each of the cases of R98 and R99. -/
theorem airStageIsDecided : Obligations.AirStageIsDecided := by
  intro settings monitors z z' index raw eff band floored
  have hraw : z.newRaw monitors = raw := by
    simp only [AirZone.newRaw, gasIndex_eq]
    rfl
  have hband (e : Nat) : stageOf e = band e := stageOf_eq e
  have hfloored (k : Nat) : purgeFloor z.purge k = floored k := purgeFloor_eq z.purge k
  obtain ⟨hstage, hhold⟩ := z.recompute_decided settings monitors
  rw [hraw, show effectiveIndex raw z.openCount = eff from rfl] at hstage hhold
  rw [hfloored] at hstage
  obtain ⟨htrip, hrise, hwait, hfall, hstay⟩ := decideStage_cases settings.hold raw eff z.stage z.hold
  simp only [hband] at hrise hwait hfall hstay
  refine ⟨(z.recompute_raw settings monitors).trans hraw, ?_, ?_, ?_, rfl, rfl, z.recompute_highest settings monitors, ?_,
    fun h => ?_, fun h hup => ?_, fun h hdown hrun => ?_, fun h hdown hidle => ?_, fun h hequal => ?_⟩
  · exact (z.recompute_effective settings monitors).trans (by rw [hraw]; rfl)
  · exact congrArg (fun x => if monitors .co then ({ z.co with index := x } : GasAir) else z.co) (gasIndex_eq z.co)
  · exact congrArg (fun x => if monitors .no2 then ({ z.no2 with index := x } : GasAir) else z.no2) (gasIndex_eq z.no2)
  · rw [show z'.exceeded = _ from z.recompute_exceeded settings monitors, hraw, Bool.or_eq_true, decide_eq_true_iff]
  · rw [htrip h] at hstage hhold
    exact ⟨hstage.trans (if_neg (by omega)), hhold⟩
  · rw [hrise h hup] at hstage hhold
    exact ⟨hstage, hhold⟩
  · rw [hwait h hdown hrun] at hstage hhold
    exact ⟨hstage, hhold⟩
  · rw [hfall h hdown hidle] at hstage hhold
    exact ⟨hstage, hhold⟩
  · rw [hstay h hequal] at hstage hhold
    exact ⟨hstage, hhold⟩

end Sys2Proof.Machine
end

section
/-! What the Air Unit does with its notices (R94, R101, R102, R106). -/

namespace Sys2Proof.Machine

/-! ### One zone recomputed -/

section
variable {s : State} {z : Zone}

theorem State.definedZone_iff : s.definedZone z = true ↔ s.zones.get z ≠ .undefined := by
  simp [State.definedZone]

theorem State.zonesDefined_filter_eq (h : s.zones.get z ≠ .undefined) : (s.zonesDefined.filter (· == z)) = [z] := by
  have hnodup : s.zonesDefined.Nodup := (List.nodup_finRange 12).filter _
  have hmem : z ∈ s.zonesDefined := List.mem_filter.2 ⟨List.mem_finRange z, decide_eq_true h⟩
  rw [List.filter_beq, List.count_eq_one_of_mem hnodup hmem]
  rfl

theorem busyReports_length_le_one (e : Effects) : (busyReports [e]).length ≤ 1 :=
  (List.length_filter_le _ _).trans (Nat.le_refl 1)

/-- The reports of a single record need no free order. -/
theorem State.emit_choices_single (e : Effects) : (s.emit [e]).choices = s.choices := by
  simp only [State.emit, State.give_choices, State.raiseAll_choices]
  rw [State.countChoice, if_pos (busyReports_length_le_one e)]

theorem State.recomputeAirZone_choices (h : s.zones.get z ≠ .undefined) (change : AirZone → AirZone) :
    (s.recomputeAirZone z change).choices = s.choices := by
  rw [State.recomputeAirZone, State.recomputeAir_eq, State.zonesDefined_filter_eq h]
  exact State.emit_choices_single _

theorem State.recomputeAirZone_onlyChanges (h : s.zones.get z ≠ .undefined) (change : AirZone → AirZone) :
    s.onlyChanges (s.recomputeAirZone z change) [.air, .link, .inFlight] := by
  have hchoices := State.recomputeAirZone_choices h change
  intro r hr
  cases r <;> simp_all [State.same]

theorem State.recomputeAirZone_recomputed (h : s.zones.get z ≠ .undefined) (change : AirZone → AirZone) :
    AirRecomputed s (s.recomputeAirZone z change) [z] fun _ =>
      (change (s.air.zones.get z)).recompute s.air.settings (s.readings.monitors z) := by
  have hrecomputed := s.recomputeAir_recomputed (· == z) fun _ a => change a
  rw [State.zonesDefined_filter_eq h] at hrecomputed
  refine hrecomputed.congr rfl rfl rfl rfl rfl rfl fun y hy => ?_
  rw [List.mem_singleton.1 hy]
  rfl

end

/-! ### Notices about a defined zone -/

section
variable {s : State} {z : Zone} {c : Instr} (hop : s.part.op = .run) (hz : s.zones.get z ≠ .undefined)
include hop hz

/-- A notice that recomputes its zone. -/
theorem airNotice_recomputes {act : State → State} (hexec : exec c s = zoneNotice c z act s) (hturn : s.inTurn c = true)
    (change : AirZone → AirZone) (hact : act (s.takeFlight c) = (s.takeFlight c).recomputeAirZone z change) :
    LeadsTo c s [.air, .link, .inFlight] fun b =>
      AirRecomputed (s.takeFlight c) b [z] fun _ =>
        (change (s.air.zones.get z)).recompute s.air.settings (s.readings.monitors z) := by
  have hz' : (s.takeFlight c).zones.get z ≠ .undefined := hz
  have hflight : s.onlyChanges (s.takeFlight c) [.air, .link, .inFlight] :=
    fun r hr => by cases r <;> simp_all [State.same]
  refine ⟨_, hexec.trans (zoneNotice_run (s.running_iff.2 hop) hturn (State.definedZone_iff.2 hz)), ?_, ?_⟩
  · rw [hact]
    exact hflight.trans (State.recomputeAirZone_onlyChanges hz' change)
  · rw [hact]
    exact State.recomputeAirZone_recomputed hz' change

omit hop hz in
/-- The Air Unit's three cases of a held value (R94). -/
theorem State.takeHeldValue_cases (g : Gas) (v : Option Nat) :
    (s.readings.monitors z g = false → s.takeHeldValue z g v = s)
    ∧ (s.readings.monitors z g = true →
        latchAfter (shortLimit s.air.settings g) v ((s.air.zones.get z).gas g).latch = ((s.air.zones.get z).gas g).latch →
        s.takeHeldValue z g v = s.onAirZone z (AirZone.onGas g (GasAir.takeHeld (shortLimit s.air.settings g) v)))
    ∧ (s.readings.monitors z g = true →
        latchAfter (shortLimit s.air.settings g) v ((s.air.zones.get z).gas g).latch ≠ ((s.air.zones.get z).gas g).latch →
        s.takeHeldValue z g v
          = s.recomputeAirZone z (AirZone.onGas g (GasAir.takeHeld (shortLimit s.air.settings g) v))) := by
  unfold State.takeHeldValue
  dsimp only
  refine ⟨fun hno => if_pos (by rw [hno]; rfl), fun hyes hkept => ?_, fun hyes hmoves => ?_⟩
  · rw [if_neg (by rw [hyes]; decide), if_pos hkept]
  · rw [if_neg (by rw [hyes]; decide), if_neg hmoves]

/-- A held value of a gas (R94). -/
theorem heldValueNotice_cases (g : Gas) (v : Option Nat) (hturn : s.inTurn (.heldValueNotice z g v) = true) :
    let a := s.air.zones.get z
    let new := latchAfter (shortLimit s.air.settings g) v (a.gas g).latch
    let x := a.onGas g fun r => { r with held := v, latch := latchAfter (shortLimit s.air.settings g) v r.latch }
    (s.readings.monitors z g = false →
      exec (.heldValueNotice z g v) s = .next (s.takeFlight (.heldValueNotice z g v)).settle)
    ∧ (s.readings.monitors z g = true → new = (a.gas g).latch →
      exec (.heldValueNotice z g v) s = .next (State.settle
        { s.takeFlight (.heldValueNotice z g v) with air := { s.air with zones := s.air.zones.set z x } }))
    ∧ (s.readings.monitors z g = true → new ≠ (a.gas g).latch →
      LeadsTo (.heldValueNotice z g v) s [.air, .link, .inFlight] fun b =>
        AirRecomputed (s.takeFlight (.heldValueNotice z g v)) b [z] fun _ =>
          x.recompute s.air.settings (s.readings.monitors z)) := by
  intro a new x
  have hexec : exec (.heldValueNotice z g v) s = execHeldValueNotice z g v s := rfl
  have hrun := zoneNotice_run (act := State.takeHeldValue z g v) (s.running_iff.2 hop) hturn (State.definedZone_iff.2 hz)
  obtain ⟨hnone, hstores, hrecomputes⟩ :=
    State.takeHeldValue_cases (s := s.takeFlight (.heldValueNotice z g v)) (z := z) g v
  rw [State.takeFlight_readings] at hnone hstores hrecomputes
  refine ⟨fun hno => ?_, fun hyes hkept => ?_, fun hyes hmoves => ?_⟩
  · rw [hexec, execHeldValueNotice, hrun, hnone hno]
  · rw [hexec, execHeldValueNotice, hrun, hstores hyes hkept]
    rfl
  · exact airNotice_recomputes hop hz hexec hturn
      (AirZone.onGas g (GasAir.takeHeld (shortLimit s.air.settings g) v)) (hrecomputes hyes hmoves)

/-- A substitute flag of a gas (R106). -/
theorem airSubstituteFlagNotice_cases (g : Gas) (flag : Bool)
    (hturn : s.inTurn (.airSubstituteFlagNotice z g flag) = true) :
    (s.readings.monitors z g = false →
      exec (.airSubstituteFlagNotice z g flag) s = .next (s.takeFlight (.airSubstituteFlagNotice z g flag)).settle)
    ∧ (s.readings.monitors z g = true →
      LeadsTo (.airSubstituteFlagNotice z g flag) s [.air, .link, .inFlight] fun b =>
        AirRecomputed (s.takeFlight (.airSubstituteFlagNotice z g flag)) b [z] fun _ =>
          ((s.air.zones.get z).onGas g fun r => { r with substitute := flag }).recompute s.air.settings
            (s.readings.monitors z)) := by
  have hexec : exec (.airSubstituteFlagNotice z g flag) s = execAirSubstituteFlagNotice z g flag s := rfl
  have hrun := zoneNotice_run (act := State.takeSubstitute z g flag) (s.running_iff.2 hop) hturn (State.definedZone_iff.2 hz)
  refine ⟨fun hno => ?_, fun hyes => ?_⟩
  · rw [hexec, execAirSubstituteFlagNotice, hrun, State.takeSubstitute,
      if_neg (by rw [State.takeFlight_readings, hno]; decide)]
  · refine airNotice_recomputes hop hz hexec hturn (AirZone.onGas g fun r => { r with substitute := flag }) ?_
    rw [State.takeSubstitute, if_pos (by rwa [State.takeFlight_readings])]

/-- A profile without purge minutes starts no purge (R101). -/
theorem airProfileChangeNotice_quiet {p : ProfileNo} (hturn : s.inTurn (.airProfileChangeNotice z p) = true)
    (h : (s.calendar.profiles.get p).purge = 0) :
    exec (.airProfileChangeNotice z p) s = .next (s.takeFlight (.airProfileChangeNotice z p)).settle := by
  have hexec : exec (.airProfileChangeNotice z p) s = execAirProfileChangeNotice z p s := rfl
  rw [hexec, execAirProfileChangeNotice, zoneNotice_run (s.running_iff.2 hop) hturn (State.definedZone_iff.2 hz)]
  exact congrArg (fun u => Host.Outcome.next (State.settle u)) (if_pos h)

/-- A profile with purge minutes starts the purge and recomputes (R101). -/
theorem airProfileChangeNotice_purges {p : ProfileNo} (hturn : s.inTurn (.airProfileChangeNotice z p) = true)
    (h : (s.calendar.profiles.get p).purge ≠ 0) :
    LeadsTo (.airProfileChangeNotice z p) s [.air, .link, .inFlight] fun b =>
      AirRecomputed (s.takeFlight (.airProfileChangeNotice z p)) b [z] fun _ =>
        AirZone.recompute s.air.settings (s.readings.monitors z)
          { s.air.zones.get z with
            purge := some ⟨(s.calendar.profiles.get p).purge,
              s.sameEvent (.airProfileChangeNotice z p) .airMinuteExpiryNotice⟩ } := by
  have hexec : exec (.airProfileChangeNotice z p) s = execAirProfileChangeNotice z p s := rfl
  exact airNotice_recomputes hop hz hexec hturn
    (fun a => { a with purge := some ⟨(s.calendar.profiles.get p).purge,
      s.sameEvent (.airProfileChangeNotice z p) .airMinuteExpiryNotice⟩ })
    (if_neg h)

end

/-- The event that gave the first copy of a notice also gave another, still in flight. -/
theorem State.sameEvent_iff {s : State} {c other : Instr} :
    s.sameEvent c other = true
      ↔ ∃ k, (∃ before after, s.inFlight = before ++ ⟨k, c⟩ :: after ∧ ∀ f ∈ before, f.notice ≠ c)
          ∧ ⟨k, other⟩ ∈ s.inFlight := by
  have hfirst (k : Nat) : s.eventOf c = some k
      ↔ ∃ before after, s.inFlight = before ++ ⟨k, c⟩ :: after ∧ ∀ f ∈ before, f.notice ≠ c := by
    rw [State.eventOf, Option.map_eq_some_iff]
    constructor
    · rintro ⟨f, hf, rfl⟩
      obtain ⟨hc, before, after, hsplit, hbefore⟩ := List.find?_eq_some_iff_append.1 hf
      refine ⟨before, after, ?_, fun x hx => by simpa using hbefore x hx⟩
      rw [hsplit, ← beq_iff_eq.1 hc]
    · rintro ⟨before, after, hsplit, hbefore⟩
      exact ⟨⟨k, c⟩, List.find?_eq_some_iff_append.2 ⟨beq_self_eq_true c, before, after, hsplit,
        fun x hx => by simpa using hbefore x hx⟩, rfl⟩
  have hother (k : Nat) : (s.inFlight.any fun f => f.notice == other && f.event == k) = true
      ↔ ⟨k, other⟩ ∈ s.inFlight := by
    rw [List.any_eq_true]
    constructor
    · rintro ⟨⟨_, _⟩, hf, heq⟩
      simp only [Bool.and_eq_true, beq_iff_eq] at heq
      obtain ⟨rfl, rfl⟩ := heq
      exact hf
    · exact fun hf => ⟨_, hf, by simp⟩
  simp only [← hfirst, ← hother]
  unfold State.sameEvent
  cases s.eventOf c <;> simp

/-! ### Minutes of a purge (R102) -/

theorem AirZone.countPurge_eq (a : AirZone) :
    a.countPurge
      = { a with
          purge :=
            match a.purge with
            | none => none
            | some ⟨m, true⟩ => some ⟨m, false⟩
            | some ⟨m, false⟩ => if m ≤ 1 then none else some ⟨m - 1, false⟩ } := by
  unfold AirZone.countPurge
  match a.purge with
  | none => rfl
  | some ⟨_, true⟩ => rfl
  | some ⟨_, false⟩ => rfl

theorem exec_airMinuteExpiryNotice {s : State} (hop : s.part.op = .run) (hturn : s.inTurn .airMinuteExpiryNotice = true) :
    exec .airMinuteExpiryNotice s = .next (State.settle
      { s.takeFlight .airMinuteExpiryNotice with
        air := { s.air with zones := s.air.zones.map AirZone.countPurge } }) := by
  have hexec : exec .airMinuteExpiryNotice s = execAirMinuteExpiryNotice s := rfl
  rw [hexec, execAirMinuteExpiryNotice, notice_run (s.running_iff.2 hop) hturn]
  rfl

theorem exec_purgeExpiry {s : State} (hop : s.part.op = .run) (z : Zone) :
    exec (.purgeExpiry z) s = .next (State.settle (s.onAirZone z fun a => { a with purge := none })) := by
  have hexec : exec (.purgeExpiry z) s = execPurgeExpiry z s := rfl
  rw [hexec, execPurgeExpiry, runEvent_run (s.running_iff.2 hop)]

theorem exec_exhaustStageHoldExpiry {s : State} (hop : s.part.op = .run) (z : Zone) :
    exec (.exhaustStageHoldExpiry z) s = .next (State.settle (s.onAirZone z fun a => { a with hold := none })) := by
  have hexec : exec (.exhaustStageHoldExpiry z) s = execExhaustStageHoldExpiry z s := rfl
  rw [hexec, execExhaustStageHoldExpiry, runEvent_run (s.running_iff.2 hop)]

/-- Settles O47: each notice in turn, then the minute expiry and the two timers. -/
theorem airNoticesAreTaken : Obligations.AirNoticesAreTaken := by
  intro s z hop hz a recomputed stores nothing latched
  have hlatch (limit : Nat) (v : Option Nat) (old : Bool) : latchAfter limit v old = latched limit v old := by
    cases v <;> rfl
  have hheld (g : Gas) (v : Option Nat) :
      if s.readings.monitors z g = false then nothing (.heldValueNotice z g v)
      else if latched (shortLimit s.air.settings g) v (a.gas g).latch = (a.gas g).latch then
        stores (.heldValueNotice z g v)
          (a.onGas g fun r => { r with held := v, latch := latched (shortLimit s.air.settings g) v r.latch })
      else
        recomputed (.heldValueNotice z g v)
          (a.onGas g fun r => { r with held := v, latch := latched (shortLimit s.air.settings g) v r.latch }) := by
    simp only [← hlatch]
    split
    · next hno => exact fun hturn => (heldValueNotice_cases hop hz g v hturn).1 hno
    · next hyes =>
      have hyes : s.readings.monitors z g = true := Bool.eq_true_of_not_eq_false hyes
      split
      · next hkept => exact fun hturn => (heldValueNotice_cases hop hz g v hturn).2.1 hyes hkept
      · next hmoves => exact fun hturn => (heldValueNotice_cases hop hz g v hturn).2.2 hyes hmoves
  have hflag (g : Gas) (flag : Bool) :
      if s.readings.monitors z g = false then nothing (.airSubstituteFlagNotice z g flag)
      else recomputed (.airSubstituteFlagNotice z g flag) (a.onGas g fun r => { r with substitute := flag }) := by
    split
    · next hno => exact fun hturn => (airSubstituteFlagNotice_cases hop hz g flag hturn).1 hno
    · next hyes =>
      exact fun hturn =>
        (airSubstituteFlagNotice_cases hop hz g flag hturn).2 (Bool.eq_true_of_not_eq_false hyes)
  refine ⟨hheld .co, hheld .no2, fun flag => hflag .co flag, fun flag => hflag .no2 flag, fun n hturn => ?_,
    fun p => ⟨fun hzero hturn => airProfileChangeNotice_quiet hop hz hturn hzero, fun hpurge => ?_⟩, ?_, ?_, fun hturn => ?_⟩
  · exact airNotice_recomputes hop hz (act := State.recomputeAirZone z fun a => { a with openCount := n }) rfl hturn
      (fun a => { a with openCount := n }) rfl
  · exact ⟨_, fun hturn => airProfileChangeNotice_purges hop hz hturn hpurge, State.sameEvent_iff⟩
  · exact exec_purgeExpiry hop z
  · exact exec_exhaustStageHoldExpiry hop z
  · rw [exec_airMinuteExpiryNotice hop hturn]
    exact congrArg (fun f : AirZone → AirZone => Host.Outcome.next (State.settle
      { s.takeFlight .airMinuteExpiryNotice with air := { s.air with zones := s.air.zones.map f } }))
      (funext AirZone.countPurge_eq)

end Sys2Proof.Machine
end

section
/-! The sample expiry (R86, R90 to R92). -/

namespace Sys2Proof.Machine

/-! ### The copy of a held value (R91, R94) -/

/-- The Air Unit's copy of a zone's held value of a gas. -/
def State.heldCopy (z : Zone) (g : Gas) (s : State) : Option Nat := ((s.air.zones.get z).gas g).held

theorem AirZone.recompute_held (settings : AirSettings) (monitors : Gas → Bool) (x : AirZone) (g : Gas) :
    ((x.recompute settings monitors).gas g).held = (x.gas g).held := by
  cases g
  · exact (apply_ite GasAir.held (monitors .co = true) _ _).trans (ite_self _)
  · exact (apply_ite GasAir.held (monitors .no2 = true) _ _).trans (ite_self _)

theorem AirZone.gas_onGas_same (g : Gas) (f : GasAir → GasAir) (x : AirZone) : (x.onGas g f).gas g = f (x.gas g) := by
  cases g <;> rfl

theorem AirZone.gas_onGas_other {g g' : Gas} (h : g' ≠ g) (f : GasAir → GasAir) (x : AirZone) :
    (x.onGas g' f).gas g = x.gas g := by
  cases g <;> cases g' <;> first | rfl | exact absurd rfl h

section
variable {s : State} {z : Zone} {g : Gas}

theorem State.onAirZone_heldCopy_same (f : AirZone → AirZone) :
    (s.onAirZone z f).heldCopy z g = ((f (s.air.zones.get z)).gas g).held := by
  simp [State.heldCopy, State.onAirZone, State.withAirZones]

/-- A change of some zone that leaves the copy in this one. -/
theorem State.onAirZone_heldCopy {y : Zone} {f : AirZone → AirZone}
    (h : y = z → ((f (s.air.zones.get z)).gas g).held = s.heldCopy z g) : (s.onAirZone y f).heldCopy z g = s.heldCopy z g := by
  simp only [State.heldCopy, State.onAirZone, State.withAirZones, Table.get_modify]
  split
  · next heq => exact h heq
  · rfl

theorem State.recomputeAirZone_heldCopy_same (hz : s.zones.get z ≠ .undefined) (f : AirZone → AirZone) :
    (s.recomputeAirZone z f).heldCopy z g = ((f (s.air.zones.get z)).gas g).held := by
  have hzone := (State.recomputeAirZone_recomputed hz f).zones z
  rw [if_pos List.mem_cons_self] at hzone
  rw [State.heldCopy, hzone, AirZone.recompute_held]

theorem State.recomputeAirZone_heldCopy {y : Zone} {f : AirZone → AirZone}
    (h : y = z → ((f (s.air.zones.get z)).gas g).held = s.heldCopy z g) :
    (s.recomputeAirZone y f).heldCopy z g = s.heldCopy z g := by
  have hzone := (s.recomputeAir_recomputed (· == y) fun _ a => f a).zones z
  rw [State.heldCopy, State.recomputeAirZone, hzone]
  split
  · next hmem =>
    have heq : z = y := by simpa using (List.mem_filter.1 hmem).2
    rw [State.airRecord, AirZone.recompute_held]
    exact h heq.symm
  · rfl

/-- A held value of a monitored gas is copied. -/
theorem State.takeHeldValue_heldCopy_same (hz : s.zones.get z ≠ .undefined) (hg : s.readings.monitors z g = true)
    (v : Option Nat) : (s.takeHeldValue z g v).heldCopy z g = v := by
  obtain ⟨-, hstores, hrecomputes⟩ := State.takeHeldValue_cases (s := s) (z := z) g v
  by_cases hkept : latchAfter (shortLimit s.air.settings g) v ((s.air.zones.get z).gas g).latch
      = ((s.air.zones.get z).gas g).latch
  · rw [hstores hg hkept, State.onAirZone_heldCopy_same, AirZone.gas_onGas_same]
    rfl
  · rw [hrecomputes hg hkept, State.recomputeAirZone_heldCopy_same hz, AirZone.gas_onGas_same]
    rfl

theorem State.takeHeldValue_heldCopy_other {y : Zone} {g' : Gas} (h : ¬(y = z ∧ g' = g)) (v : Option Nat) :
    (s.takeHeldValue y g' v).heldCopy z g = s.heldCopy z g := by
  have hothers (f : GasAir → GasAir) (heq : y = z) :
      (((s.air.zones.get z).onGas g' f).gas g).held = s.heldCopy z g := by
    rw [AirZone.gas_onGas_other fun hg => h ⟨heq, hg⟩]
    rfl
  unfold State.takeHeldValue
  dsimp only
  split
  · rfl
  · split
    · exact State.onAirZone_heldCopy (hothers _)
    · exact State.recomputeAirZone_heldCopy (hothers _)

theorem State.takeSubstitute_heldCopy (y : Zone) (g' : Gas) (flag : Bool) :
    (s.takeSubstitute y g' flag).heldCopy z g = s.heldCopy z g := by
  unfold State.takeSubstitute
  split
  · refine State.recomputeAirZone_heldCopy fun _ => ?_
    obtain rfl | hne := eq_or_ne g' g
    · rw [AirZone.gas_onGas_same]
      rfl
    · rw [AirZone.gas_onGas_other hne]
      rfl
  · rfl

/-- No notice but a held value of the gas in the zone changes the copy. -/
theorem State.takeReadingNotice_heldCopy {c : Instr} (h : ∀ v, c ≠ .heldValueNotice z g v) :
    (s.takeReadingNotice c).heldCopy z g = s.heldCopy z g := by
  have hsettle (u : State) : u.settle.heldCopy z g = u.heldCopy z g := by simp [State.heldCopy]
  have hflight (d : Instr) (u : State) : (u.takeFlight d).heldCopy z g = u.heldCopy z g := rfl
  have hturn (d : Instr) (u : State) : (u.waitTurn d).heldCopy z g = u.heldCopy z g := by simp [State.heldCopy]
  unfold State.takeReadingNotice
  split
  · next y g' v =>
    refine State.noticed_keeps (State.heldCopy z g) _ _ hsettle (hflight _) (hturn _) fun u => ?_
    split
    · exact State.takeHeldValue_heldCopy_other (fun ⟨hy, hg⟩ => h v (by rw [hy, hg])) v
    · rfl
  · refine State.noticed_keeps (State.heldCopy z g) _ _ hsettle (hflight _) (hturn _) fun u => ?_
    split
    · exact State.takeSubstitute_heldCopy _ _ _
    · rfl
  · rfl

end

/-! ### The notices of the Reading Unit to the Air Unit, in their order (R86) -/

/-- A notice goes from the Reading Unit to the Air Unit. -/
def toAir (c : Instr) : Bool := decide (route c = some (.reading, .air))

/-- The notices of the Reading Unit to the Air Unit that are in flight. -/
def State.toAirInFlight (s : State) : List Instr := (s.inFlight.map fun f => f.notice).filter toAir

theorem toAir_iff (c : Instr) : toAir c = true
    ↔ (∃ z g v, c = .heldValueNotice z g v) ∨ ∃ z g flag, c = .airSubstituteFlagNotice z g flag := by
  rw [toAir, decide_eq_true_iff]
  constructor
  · intro h
    cases c <;> simp [route] at h ⊢
  · rintro (⟨_, _, _, rfl⟩ | ⟨_, _, _, rfl⟩) <;> rfl

theorem State.takeReadingNotice_of_not_toAir {c : Instr} {s : State} (h : toAir c = false) : s.takeReadingNotice c = s := by
  have hno := mt (toAir_iff c).2 (by rw [h]; decide)
  unfold State.takeReadingNotice
  split
  · exact absurd (.inl ⟨_, _, _, rfl⟩) hno
  · exact absurd (.inr ⟨_, _, _, rfl⟩) hno
  · rfl

/-- The Air Unit takes a notice of the Reading Unit as its command does. -/
theorem State.command_toAir {c : Instr} (h : toAir c = true) (s : State) : s.command c = s.takeReadingNotice c := by
  obtain ⟨_, _, _, rfl⟩ | ⟨_, _, _, rfl⟩ := (toAir_iff c).1 h <;> rfl

theorem State.takeReadingNotices_eq (s : State) : s.takeReadingNotices = s.toAirInFlight.foldl State.command s := by
  rw [State.takeReadingNotices, State.toAirInFlight]
  generalize s.inFlight.map (fun f => f.notice) = l
  induction l generalizing s with
  | nil => rfl
  | cons c l ih =>
    rw [List.foldl_cons, List.filter_cons]
    split
    · next h => rw [List.foldl_cons, State.command_toAir h, ih]
    · next h => rw [State.takeReadingNotice_of_not_toAir (Bool.eq_false_iff.2 h), ih]

section
variable {s : State} {c : Instr} {rest : List Instr}

/-- The oldest of them is in turn, and leaves the others in their order. -/
theorem State.toAirInFlight_head (h : s.toAirInFlight = c :: rest) :
    s.inTurn c = true ∧ (s.takeFlight c).toAirInFlight = rest := by
  obtain ⟨before, after, hsplit, hbefore, hc, hrest⟩ := List.filter_eq_cons_iff.1 h
  obtain ⟨l, r, hflight, rfl, hr⟩ := List.map_eq_append_iff.1 hsplit
  obtain ⟨f, r, rfl, rfl, rfl⟩ := List.map_eq_cons_iff.1 hr
  have hl : ∀ x ∈ l, toAir x.notice = false := fun x hx =>
    Bool.eq_false_iff.2 (hbefore _ (List.mem_map_of_mem hx))
  have hne : ∀ x ∈ l, x.notice ≠ f.notice := fun x hx heq => by
    have := hl x hx
    rw [heq, hc] at this
    exact absurd this (by decide)
  constructor
  · simp only [State.inTurn, Bool.not_eq_true', List.any_eq_false, Bool.and_eq_true, beq_iff_eq, not_and]
    intro x hx hroute
    have htake : (s.inFlight.takeWhile fun f' => f'.notice != f.notice) = l := by
      rw [hflight, List.takeWhile_append_of_pos fun x hx => bne_iff_ne.2 (hne x hx), List.takeWhile_cons_of_neg (by simp),
        List.append_nil]
    rw [htake] at hx
    have hx' := hl x hx
    rw [toAir, hroute] at hx'
    rw [toAir, hx'] at hc
    exact absurd hc (by decide)
  · have herase : (s.takeFlight f.notice).inFlight = l ++ r := by
      rw [State.takeFlight, hflight, List.eraseP_append_right _ fun x hx => by simpa using hne x hx,
        List.eraseP_cons_of_pos (by simp)]
    have hnil : (l.map fun x => x.notice).filter toAir = [] :=
      List.filter_eq_nil_iff.2 fun x hx => by
        obtain ⟨y, hy, rfl⟩ := List.mem_map.1 hx
        rw [hl y hy]
        decide
    rw [State.toAirInFlight, herase, List.map_append, List.filter_append, hnil, List.nil_append]
    exact hrest

/-- A recomputation gives nothing to the Air Unit. -/
theorem State.recomputeAirZone_toAirInFlight (z : Zone) (f : AirZone → AirZone) :
    (s.recomputeAirZone z f).toAirInFlight = s.toAirInFlight := by
  obtain ⟨ds, hperm, hgiven⟩ := (s.recomputeAir_recomputed (· == z) fun _ a => f a).given
  have hnil : ds.filter toAir = [] := by
    refine List.filter_eq_nil_iff.2 fun d hd => ?_
    obtain ⟨y, -, hy⟩ := List.mem_flatMap.1 (hperm.mem_iff.1 hd)
    unfold noticeIf at hy
    split at hy
    · rw [List.mem_singleton.1 hy]
      exact Bool.false_ne_true
    · exact absurd hy List.not_mem_nil
  have hflight : (s.recomputeAirZone z f).inFlight.map (fun x => x.notice) = s.inFlight.map (fun x => x.notice) ++ ds := hgiven
  rw [State.toAirInFlight, hflight, List.filter_append, hnil, List.append_nil]
  rfl

theorem State.takeHeldValue_toAirInFlight (z : Zone) (g : Gas) (v : Option Nat) :
    (s.takeHeldValue z g v).toAirInFlight = s.toAirInFlight := by
  unfold State.takeHeldValue
  dsimp only
  split
  · rfl
  · split
    · rfl
    · exact State.recomputeAirZone_toAirInFlight _ _

theorem State.takeSubstitute_toAirInFlight (z : Zone) (g : Gas) (flag : Bool) :
    (s.takeSubstitute z g flag).toAirInFlight = s.toAirInFlight := by
  unfold State.takeSubstitute
  split
  · exact State.recomputeAirZone_toAirInFlight _ _
  · rfl

/-- A notice taken in turn in RUN leaves its zone, where that is defined, as its act does. -/
theorem State.zoneNoticed_run {z : Zone} {act : State → State} (hop : s.part.op = .run) (hturn : s.inTurn c = true)
    (hz : s.zones.get z ≠ .undefined) : s.zoneNoticed c z act = (act (s.takeFlight c)).settle := by
  have h := zoneNotice_run (act := act) (s.running_iff.2 hop) hturn (State.definedZone_iff.2 hz)
  injection h

theorem State.zoneNoticed_toAirInFlight {z : Zone} {act : State → State} (h : s.toAirInFlight = c :: rest)
    (hact : ∀ u : State, (act u).toAirInFlight = u.toAirInFlight) : (s.zoneNoticed c z act).toAirInFlight = rest := by
  obtain ⟨hturn, hrest⟩ := State.toAirInFlight_head h
  have hsettle (u : State) : u.settle.toAirInFlight = u.toAirInFlight := by simp [State.toAirInFlight]
  simp only [State.zoneNoticed, State.noticed, hturn, if_true, hsettle]
  rw [← hrest]
  split
  · split
    · exact hact _
    · rfl
  · rfl

theorem State.takeReadingNotice_toAirInFlight (h : s.toAirInFlight = c :: rest) :
    (s.takeReadingNotice c).toAirInFlight = rest := by
  have hc : toAir c = true := (List.mem_filter.1 (h ▸ List.mem_cons_self : c ∈ s.toAirInFlight)).2
  obtain ⟨z, g, v, rfl⟩ | ⟨z, g, flag, rfl⟩ := (toAir_iff c).1 hc
  · exact State.zoneNoticed_toAirInFlight h fun u => State.takeHeldValue_toAirInFlight z g v
  · exact State.zoneNoticed_toAirInFlight h fun u => State.takeSubstitute_toAirInFlight z g flag

/-- What the Air Unit reads of the other units stays while it takes a notice. -/
theorem State.takeReadingNotice_site (c : Instr) (s : State) :
    ((s.takeReadingNotice c).part, (s.takeReadingNotice c).zones, (s.takeReadingNotice c).readings)
      = (s.part, s.zones, s.readings) := by
  unfold State.takeReadingNotice
  split
  · refine State.noticed_keeps (fun u => (u.part, u.zones, u.readings)) _ _ (by simp) (by simp) (by simp) fun u => ?_
    unfold State.takeHeldValue
    dsimp only
    repeat' split
    all_goals simp
  · refine State.noticed_keeps (fun u => (u.part, u.zones, u.readings)) _ _ (by simp) (by simp) (by simp) fun u => ?_
    unfold State.takeSubstitute
    repeat' split
    all_goals simp
  · rfl

/-- A held value taken in its order is copied. -/
theorem State.takeReadingNotice_copies {z : Zone} {g : Gas} {v : Option Nat} (hop : s.part.op = .run)
    (hz : s.zones.get z ≠ .undefined) (hg : s.readings.monitors z g = true)
    (h : s.toAirInFlight = .heldValueNotice z g v :: rest) :
    (s.takeReadingNotice (.heldValueNotice z g v)).heldCopy z g = v := by
  have hnoticed := State.zoneNoticed_run (act := State.takeHeldValue z g v) hop (State.toAirInFlight_head h).1 hz
  have hcopied := State.takeHeldValue_heldCopy_same (s := s.takeFlight (.heldValueNotice z g v)) hz hg v
  change (s.zoneNoticed (.heldValueNotice z g v) z (State.takeHeldValue z g v)).heldCopy z g = v
  rw [hnoticed, State.heldCopy, State.settle_air]
  exact hcopied

theorem State.takeAll_heldCopy {z : Zone} {g : Gas} {l : List Instr} (h : ∀ v, .heldValueNotice z g v ∉ l) (s : State) :
    (l.foldl State.takeReadingNotice s).heldCopy z g = s.heldCopy z g := by
  induction l generalizing s with
  | nil => rfl
  | cons c l ih =>
    rw [List.foldl_cons, ih fun v hv => h v (List.mem_cons_of_mem c hv)]
    exact State.takeReadingNotice_heldCopy fun v hc => h v (hc ▸ List.mem_cons_self)

/-- The last held value among the notices is the copy that they leave (R91). -/
theorem State.takeAll_copies {z : Zone} {g : Gas} {v : Option Nat} {before after : List Instr} {s : State}
    (hop : s.part.op = .run) (hz : s.zones.get z ≠ .undefined) (hg : s.readings.monitors z g = true)
    (h : s.toAirInFlight = before ++ .heldValueNotice z g v :: after) (hlast : ∀ w, .heldValueNotice z g w ∉ after) :
    (s.toAirInFlight.foldl State.takeReadingNotice s).heldCopy z g = v := by
  rw [h]
  induction before generalizing s with
  | nil =>
    rw [List.nil_append, List.foldl_cons, State.takeAll_heldCopy hlast]
    exact State.takeReadingNotice_copies hop hz hg h
  | cons c before ih =>
    have hsite := s.takeReadingNotice_site c
    simp only [Prod.mk.injEq] at hsite
    obtain ⟨hpart, hzones, hreadings⟩ := hsite
    rw [List.cons_append, List.foldl_cons]
    exact ih (by rw [hpart]; exact hop) (by rw [hzones]; exact hz) (by rw [hreadings]; exact hg)
      (State.takeReadingNotice_toAirInFlight h)

end

/-! ### Samples and minutes (R90 to R92) -/

theorem State.toAirInFlight_foldl (s : State) :
    s.toAirInFlight.foldl State.command s = s.toAirInFlight.foldl State.takeReadingNotice s := by
  have hall : ∀ c ∈ s.toAirInFlight, toAir c = true := fun c hc => (List.mem_filter.1 hc).2
  generalize s.toAirInFlight = l at hall
  induction l generalizing s with
  | nil => rfl
  | cons c l ih =>
    rw [List.foldl_cons, List.foldl_cons, State.command_toAir (hall c List.mem_cons_self)]
    exact ih _ fun d hd => hall d (List.mem_cons_of_mem c hd)

theorem exec_sampleExpiry {s : State} {k : SampleClock} (hop : s.part.op = .run) (hclock : s.air.clock = some k) :
    exec .sampleExpiry s = .next (State.settle
      (let t := s.takeReadingNotices
       let t' := State.takeSamples { t with air := { t.air with clock := some k.tick } }
       if k.tick.expiries % 6 = 0 then t'.closeMinute else t')) := by
  have hexec : exec .sampleExpiry s = execSampleExpiry s := rfl
  rw [hexec, execSampleExpiry, runEvent_run (s.running_iff.2 hop), hclock]

theorem State.takeReadingNotices_onlyChanges (s : State) :
    s.onlyChanges s.takeReadingNotices [.air, .link, .inFlight, .choices] :=
  fun r hr => by cases r <;> simp_all [State.same]

/-- Settles O45: the notices taken in their order, the samples, and every sixth time the minute close. -/
theorem sampleExpirySamplesAndCloses : Obligations.SampleExpirySamplesAndCloses := by
  intro s k hop hclock readings t sample part mean close both sampled t'
  have ht : s.takeReadingNotices = t := s.takeReadingNotices_eq
  have hcopy {z : Zone} {g : Gas} {v : Option Nat} {before after : List Instr}
      (h : readings = before ++ .heldValueNotice z g v :: after) (hlast : ∀ w, .heldValueNotice z g w ∉ after)
      (hz : s.zones.get z ≠ .undefined) (hg : s.readings.monitors z g = true) : t.heldCopy z g = v := by
    rw [← ht, s.takeReadingNotices_eq, s.toAirInFlight_foldl]
    exact State.takeAll_copies hop hz hg h hlast
  have hzones : t.zones = s.zones := by rw [← ht]; exact State.takeReadingNotices_zones s
  have hreadings : t.readings = s.readings := by rw [← ht]; exact State.takeReadingNotices_readings s
  have hsettings : t.air.settings = s.air.settings := by rw [← ht]; exact State.takeReadingNotices_air_settings s
  have hsamples : State.takeSamples { t with air := { t.air with clock := some k.tick } } = t' := by
    have htable : (t.air.zones.mapIdx fun z a =>
        if t.definedZone z then a.onMonitored (t.readings.monitors z) (fun _ => GasAir.sample) else a)
          = Table.ofFn sampled := by
      refine Table.ext_get fun z => ?_
      rw [Table.get_mapIdx, Table.get_ofFn, hreadings, State.definedZone, hzones]
      by_cases hz : s.zones.get z = .undefined
      · simp only [sampled, if_pos hz, hz, bne_self_eq_false, Bool.false_eq_true, if_false]
      · simp only [sampled, if_neg hz, bne_iff_ne.2 hz, if_true]
        rfl
    exact congrArg (fun zones => ({ t with air := { t.air with clock := some k.tick, zones := zones } } : State)) htable
  have hframe : s.onlyChanges t' [.air, .link, .inFlight, .choices] := by
    have hsampled : t.onlyChanges t' [.air, .link, .inFlight, .choices] :=
      fun r hr => by cases r <;> simp_all [State.same, t']
    rw [← ht] at hsampled
    exact s.takeReadingNotices_onlyChanges.trans hsampled
  have hexec := exec_sampleExpiry hop hclock
  simp only [ht, hsamples] at hexec
  refine ⟨fun z before v after h hlast hz hg => hcopy h hlast hz hg,
    fun z before v after h hlast hz hg => hcopy h hlast hz hg, _, hexec, ?_, fun hmore => if_neg hmore,
    fun hsixth => ?_⟩
  · split
    · exact hframe.trans (State.recomputeAir_onlyChanges _ _ _)
    · exact hframe
  · rw [show (if k.tick.expiries % 6 = 0 then t'.closeMinute else t') = t'.closeMinute from if_pos hsixth]
    have hrecomputed := t'.recomputeAir_recomputed (fun _ => true) fun z a =>
      a.onMonitored (t'.readings.monitors z) (GasAir.close t'.air.settings)
    rw [State.filter_true_zones, State.zonesDefined, show t'.zones = s.zones from hzones] at hrecomputed
    refine hrecomputed.congr rfl rfl rfl rfl rfl rfl fun z hz => ?_
    have hrecord : t'.air.zones.get z = sampled z := Table.get_ofFn _ _
    have hgas (g : Gas) : GasAir.close s.air.settings g
        = close (shortLimit s.air.settings g) (shiftLimit s.air.settings g) := by
      funext r
      have hpart (v : Option Nat) (limit : Nat) : ratio v limit = part v limit := by cases v <;> rfl
      rw [GasAir.close, GasAir.withRatios, joinRing, Nat.add_sub_add_right r.ring.length 1 14, hpart, hpart]
      rfl
    rw [State.airRecord, hrecord, show t'.air.settings = s.air.settings from hsettings,
      show t'.readings = s.readings from hreadings, AirZone.onMonitored, hgas, hgas]
    rfl

end Sys2Proof.Machine
end

section
/-! What the Heat Unit does with its notices (R112, R116, R119). -/

namespace Sys2Proof.Machine

/-! ### One zone recomputed -/

section
variable {s : State} {z : Zone}

theorem HeatRecomputed.congr_new {b : State} {zs : List Zone} {new new' : Zone → HeatZone}
    (h : HeatRecomputed s b zs new) (hnew : ∀ y ∈ zs, new' y = new y) : HeatRecomputed s b zs new' := by
  obtain ⟨hrest, hzones, ⟨bs, hperm, hraised⟩, ⟨cs, hcs, hgiven⟩⟩ := h
  refine ⟨hrest, fun y => ?_, ⟨bs, hperm.trans (List.Perm.of_eq ?_), hraised⟩,
    ⟨cs, hcs.trans (List.Perm.of_eq ?_), hgiven⟩⟩
  · rw [hzones]
    exact if_ctx_congr Iff.rfl (fun hy => (hnew y hy).symm) fun _ => rfl
  · exact List.flatMap_congr fun y hy => by rw [hnew y hy]
  · exact List.flatMap_congr fun y hy => by rw [hnew y hy]

theorem State.recomputeHeatZone_choices (h : s.zones.get z ≠ .undefined) (change : HeatZone → HeatZone) :
    (s.recomputeHeatZone z change).choices = s.choices := by
  rw [State.recomputeHeatZone, State.recomputeHeat_eq, State.zonesDefined_filter_eq h]
  exact State.emit_choices_single _

theorem State.recomputeHeatZone_onlyChanges (h : s.zones.get z ≠ .undefined) (change : HeatZone → HeatZone) :
    s.onlyChanges (s.recomputeHeatZone z change) [.heat, .link, .inFlight] := by
  have hchoices := State.recomputeHeatZone_choices h change
  intro r hr
  cases r <;> simp_all [State.same]

theorem State.recomputeHeatZone_recomputed (h : s.zones.get z ≠ .undefined) (change : HeatZone → HeatZone) :
    HeatRecomputed s (s.recomputeHeatZone z change) [z] fun _ =>
      (change (s.heat.zones.get z)).recompute (s.heatInputs z (change (s.heat.zones.get z))) := by
  have hrecomputed := s.recomputeHeat_recomputed (· == z) change
  rw [State.zonesDefined_filter_eq h] at hrecomputed
  refine hrecomputed.congr_new fun y hy => ?_
  rw [List.mem_singleton.1 hy]
  rfl

theorem State.recomputeHeatAll_recomputed (change : HeatZone → HeatZone) :
    HeatRecomputed s (s.recomputeHeatAll change) s.zonesDefined (s.heatRecord change) := by
  have hrecomputed := s.recomputeHeat_recomputed (fun _ => true) change
  rwa [State.filter_true_zones] at hrecomputed

end

/-! ### Notices -/

section
variable {s : State} {z : Zone} {c : Instr} (hop : s.part.op = .run)
include hop

/-- A notice that recomputes its zone. -/
theorem heatNotice_recomputes (hz : s.zones.get z ≠ .undefined) {change : HeatZone → HeatZone}
    (hexec : exec c s = zoneNotice c z (State.recomputeHeatZone z change) s) (hturn : s.inTurn c = true) :
    LeadsTo c s [.heat, .link, .inFlight] fun b =>
      HeatRecomputed (s.takeFlight c) b [z] fun _ =>
        (change (s.heat.zones.get z)).recompute (s.heatInputs z (change (s.heat.zones.get z))) := by
  have hz' : (s.takeFlight c).zones.get z ≠ .undefined := hz
  have hflight : s.onlyChanges (s.takeFlight c) [.heat, .link, .inFlight] :=
    fun r hr => by cases r <;> simp_all [State.same]
  exact ⟨_, hexec.trans (zoneNotice_run (s.running_iff.2 hop) hturn (State.definedZone_iff.2 hz)),
    hflight.trans (State.recomputeHeatZone_onlyChanges hz' change), State.recomputeHeatZone_recomputed hz' change⟩

theorem exec_heatOpenUnsealedCountNotice (hz : s.zones.get z ≠ .undefined) {n : Nat}
    (hturn : s.inTurn (.heatOpenUnsealedCountNotice z n) = true) :
    exec (.heatOpenUnsealedCountNotice z n) s = .next (State.settle
      { s.takeFlight (.heatOpenUnsealedCountNotice z n) with
        heat := { s.heat with zones := s.heat.zones.set z { s.heat.zones.get z with openCount := n } } }) := by
  have hexec : exec (.heatOpenUnsealedCountNotice z n) s = execHeatOpenUnsealedCountNotice z n s := rfl
  rw [hexec, execHeatOpenUnsealedCountNotice, zoneNotice_run (s.running_iff.2 hop) hturn (State.definedZone_iff.2 hz)]
  rfl

theorem heatStageHoldExpiry_recomputes (hz : s.zones.get z ≠ .undefined) (hhold : (s.heat.zones.get z).hold ≠ none) :
    LeadsTo (.heatStageHoldExpiry z) s [.heat, .link, .inFlight] fun b =>
      HeatRecomputed s b [z] fun _ =>
        HeatZone.recompute (s.heatInputs z { s.heat.zones.get z with hold := none })
          { s.heat.zones.get z with hold := none } := by
  have hexec : exec (.heatStageHoldExpiry z) s
      = .next (State.settle (s.recomputeHeatZone z fun h => { h with hold := none })) := by
    have hexec : exec (.heatStageHoldExpiry z) s = execHeatStageHoldExpiry z s := rfl
    rw [hexec, execHeatStageHoldExpiry, runEvent_run (s.running_iff.2 hop), if_pos (Option.isSome_iff_ne_none.2 hhold)]
  exact ⟨_, hexec, State.recomputeHeatZone_onlyChanges hz _, State.recomputeHeatZone_recomputed hz _⟩

/-- A notice that goes over every defined zone. -/
theorem heatNotice_recomputesAll {act : State → State} (hexec : exec c s = notice c act s) (hturn : s.inTurn c = true)
    {heat : Heat} {change : HeatZone → HeatZone}
    (hact : act (s.takeFlight c) = State.recomputeHeatAll change { s.takeFlight c with heat := heat }) :
    LeadsTo c s [.heat, .link, .inFlight, .choices] fun b =>
      HeatRecomputed { s.takeFlight c with heat := heat } b s.zonesDefined
        (State.heatRecord { s.takeFlight c with heat := heat } change) := by
  have hflight : s.onlyChanges { s.takeFlight c with heat := heat } [.heat, .link, .inFlight, .choices] :=
    fun r hr => by cases r <;> simp_all [State.same]
  refine ⟨_, hexec.trans (notice_run (s.running_iff.2 hop) hturn), ?_, ?_⟩
  · rw [hact]
    exact hflight.trans (State.recomputeHeat_onlyChanges _ _ _)
  · rw [hact]
    exact State.recomputeHeatAll_recomputed change

end

/-- Settles O49: each notice in turn, and the expiry of the hold. -/
theorem heatNoticesAreTaken : Obligations.HeatNoticesAreTaken := by
  intro s z hop hz h recomputed ended
  refine ⟨fun v hturn => ?_, fun flag hturn => ?_, fun p hturn => ?_,
    fun n hturn => exec_heatOpenUnsealedCountNotice hop hz hturn, fun hhold => heatStageHoldExpiry_recomputes hop hz hhold,
    fun l hturn => ?_, fun hturn => ?_⟩
  · exact heatNotice_recomputes hop hz (change := fun h => { h with temp := v }) rfl hturn
  · exact heatNotice_recomputes hop hz (change := fun h => { h with holdDown := flag }) rfl hturn
  · exact heatNotice_recomputes hop hz (change := fun h => { h with profile := p }) rfl hturn
  · obtain ⟨b, hexec, hframe, hrecomputed⟩ := heatNotice_recomputesAll hop (act := fun s =>
        State.recomputeHeatAll
          (fun h => if lookaheadChanges s.heat.lookahead l then h.endPreheat s.heat.settings else h)
          { s with heat := { s.heat with lookahead := l, bar := false } }) rfl hturn rfl
    refine ⟨b, hexec, hframe, hrecomputed.congr_new fun y _ => ?_⟩
    dsimp only
    rw [State.heatRecord]
    have hends : (if ((s.heat.lookahead.map fun x => x.profile) == (l.map fun x => x.profile)) = true then s.heat.zones.get y
          else ended (s.heat.zones.get y))
        = if lookaheadChanges s.heat.lookahead l = true then (s.heat.zones.get y).endPreheat s.heat.settings
          else s.heat.zones.get y := by
      unfold lookaheadChanges bne
      cases (s.heat.lookahead.map fun x => x.profile) == (l.map fun x => x.profile) <;> rfl
    rw [hends]
    rfl
  · exact heatNotice_recomputesAll hop (act := fun s =>
      State.recomputeHeatAll (HeatZone.endPreheat s.heat.settings) { s with heat := { s.heat with bar := true } }) rfl
      hturn rfl

end Sys2Proof.Machine
end

section
/-! A recomputation at the Heat Unit (R113 to R121). -/

namespace Sys2Proof.Machine

/-! ### Preheat (R115, R116) -/

section
variable (i : HeatInputs) (z : HeatZone)

/-- A test of preheat moves the preheat state and the hold alone. -/
theorem HeatZone.testPreheat_eq :
    z.testPreheat i = { z with preheat := (z.testPreheat i).preheat, hold := (z.testPreheat i).hold } := by
  unfold HeatZone.testPreheat HeatZone.endPreheat
  repeat' split
  all_goals rfl

/-- The hold starts where an active preheat ends (R116). -/
theorem HeatZone.testPreheat_hold :
    (z.testPreheat i).hold
      = if z.preheat = true ∧ (z.testPreheat i).preheat = false then Timer.start i.settings.hold else z.hold := by
  unfold HeatZone.testPreheat HeatZone.endPreheat
  split
  · split <;> simp_all
  · split
    · simp_all
    · split <;> simp_all

theorem HeatZone.testPreheat_preheat_none (h : i.applies z.temp = none) : (z.testPreheat i).preheat = false := by
  rw [HeatZone.testPreheat, h]
  dsimp only [HeatZone.endPreheat]
  split
  · rfl
  · next hoff => exact Bool.eq_false_iff.2 hoff

theorem HeatZone.testPreheat_preheat_some {target t : Int} {minutes : Nat}
    (h : i.applies z.temp = some (target, minutes, t)) :
    (z.testPreheat i).preheat = true
      ↔ z.preheat = true ∨ (i.bar = false ∧ minutes ≤ lead target t i.settings.rate) := by
  rw [HeatZone.testPreheat, h]
  dsimp only
  split
  · next hon => simp [hon]
  · next hoff =>
    split
    · next hleads => simpa [hoff] using hleads
    · next hno => simpa [hoff] using hno

theorem HeatZone.setpointIn_off (h : z.preheat = false) : z.setpointIn i = i.base := by
  unfold HeatZone.setpointIn
  rw [h]

theorem HeatZone.setpointIn_on {setpoint : Int} {minutes : Nat} (h : z.preheat = true)
    (hnext : i.next = some (setpoint, minutes)) : z.setpointIn i = i.raised setpoint := by
  unfold HeatZone.setpointIn
  rw [h, hnext]

/-- The minutes left lie within the lead (R115). -/
theorem le_lead_iff {target t : Int} {rate minutes : Nat} (h : 1 ≤ minutes) :
    minutes ≤ lead target t rate
      ↔ (minutes : Int) ≤ 120 ∧ 10 * ((minutes : Int) - 1) < (target - t) * rate := by
  unfold lead ceilDiv
  generalize (target - t) * (rate : Int) = x
  omega

/-- Where preheat applies (R115). -/
theorem HeatInputs.applies_eq_some_iff {temp : Option Int} {target t : Int} {minutes : Nat} :
    i.applies temp = some (target, minutes, t)
      ↔ ∃ setpoint, i.next = some (setpoint, minutes) ∧ temp = some t ∧ i.base < i.raised setpoint
          ∧ target = i.raised setpoint := by
  unfold HeatInputs.applies
  match hnext : i.next, temp with
  | none, _ => simp
  | some _, none => simp
  | some (y, k), some u =>
    simp only [Option.ite_none_right_eq_some, Option.some.injEq, Prod.mk.injEq]
    constructor
    · rintro ⟨hlt, rfl, rfl, rfl⟩
      exact ⟨y, ⟨rfl, rfl⟩, rfl, hlt, rfl⟩
    · rintro ⟨_, ⟨rfl, rfl⟩, rfl, hlt, rfl⟩
      exact ⟨hlt, rfl, rfl, rfl⟩

end

/-! ### Frost, stage and cold flag (R114, R117, R118, R121) -/

theorem frostAfter_iff (floor : Nat) (temp : Option Int) (frost : Bool) :
    frostAfter floor temp frost = true
      ↔ (frost = true ∧ ∀ t, temp = some t → t < floor + 10) ∨ ∃ t, temp = some t ∧ t < floor := by
  cases temp with
  | none => simp [frostAfter]
  | some t =>
    cases frost
    · simp [frostAfter]
    · simp only [frostAfter, if_true, decide_eq_true_eq, Option.some.injEq, forall_eq', exists_eq_left', true_and]
      omega

theorem coldAt_iff (setpoint : Int) (temp : Option Int) :
    coldAt setpoint temp = true ↔ ∃ t, temp = some t ∧ t ≤ setpoint - 30 := by
  cases temp <;> simp [coldAt]

theorem setpointStage_eq (e : Int) (stage : Nat) (hold : Timer) :
    setpointStage e stage hold
      = if stage < cand e then cand e else if cand e < stage ∧ hold = none then cand (e + 5) else stage := by
  simp only [setpointStage, Option.isNone_iff_eq_none]

/-- What a zone's recomputation reads of the profiles: setpoints that match the zone's kind (R1, R113). -/
theorem heatingSetpoint_eq {k : ZoneKind} (h : k ≠ .undefined) (p : Profile) :
    heatingSetpoint k p = match k with | .dock => p.dockSetpoint | _ => p.floorSetpoint := by
  cases k
  · exact absurd rfl h
  all_goals rfl

/-- The lookahead's setpoint and minutes, where its profile allows preheat. -/
theorem State.heatInputs_next_iff {s : State} {zone : Zone} {z : HeatZone} {setpoint : Int} {minutes : Nat} :
    (s.heatInputs zone z).next = some (setpoint, minutes)
      ↔ ∃ l, s.heat.lookahead = some l ∧ (s.calendar.profiles.get l.profile).preheat = true
          ∧ setpoint = heatingSetpoint (s.zones.get zone) (s.calendar.profiles.get l.profile) ∧ minutes = l.minutes := by
  simp only [State.heatInputs]
  cases hl : s.heat.lookahead with
  | none => simp
  | some l =>
    simp only [Option.ite_none_right_eq_some, Option.some.injEq, Prod.mk.injEq, exists_eq_left', eq_comm (b := setpoint),
      eq_comm (b := minutes)]

/-- Settles O48: preheat and setpoint, then frost, stage, hold and cold flag in the order of R120. -/
theorem heatStageIsDecided : Obligations.HeatStageIsDecided := by
  intro s zone z hz z' matching floor base applies leads band hold
  have hmatching (p : ProfileNo) : heatingSetpoint (s.zones.get zone) (s.calendar.profiles.get p) = matching p :=
    (heatingSetpoint_eq hz _).trans (by simp only [matching]; split <;> simp_all)
  have hbase : (s.heatInputs zone z).base = base := congrArg (max (floor : Int)) (hmatching z.profile)
  have hraised (p : ProfileNo) : (s.heatInputs zone z).raised
      (heatingSetpoint (s.zones.get zone) (s.calendar.profiles.get p)) = max (floor : Int) (matching p) :=
    congrArg (max (floor : Int)) (hmatching p)
  have happlies {target t : Int} {minutes : Nat} : (s.heatInputs zone z).applies z.temp = some (target, minutes, t)
      ↔ ∃ l, applies l t ∧ minutes = l.minutes ∧ target = max (floor : Int) (matching l.profile) := by
    rw [HeatInputs.applies_eq_some_iff, hbase]
    constructor
    · rintro ⟨y, hnext, ht, hlt, rfl⟩
      obtain ⟨l, hl, hpreheat, rfl, rfl⟩ := State.heatInputs_next_iff.1 hnext
      rw [hraised] at hlt
      exact ⟨l, ⟨hl, hpreheat, hlt, ht⟩, rfl, hraised l.profile⟩
    · rintro ⟨l, ⟨hl, hpreheat, hlt, ht⟩, rfl, rfl⟩
      exact ⟨_, State.heatInputs_next_iff.2 ⟨l, hl, hpreheat, rfl, rfl⟩, ht, by rwa [hraised], (hraised l.profile).symm⟩
  have htested := z.testPreheat_eq (s.heatInputs zone z)
  have htemp : (z.testPreheat (s.heatInputs zone z)).temp = z.temp := by rw [htested]
  have hfrost : (z.testPreheat (s.heatInputs zone z)).frost = z.frost := by rw [htested]
  have hstage : (z.testPreheat (s.heatInputs zone z)).stage = z.stage := by rw [htested]
  have hdown : (z.testPreheat (s.heatInputs zone z)).holdDown = z.holdDown := by rw [htested]
  have hopen : (z.testPreheat (s.heatInputs zone z)).openCount = z.openCount := by rw [htested]
  have hprofile : (z.testPreheat (s.heatInputs zone z)).profile = z.profile := by rw [htested]
  have hhold : (z.testPreheat (s.heatInputs zone z)).hold = hold := z.testPreheat_hold _
  have hnew : z'.stage = heatStage z'.setpoint z.temp z'.frost z.holdDown z.stage hold := by
    rw [← htemp, ← hdown, ← hstage, ← hhold]
    rfl
  refine ⟨⟨htemp, hdown, hopen, hprofile⟩, fun hnone => ?_, fun l t hl hminutes => ?_, ?_, ?_, fun hon => ?_,
    fun hoff hunknown => ?_, fun t hoff hknown => ?_, ?_⟩
  · have happliesNone : (s.heatInputs zone z).applies z.temp = none := by
      cases h : (s.heatInputs zone z).applies z.temp with
      | none => rfl
      | some x =>
        obtain ⟨l, hl, -, -⟩ := happlies.1 h
        exact absurd hl (hnone l _)
    have hoff := z.testPreheat_preheat_none _ happliesNone
    exact ⟨hoff, (HeatZone.setpointIn_off _ _ hoff).trans hbase⟩
  · have happliesSome := happlies.2 ⟨l, hl, rfl, rfl⟩
    have hon := z.testPreheat_preheat_some _ happliesSome
    rw [le_lead_iff hminutes] at hon
    refine ⟨hon, ?_⟩
    split
    · next hyes =>
      have hnext := (State.heatInputs_next_iff (zone := zone) (z := z)).2 ⟨l, hl.1, hl.2.1, rfl, rfl⟩
      exact (HeatZone.setpointIn_on _ _ hyes hnext).trans (hraised l.profile)
    · next hno => exact (HeatZone.setpointIn_off _ _ (Bool.eq_false_iff.2 hno)).trans hbase
  · rw [← frostAfter_iff, ← hfrost, ← htemp]
    exact Iff.rfl
  · rw [← coldAt_iff, ← htemp]
    exact Iff.rfl
  · rw [hnew, heatStage.eq_def, if_pos hon]
  · rw [hnew, heatStage.eq_def, hoff, hunknown]
    rfl
  · intro e ruled
    have hruled : setpointStage e z.stage hold = ruled := setpointStage_eq e z.stage hold
    rw [hnew, heatStage.eq_def, hoff, hknown, ← hruled]
    rfl
  · rw [← hstage, ← hhold]
    rfl

end Sys2Proof.Machine
end

section
/-! What the Light Unit does with its notices (R125, R126, R128, R129). -/

namespace Sys2Proof.Machine

/-! ### The loads of a type in a zone -/

section
variable {s : State} {z : Zone}

theorem mem_loadsOf_iff {loads : Table 64 Load} {t : LoadType} {n : LoadNo} :
    n ∈ loadsOf loads t z ↔ ∃ f, (loads.get n).defn = some f ∧ f.type = t ∧ f.zone = z := by
  rw [loadsOf, List.mem_filter]
  unfold Load.isType Load.inZone
  cases (loads.get n).defn <;> simp

/-- Requests worked out load by load are those of the definitions. -/
theorem loadsOf_map_eq_requestsIn (t : LoadType) {q : LoadNo → Nat} {r : LoadDef → Nat}
    (h : ∀ n f, (s.loads.get n).defn = some f → f.type = t → f.zone = z → q n = r f) :
    (loadsOf s.loads t z).map (fun n => (n, q n)) = s.requestsIn t z r := by
  rw [loadsOf, State.requestsIn, ← List.filterMap_eq_map, ← List.filterMap_eq_filter, List.filterMap_filterMap]
  refine List.filterMap_congr fun n _ => ?_
  simp only [Load.isType, Load.inZone, Option.guard_apply]
  cases hdefn : (s.loads.get n).defn with
  | none => rfl
  | some f =>
    by_cases hf : f.type = t ∧ f.zone = z
    · simp [hf, h n f hdefn hf.1 hf.2]
    · simp [hf]

/-- Requests noted one after the other, each a value of its own load. -/
theorem noteRequests_get (l : List LoadNo) (q : LoadNo → Nat) (t : Table 64 Nat) (n : LoadNo) :
    (noteRequests (l.map fun n => (n, q n)) t).get n = if n ∈ l then q n else t.get n := by
  unfold noteRequests
  induction l generalizing t with
  | nil => rfl
  | cons m l ih =>
    rw [List.map_cons, List.foldl_cons, ih, Table.get_set]
    by_cases hm : m = n
    · simp [hm]
    · simp [hm, Ne.symm hm]

end

/-! ### A recomputation (R125, R126, R129) -/

section
variable {s : State} {z : Zone} {n : LoadNo} {f : LoadDef}

/-- The level that matches a zone's kind (R1, R125). -/
theorem baseLevel_eq (k : ZoneKind) (p : Profile) :
    k ≠ .undefined → baseLevel k p = match k with | .dock => p.dockLight | _ => p.floorLight := by
  intro h
  cases k
  · exact absurd rfl h
  all_goals rfl

/-- The request of a LIGHT load by its definition (R126). -/
def lampRequest (dock : Table 32 Bool) (level : Nat) (f : LoadDef) : Nat :=
  match f.door with
  | some d => if dock.get d then 100 else level
  | none => level

theorem lightRequest_of_defined {dock : Table 32 Bool} {l : Load} (h : l.defn = some f) (level : Nat) :
    lightRequest dock l level = lampRequest dock level f := by
  unfold lightRequest
  rw [h]
  rfl

theorem State.lightRequestsOf_eq (level : Nat) :
    s.lightRequestsOf z level = s.requestsIn .light z (lampRequest s.light.dock level) :=
  loadsOf_map_eq_requestsIn .light fun _ _ h _ _ => lightRequest_of_defined h level

theorem State.lightRequestsOf_isEmpty_iff (level : Nat) : (s.lightRequestsOf z level).isEmpty = true
    ↔ ¬∃ n f, (s.loads.get n).defn = some f ∧ f.type = .light ∧ f.zone = z := by
  rw [List.isEmpty_iff, State.lightRequestsOf, List.map_eq_nil_iff, List.eq_nil_iff_forall_not_mem, not_exists]
  exact forall_congr' fun n => not_congr mem_loadsOf_iff

/-- The requests are those given last exactly where no LIGHT load's has changed. -/
theorem State.lightRequestsOf_all_iff (level : Nat) :
    ((s.lightRequestsOf z level).all fun r => s.light.requests.get r.1 == r.2) = true
      ↔ ¬∃ n f, ((s.loads.get n).defn = some f ∧ f.type = .light ∧ f.zone = z)
          ∧ lampRequest s.light.dock level f ≠ s.light.requests.get n := by
  simp only [List.all_eq_true, State.lightRequestsOf, List.forall_mem_map, beq_iff_eq, not_exists, not_and, not_not]
  refine forall_congr' fun n => ⟨fun h f hlamp => ?_, fun h hmem => ?_⟩
  · rw [← lightRequest_of_defined hlamp.1]
    exact (h (mem_loadsOf_iff.2 ⟨f, hlamp⟩)).symm
  · obtain ⟨f, hlamp⟩ := mem_loadsOf_iff.1 hmem
    rw [lightRequest_of_defined hlamp.1]
    exact (h f hlamp).symm

/-- The level that a recomputation works out (R125). -/
def State.newLevel (s : State) (z : Zone) (x : LightZone) : Nat :=
  lightLevel (baseLevel (s.zones.get z) (s.calendar.profiles.get x.profile)) (s.calendar.profiles.get x.profile).egress x.lux

/-- The record that a recomputation leaves (R129). -/
def State.newLight (s : State) (z : Zone) (x : LightZone) : LightZone :=
  { x with level := s.newLevel z x, floor := (s.calendar.profiles.get x.profile).egress }

theorem State.recomputeLight_light (change : LightZone → LightZone) :
    (s.recomputeLight z change).light
      = { s.light with
          zones := s.light.zones.set z (s.newLight z (change (s.light.zones.get z)))
          requests := noteRequests (s.lightRequestsOf z (s.newLevel z (change (s.light.zones.get z))))
            s.light.requests } := rfl

theorem State.recomputeLight_request_lamp (change : LightZone → LightZone)
    (hlamp : (s.loads.get n).defn = some f ∧ f.type = .light ∧ f.zone = z) :
    (s.recomputeLight z change).light.requests.get n
      = lampRequest s.light.dock (s.newLevel z (change (s.light.zones.get z))) f := by
  rw [State.recomputeLight_light]
  dsimp only
  rw [State.lightRequestsOf, noteRequests_get, if_pos (mem_loadsOf_iff.2 ⟨f, hlamp⟩), lightRequest_of_defined hlamp.1]

theorem State.recomputeLight_request_other (change : LightZone → LightZone)
    (hother : ∀ f, ¬((s.loads.get n).defn = some f ∧ f.type = .light ∧ f.zone = z)) :
    (s.recomputeLight z change).light.requests.get n = s.light.requests.get n := by
  rw [State.recomputeLight_light]
  dsimp only
  rw [State.lightRequestsOf, noteRequests_get,
    if_neg fun hmem => (mem_loadsOf_iff.1 hmem).elim fun f hf => hother f hf]

theorem State.recomputeLight_given (change : LightZone → LightZone) :
    s.given (s.recomputeLight z change)
      (s.lightNotices z (s.light.zones.get z) (s.newLight z (change (s.light.zones.get z)))) := by
  have hrecord : (s.lightAfter z change).zones.get z = s.newLight z (change (s.light.zones.get z)) :=
    (Table.get_set _ _ _ _).trans (if_pos rfl)
  rw [← hrecord]
  exact State.give_notices _ _

/-- What a change to a record calls for a light notice (R129). -/
def State.lightChanges (s : State) (z : Zone) (old new : LightZone) : Prop :=
  (∃ n f, (s.loads.get n).defn = some f ∧ f.type = .light ∧ f.zone = z)
    ∧ (new.floor ≠ old.floor
        ∨ ∃ n f, ((s.loads.get n).defn = some f ∧ f.type = .light ∧ f.zone = z)
            ∧ lampRequest s.light.dock new.level f ≠ s.light.requests.get n)

theorem State.lightNotices_unchanged {old new : LightZone} (h : ¬s.lightChanges z old new) :
    s.lightNotices z old new = [] := by
  unfold State.lightNotices State.lightNoticeOf
  split
  · rfl
  · next hmoves =>
    rw [State.lightRequestsOf_all_iff, not_and_or, not_not] at hmoves
    exact if_pos ((State.lightRequestsOf_isEmpty_iff _).2 fun hlamps =>
      h ⟨hlamps, hmoves.imp_left fun hfloor heq => hfloor heq.symm⟩)

theorem State.lightNotices_changed {old new : LightZone} (h : s.lightChanges z old new) :
    s.lightNotices z old new
      = [.lightNotice z new.floor (s.requestsIn .light z (lampRequest s.light.dock new.level))] := by
  obtain ⟨hlamps, hmoves⟩ := h
  unfold State.lightNotices State.lightNoticeOf
  rw [if_neg fun ⟨hsame, hkept⟩ =>
      hmoves.elim (fun hfloor => hfloor hsame.symm) ((State.lightRequestsOf_all_iff _).1 hkept),
    if_neg fun hempty => (State.lightRequestsOf_isEmpty_iff _).1 hempty hlamps, State.lightRequestsOf_eq]

theorem State.recomputeLight_onlyChanges (change : LightZone → LightZone) :
    s.onlyChanges (s.recomputeLight z change) [.light, .inFlight] :=
  fun r hr => by cases r <;> simp_all [State.same]

end

/-- Settles O50: the record, the requests of the LIGHT loads, and the one notice of what changed. -/
theorem lightNoticesAreTaken : Obligations.LightNoticesAreTaken := by
  intro s z hop hz old recomputed
  have hrecomputes {c : Instr} {dock : Table 32 Bool} {change : LightZone → LightZone}
      (hexec : s.inTurn c = true →
        exec c s = .next (State.recomputeLight z change { s.takeFlight c with light := { s.light with dock := dock } }).settle) :
      recomputed c (change old) dock := by
    intro hturn
    have hframe : s.onlyChanges { s.takeFlight c with light := { s.light with dock := dock } } [.light, .inFlight] :=
      fun r hr => by cases r <;> simp_all [State.same]
    refine ⟨_, hexec hturn, hframe.trans (State.recomputeLight_onlyChanges change), ?_⟩
    beta_reduce
    intro p base level lamp request changes
    have hlevel : State.newLevel { s.takeFlight c with light := { s.light with dock := dock } } z (change old) = level :=
      congrArg (fun b => lightLevel b p.egress (change old).lux) (baseLevel_eq _ p hz)
    have hrequest : lampRequest dock level = request := by
      funext f
      unfold lampRequest
      cases hdoor : f.door <;> simp only [request, hdoor]
    have hrecord : State.newLight { s.takeFlight c with light := { s.light with dock := dock } } z (change old)
        = { change old with level := level, floor := p.egress } :=
      congrArg (fun l => ({ change old with level := l, floor := p.egress } : LightZone)) hlevel
    generalize hu : ({ s.takeFlight c with light := { s.light with dock := dock } } : State) = u at *
    have hold : u.light.zones.get z = old := by rw [← hu]
    have hlamp (n : LoadNo) (f : LoadDef) (h : lamp n f) : (u.recomputeLight z change).light.requests.get n = request f := by
      rw [State.recomputeLight_request_lamp change (by rw [← hu]; exact h), hold, hlevel, ← hrequest, ← hu]
    have hchanges : u.lightChanges z old { change old with level := level, floor := p.egress } ↔ changes := by
      rw [← hu]
      exact Iff.of_eq (congrArg (fun r : LoadDef → Nat => (∃ n f, lamp n f) ∧ (p.egress ≠ old.floor
        ∨ ∃ n f, lamp n f ∧ r f ≠ s.light.requests.get n)) hrequest)
    have hgiven := State.recomputeLight_given (s := u) (z := z) change
    rw [hold, hrecord] at hgiven
    have hflight (t : State) (cs : List Instr) : u.given t cs → (s.takeFlight c).given t cs := by
      rw [← hu]
      exact id
    refine ⟨?_, ?_, hlamp, fun n hn => ?_, fun hno => hflight _ _ ?_, fun hyes => hflight _ _ ?_⟩
    · rw [State.recomputeLight_light, hold, hrecord, ← hu]
    · rw [State.recomputeLight_light, ← hu]
    · rw [State.recomputeLight_request_other change (by rw [← hu]; exact hn), ← hu]
    · rwa [State.lightNotices_unchanged (mt hchanges.1 hno)] at hgiven
    · rw [State.lightNotices_changed (hchanges.2 hyes)] at hgiven
      rw [← hrequest]
      rw [← hu] at hgiven ⊢
      exact hgiven
  refine ⟨fun p => ?_, fun lux => ?_, fun d isSealed f hd hf => ?_⟩
  · refine hrecomputes (c := .lightProfileChangeNotice z p) (dock := s.light.dock)
      (change := fun l => { l with profile := p }) fun hturn => ?_
    exact zoneNotice_run (s.running_iff.2 hop) hturn (State.definedZone_iff.2 hz)
  · refine hrecomputes (c := .zoneLuxNotice z lux) (dock := s.light.dock)
      (change := fun l => { l with lux := lux }) fun hturn => ?_
    exact zoneNotice_run (s.running_iff.2 hop) hturn (State.definedZone_iff.2 hz)
  · refine hrecomputes (c := .dockLightNotice d isSealed) (change := fun l => l) fun hturn => ?_
    have hexec : exec (.dockLightNotice d isSealed) s = execDockLightNotice d isSealed s := rfl
    have hzone : (s.takeFlight (.dockLightNotice d isSealed)).doorZone? d = some z := by
      rw [State.doorZone?, State.takeFlight_doors, hd, ← hf]
      exact if_pos (State.definedZone_iff.2 (by rw [hf]; exact hz))
    rw [hexec, execDockLightNotice, notice_run (s.running_iff.2 hop) hturn, hzone]
    rfl

end Sys2Proof.Machine
end

section
/-! The Budget Unit's notices, its demand cap and its timers (R17, R133 to R136, R142, R144, R145). -/

namespace Sys2Proof.Machine

section
variable {s : State} {z : Zone}

/-! ### Notices (Table 8-2) -/

theorem setRequests_get (t : LoadType) (rs : List (LoadNo × Nat)) (loads : Table 64 Load) (n : LoadNo) :
    (setRequests t z rs loads).get n
      = match (loads.get n).defn, rs.lookup n with
        | some f, some r =>
          if f.type = t ∧ f.zone = z then { loads.get n with request := min r f.maxLevel } else loads.get n
        | _, _ => loads.get n := by
  rw [setRequests, Table.get_mapIdx]
  unfold Load.isType Load.inZone Load.maxLevel
  cases hdefn : (loads.get n).defn with
  | none => rfl
  | some f =>
    cases rs.lookup n with
    | none => exact ite_self _
    | some r =>
      refine if_congr (by simp only [Bool.and_eq_true, beq_iff_eq]) ?_ rfl
      dsimp only
      rw [hdefn]

/-- A notice about a zone that changes loads and copies and runs a pass. -/
theorem budgetNotice_runs {c : Instr} {act : State → State} (hop : s.part.op = .run) (hz : s.zones.get z ≠ .undefined)
    (hexec : exec c s = zoneNotice c z act s) (hturn : s.inTurn c = true) :
    exec c s = .next (act (s.takeFlight c)).settle :=
  hexec.trans (zoneNotice_run (s.running_iff.2 hop) hturn (State.definedZone_iff.2 hz))

theorem exec_curtainRequestNotice (hop : s.part.op = .run) {n : LoadNo} {r : Nat} {f : LoadDef}
    (hdefn : (s.loads.get n).defn = some f) (htype : f.type = .curtain)
    (hturn : s.inTurn (.curtainRequestNotice n r) = true) :
    exec (.curtainRequestNotice n r) s = .next (State.settle (State.pass
      { s.takeFlight (.curtainRequestNotice n r) with
        loads := s.loads.set n { s.loads.get n with request := min r f.maxLevel } })) := by
  have hexec : exec (.curtainRequestNotice n r) s = execCurtainRequestNotice n r s := rfl
  have hcurtain : ((s.takeFlight (.curtainRequestNotice n r)).loads.get n).isType .curtain = true := by
    rw [State.takeFlight_loads, Load.isType, hdefn]
    exact beq_iff_eq.2 htype
  have hmax : (s.loads.get n).maxLevel = f.maxLevel := by rw [Load.maxLevel, hdefn]
  rw [hexec, execCurtainRequestNotice, notice_run (s.running_iff.2 hop) hturn, if_pos hcurtain, ← hmax]
  rfl

end

/-- Settles O51: each notice's own change, and the pass that follows. -/
theorem budgetNoticesRunPass : Obligations.BudgetNoticesRunPass := by
  intro s z hop hz copies runs copied requested
  refine ⟨fun stage rs => ⟨_, setRequests_get .exhaust rs s.loads, fun hturn => ?_⟩,
    fun cold frost rs => ⟨_, setRequests_get .heater rs s.loads, fun hturn => ?_⟩,
    fun floor rs => ⟨_, setRequests_get .light rs s.loads, fun hturn => ?_⟩,
    fun n r f hdefn htype hturn => exec_curtainRequestNotice hop hdefn htype hturn,
    fun flag => ⟨fun hturn => ?_, fun hturn => ?_⟩, fun n mode hturn => ?_⟩
  · exact budgetNotice_runs hop hz rfl hturn
  · exact budgetNotice_runs hop hz rfl hturn
  · exact budgetNotice_runs hop hz rfl hturn
  · exact budgetNotice_runs hop hz rfl hturn
  · exact budgetNotice_runs hop hz rfl hturn
  · have hexec : exec (.siteProfileNotice n mode) s = execSiteProfileNotice n mode s := rfl
    rw [hexec, execSiteProfileNotice, notice_run (s.running_iff.2 hop) hturn]
    rfl

/-! ### The demand cap (R133 to R135) -/

section
variable {s : State}

theorem State.withCap_ignoresHanded (c : Option Cap) : IgnoresHanded fun s => (s.withCap c).pass :=
  fun s o => (s.withCap c).pass_withHanded o

theorem State.withCap_some (s : State) (v : Nat) (span : Span) :
    s.withCap (some ⟨v, span⟩)
      = { s with budget := { s.budget with cap := some ⟨v, span⟩, inForce := min s.budget.site v } } := rfl

theorem State.withCap_none (s : State) :
    s.withCap none = { s with budget := { s.budget with cap := none, inForce := s.budget.site } } := rfl

theorem clampTo_eq_iff (value : Int) : clampTo 0 20000 value = value ↔ 0 ≤ value ∧ value ≤ 20000 := by
  unfold clampTo
  omega

section
variable (htakes : s.takesRequests = true) {value : Int} {duration : Nat}
include htakes

theorem cap_badField (h : 1440 < duration) : AnswersOnly (.cap value duration) .badField [] s := by
  have hexec : exec (.cap value duration) s = execCap value duration s := rfl
  refine answersOnly_of_refuse (hexec.trans rfl) htakes ?_
  rw [if_pos h]

theorem cap_wrongState (h : duration ≤ 1440) (hop : s.part.op ≠ .run) :
    AnswersOnly (.cap value duration) .wrongState [] s := by
  have hexec : exec (.cap value duration) s = execCap value duration s := rfl
  have hrun : s.running = false := Bool.eq_false_iff.2 (mt s.running_iff.1 hop)
  refine answersOnly_of_refuse (hexec.trans rfl) htakes ?_
  rw [if_neg (Nat.not_lt.2 h), if_pos (by rw [State.takeHanded_running, hrun]; rfl)]

theorem cap_accepted (h : duration ≤ 1440) (hop : s.part.op = .run) :
    Completes (.cap value duration) (if 0 ≤ value ∧ value ≤ 20000 then .ok else .clamped) [] s
      (s.withCap (some ⟨(clampTo 0 20000 value).toNat, spanOf duration⟩)).pass := by
  have hexec : exec (.cap value duration) s = execCap value duration s := rfl
  refine completes_of_effect (hexec.trans rfl) htakes (State.withCap_ignoresHanded _) (State.pass_part _) ?_
  rw [if_neg (Nat.not_lt.2 h), if_neg (by rw [State.takeHanded_running, s.running_iff.2 hop]; decide)]
  exact congrArg (fun a => (State.pass _, Answer.bare a)) (if_congr (clampTo_eq_iff value) rfl rfl)

theorem capEnd_wrongState (hop : s.part.op ≠ .run) : AnswersOnly .capEnd .wrongState [] s := by
  have hexec : exec .capEnd s = execCapEnd s := rfl
  have hrun : s.running = false := Bool.eq_false_iff.2 (mt s.running_iff.1 hop)
  refine answersOnly_of_refuse (hexec.trans rfl) htakes ?_
  rw [if_pos (by rw [State.takeHanded_running, hrun]; rfl)]

theorem capEnd_notFound (hop : s.part.op = .run) (hcap : s.budget.cap = none) : AnswersOnly .capEnd .notFound [] s := by
  have hexec : exec .capEnd s = execCapEnd s := rfl
  refine answersOnly_of_refuse (hexec.trans rfl) htakes ?_
  rw [if_neg (by rw [State.takeHanded_running, s.running_iff.2 hop]; decide),
    if_pos (by rw [State.takeHanded_budget, hcap]; rfl)]

theorem capEnd_accepted (hop : s.part.op = .run) (hcap : s.budget.cap ≠ none) :
    Completes .capEnd .ok [] s (s.withCap none).pass := by
  have hexec : exec .capEnd s = execCapEnd s := rfl
  refine completes_of_effect (hexec.trans rfl) htakes (State.withCap_ignoresHanded _) (State.pass_part _) ?_
  rw [if_neg (by rw [State.takeHanded_running, s.running_iff.2 hop]; decide),
    if_neg (by rw [State.takeHanded_budget, Option.isNone_iff_eq_none]; exact hcap)]
  rfl

end

theorem exec_capExpiry (hop : s.part.op = .run) {w n : Nat} (hcap : s.budget.cap = some ⟨w, .minutes n⟩) :
    exec .capExpiry s = .next (s.withCap none).pass.settle := by
  have hexec : exec .capExpiry s = execCapExpiry s := rfl
  rw [hexec, execCapExpiry, runEvent_run (s.running_iff.2 hop), hcap]
  rfl

end

/-- Settles O52: the checks of CAP and CAP-END, and the pass under the cap set or removed. -/
theorem demandCapIsSetAndEnded : Obligations.DemandCapIsSetAndEnded := by
  intro s value duration capped v
  refine ⟨fun htakes => ⟨cap_badField htakes, cap_wrongState htakes, cap_accepted htakes, capEnd_wrongState htakes,
    capEnd_notFound htakes, capEnd_accepted htakes⟩, fun w n hop hcap => exec_capExpiry hop hcap⟩

/-! ### The timers (R17, R142, R144, R145) -/

section
variable {s : State} (hop : s.part.op = .run)
include hop

theorem exec_shedRotationExpiry_empty (h : s.budget.shed = []) :
    exec .shedRotationExpiry s
      = .next (State.settle { s with budget := { s.budget with rotation := Timer.start s.budget.period } }) := by
  have hexec : exec .shedRotationExpiry s = execShedRotationExpiry s := rfl
  rw [hexec, execShedRotationExpiry, runEvent_run (s.running_iff.2 hop), if_pos (List.isEmpty_iff.2 h)]

theorem exec_shedRotationExpiry_shed (h : s.budget.shed ≠ []) :
    exec .shedRotationExpiry s
      = .next (State.settle (State.pass
          { s with budget := { s.budget with rotation := Timer.start s.budget.period, tie := s.budget.tie + 1 } })) := by
  have hexec : exec .shedRotationExpiry s = execShedRotationExpiry s := rfl
  rw [hexec, execShedRotationExpiry, runEvent_run (s.running_iff.2 hop), if_neg (mt List.isEmpty_iff.1 h)]

/-- STAGGER-EXPIRY, and MIN-OFF-EXPIRY with the stagger timer idle, make a release attempt (R144). -/
theorem exec_attempts {c : Instr} {loads : Table 64 Load}
    (h : (c = .staggerExpiry ∧ s.budget.stagger ≠ none ∧ loads = s.loads)
      ∨ ∃ m, c = .minOffExpiry m ∧ (s.loads.get m).minOff ≠ none ∧ s.budget.stagger = none
          ∧ loads = s.loads.set m { s.loads.get m with minOff := none }) :
    exec c s = .next (State.settle (State.attempt { s with loads := loads, budget := { s.budget with stagger := none } })) := by
  obtain ⟨rfl, hstagger, rfl⟩ | ⟨m, rfl, hminOff, hstagger, rfl⟩ := h
  · have hexec : exec .staggerExpiry s = execStaggerExpiry s := rfl
    rw [hexec, execStaggerExpiry, runEvent_run (s.running_iff.2 hop), if_pos (Option.isSome_iff_ne_none.2 hstagger)]
  · have hexec : exec (.minOffExpiry m) s = execMinOffExpiry m s := rfl
    have hidle : s.budget = { s.budget with stagger := none } := by rw [← hstagger]
    rw [hexec, execMinOffExpiry, runEvent_run (s.running_iff.2 hop), if_pos (Option.isSome_iff_ne_none.2 hminOff),
      ← hidle]
    rfl

theorem exec_minOffExpiry_staggered {m : LoadNo} (hminOff : (s.loads.get m).minOff ≠ none)
    (hstagger : s.budget.stagger ≠ none) :
    exec (.minOffExpiry m) s
      = .next (State.settle { s with loads := s.loads.set m { s.loads.get m with minOff := none } }) := by
  have hexec : exec (.minOffExpiry m) s = execMinOffExpiry m s := rfl
  rw [hexec, execMinOffExpiry, runEvent_run (s.running_iff.2 hop), if_pos (Option.isSome_iff_ne_none.2 hminOff)]
  exact congrArg (fun u => Host.Outcome.next (State.settle u)) (State.attempt_of_no_release (.inl hstagger))

end

/-- Settles O53: the rotation, the release of the first load that may start, and the min-off timer alone. -/
theorem budgetTimersExpire : Obligations.BudgetTimersExpire := by
  intro s hop b rotation
  refine ⟨exec_shedRotationExpiry_empty hop, exec_shedRotationExpiry_shed hop, fun c loads h => ⟨?_, fun hnone => ?_⟩,
    fun m => exec_minOffExpiry_staggered hop⟩
  · intro before n after f hqueue hbefore hfirst hminOff hdefn
    have hrelease := State.attempt_of_release (s := { s with loads := loads, budget := { s.budget with stagger := none } })
      rfl hqueue hbefore hminOff
    have herase : b.queue.erase n = before ++ after := by
      rw [hqueue, List.erase_append_right _ hfirst, List.erase_cons_head]
    rw [exec_attempts hop h, hrelease, State.release, ← herase]
    refine congrArg (fun k : Timer => Host.Outcome.next (State.settle
      { s with
        loads := loads.modify n Load.start
        budget := { b with queue := b.queue.erase n, stagger := k } })) ?_
    dsimp only
    unfold staggerFor RestartClass.stagger
    rw [hdefn]
    dsimp only
    cases f.cls <;> rfl
  · rw [exec_attempts hop h, State.attempt_of_no_release (.inr hnone)]

end Sys2Proof.Machine
end

section
/-! The order of the notices from one block to another (R70, R86, R103, R112, R122, R129, R136). -/

namespace Sys2Proof.Machine

/-! ### Events that only give notices -/

/-- From one state to another the notices in flight stay, and others may join behind them. -/
def State.joins (s t : State) : Prop := ∃ new, t.inFlight = s.inFlight ++ new

section
variable {s t u : State}

theorem State.joins_of_eq (h : t.inFlight = s.inFlight) : s.joins t := ⟨[], by rw [h, List.append_nil]⟩

theorem State.give_joins (cs : List Instr) (h : u.inFlight = s.inFlight) : s.joins (u.give cs) :=
  ⟨_, congrArg (· ++ _) h⟩

theorem State.emit_joins (es : List Effects) (h : u.inFlight = s.inFlight) : s.joins (u.emit es) :=
  State.give_joins _ (by rw [State.raiseAll_inFlight, State.countChoice_inFlight, h])

theorem State.recomputeAir_joins (which : Zone → Bool) (change : Zone → AirZone → AirZone)
    (h : u.inFlight = s.inFlight) : s.joins (u.recomputeAir which change) :=
  State.emit_joins _ h

theorem State.recomputeHeat_joins (which : Zone → Bool) (change : HeatZone → HeatZone)
    (h : u.inFlight = s.inFlight) : s.joins (u.recomputeHeat which change) :=
  State.emit_joins _ h

theorem State.recomputeLight_joins (z : Zone) (change : LightZone → LightZone)
    (h : u.inFlight = s.inFlight) : s.joins (u.recomputeLight z change) :=
  State.give_joins _ h

theorem State.pass_joins (h : u.inFlight = s.inFlight) : s.joins u.pass :=
  State.joins_of_eq (by rw [State.pass_inFlight, h])

theorem State.takeHeldValue_joins (z : Zone) (g : Gas) (v : Option Nat) (s : State) : s.joins (s.takeHeldValue z g v) := by
  unfold State.takeHeldValue
  dsimp only
  split
  · exact State.joins_of_eq rfl
  · split
    · exact State.joins_of_eq rfl
    · exact State.recomputeAir_joins _ _ rfl

theorem State.takeSubstitute_joins (z : Zone) (g : Gas) (flag : Bool) (s : State) :
    s.joins (s.takeSubstitute z g flag) := by
  unfold State.takeSubstitute
  split
  · exact State.recomputeAir_joins _ _ rfl
  · exact State.joins_of_eq rfl

end

/-! ### Every notice is taken by one act of its unit -/

/-- A command is a notice whose act only gives other notices. -/
def TakenAsNotice (c : Instr) (s : State) : Prop :=
  ∃ act : State → State, exec c s = notice c act s ∧ ∀ u : State, u.joins (act u)

theorem takenAsNotice_of_zone {c : Instr} {s : State} {z : Zone} {act : State → State}
    (hexec : exec c s = zoneNotice c z act s) (hact : ∀ u : State, u.joins (act u)) : TakenAsNotice c s := by
  refine ⟨fun s => if s.definedZone z then act s else s, hexec, fun u => ?_⟩
  dsimp only
  split
  · exact hact u
  · exact State.joins_of_eq rfl

/-- Every command that goes from block to block is such a notice. -/
theorem takenAsNotice_of_route {c : Instr} (s : State) (h : route c ≠ none) : TakenAsNotice c s := by
  cases c
  all_goals try exact absurd rfl h
  case airProfileChangeNotice z p =>
    refine takenAsNotice_of_zone rfl fun u => ?_
    dsimp only
    split
    · exact State.joins_of_eq rfl
    · exact State.recomputeAir_joins _ _ rfl
  case airMinuteExpiryNotice => exact ⟨_, rfl, fun u => State.joins_of_eq rfl⟩
  case airShiftBoundary => exact ⟨_, rfl, fun u => State.recomputeAir_joins _ _ (State.enterAir_inFlight _ _)⟩
  case heatProfileChangeNotice z p => exact takenAsNotice_of_zone rfl fun u => State.recomputeHeat_joins _ _ rfl
  case lookaheadNotice l => exact ⟨_, rfl, fun u => State.recomputeHeat_joins _ _ rfl⟩
  case heatShiftBoundary => exact ⟨_, rfl, fun u => State.recomputeHeat_joins _ _ rfl⟩
  case lightProfileChangeNotice z p => exact takenAsNotice_of_zone rfl fun u => State.recomputeLight_joins _ _ rfl
  case siteProfileNotice n mode => exact ⟨_, rfl, fun u => State.pass_joins rfl⟩
  case doorShiftBoundary => exact ⟨_, rfl, fun u => State.joins_of_eq (State.enterDoors_inFlight _ _)⟩
  case holdDownFlagNotice z flag => exact takenAsNotice_of_zone rfl fun u => State.recomputeHeat_joins _ _ rfl
  case heatOpenUnsealedCountNotice z n => exact takenAsNotice_of_zone rfl fun u => State.joins_of_eq rfl
  case airOpenUnsealedCountNotice z n => exact takenAsNotice_of_zone rfl fun u => State.recomputeAir_joins _ _ rfl
  case curtainRequestNotice n r =>
    refine ⟨_, rfl, fun u => ?_⟩
    split
    · exact State.pass_joins rfl
    · exact State.joins_of_eq rfl
  case dockLightNotice d isSealed =>
    refine ⟨_, rfl, fun u => ?_⟩
    split
    · exact State.recomputeLight_joins _ _ rfl
    · exact State.joins_of_eq rfl
  case zoneTemperatureNotice z v => exact takenAsNotice_of_zone rfl fun u => State.recomputeHeat_joins _ _ rfl
  case heldValueNotice z g v => exact takenAsNotice_of_zone rfl fun u => u.takeHeldValue_joins z g v
  case airSubstituteFlagNotice z g flag => exact takenAsNotice_of_zone rfl fun u => u.takeSubstitute_joins z g flag
  case budgetSubstituteFlagNotice z g flag => exact takenAsNotice_of_zone rfl fun u => State.pass_joins rfl
  case zoneLuxNotice z lux => exact takenAsNotice_of_zone rfl fun u => State.recomputeLight_joins _ _ rfl
  case exhaustNotice z stage rs => exact takenAsNotice_of_zone rfl fun u => State.pass_joins rfl
  case heatNotice z cold frost rs => exact takenAsNotice_of_zone rfl fun u => State.pass_joins rfl
  case lightNotice z floor rs => exact takenAsNotice_of_zone rfl fun u => State.pass_joins rfl

section
variable {s : State} {c : Instr}

/-- Taken in turn, a notice leaves those in flight, and only what it brings about joins them. -/
theorem TakenAsNotice.inTurn (h : TakenAsNotice c s) (hturn : s.inTurn c = true) :
    ∃ t new, exec c s = .next t ∧ t.inFlight = (s.takeFlight c).inFlight ++ new := by
  obtain ⟨act, hexec, hact⟩ := h
  by_cases hrun : s.running = true
  · obtain ⟨new, hnew⟩ := hact (s.takeFlight c)
    exact ⟨_, new, hexec.trans (notice_run hrun hturn), (State.settle_inFlight _).trans hnew⟩
  · exact ⟨_, [], hexec.trans (notice_stopped (Bool.eq_false_iff.2 hrun) hturn),
      (State.settle_inFlight _).trans (List.append_nil _).symm⟩

theorem TakenAsNotice.outOfTurn (h : TakenAsNotice c s) (hturn : s.inTurn c = false) :
    exec c s = .next (s.waitTurn c).settle := by
  obtain ⟨act, hexec, -⟩ := h
  exact hexec.trans (notice_waits hturn)

/-! ### In turn (R70) -/

theorem State.inTurn_iff {before : List Flight} (hbefore : (s.inFlight.takeWhile fun f => f.notice != c) = before) :
    s.inTurn c = true ↔ ∀ f ∈ before, route f.notice = route c → some f.event = s.eventOf c := by
  rw [State.inTurn, hbefore]
  simp [List.any_eq_false]

section
variable (h : ∀ f ∈ s.inFlight, f.notice ≠ c)
include h

theorem State.eventOf_absent : s.eventOf c = none := by
  rw [State.eventOf, List.find?_eq_none.2 fun f hf => by simpa using h f hf, Option.map_none]

theorem State.takeWhile_absent : (s.inFlight.takeWhile fun f => f.notice != c) = s.inFlight :=
  List.takeWhile_eq_self_iff.2 fun f hf => by simpa using h f hf

theorem State.takeFlight_absent : (s.takeFlight c).inFlight = s.inFlight :=
  List.eraseP_of_forall_not fun f hf => by simpa using h f hf

end

section
variable {before after : List Flight} {k : Nat} (hsplit : s.inFlight = before ++ ⟨k, c⟩ :: after)
  (hbefore : ∀ f ∈ before, f.notice ≠ c)
include hsplit hbefore

theorem State.eventOf_first : s.eventOf c = some k := by
  have hfirst : (s.inFlight.find? fun f => f.notice == c) = some ⟨k, c⟩ :=
    List.find?_eq_some_iff_append.2 ⟨beq_self_eq_true c, before, after, hsplit, fun f hf => by simpa using hbefore f hf⟩
  rw [State.eventOf, hfirst, Option.map_some]

theorem State.takeWhile_first : (s.inFlight.takeWhile fun f => f.notice != c) = before := by
  rw [hsplit, List.takeWhile_append_of_pos fun f hf => by simpa using hbefore f hf,
    List.takeWhile_cons_of_neg (by simp), List.append_nil]

theorem State.takeFlight_first : (s.takeFlight c).inFlight = before ++ after := by
  rw [State.takeFlight, hsplit, List.eraseP_append_right _ fun f hf => by simpa using hbefore f hf,
    List.eraseP_cons_of_pos (by simp)]

end

end

/-- Settles O3: what in turn means, and what a notice in turn and one out of turn leave in flight. -/
theorem noticesKeepOrder : Obligations.NoticesKeepOrder := by
  intro s c giver taker hroute rival
  have htaken := takenAsNotice_of_route s (c := c) (by rw [hroute]; exact Option.some_ne_none _)
  refine ⟨fun habsent => ⟨?_, fun hturn => ?_, fun first last hlast hturn => ?_⟩,
    fun before k after hsplit hbefore => ⟨?_, fun hturn => ?_, fun hturn => ?_⟩⟩
  · rw [State.inTurn_iff (State.takeWhile_absent habsent), State.eventOf_absent habsent, hroute]
    exact forall₂_congr fun f _ => imp_congr_right fun _ => iff_of_false (Option.some_ne_none _) id
  · obtain ⟨t, new, hexec, hflight⟩ := htaken.inTurn hturn
    exact ⟨t, new, hexec, by rw [hflight, State.takeFlight_absent habsent]⟩
  · have hwait : s.waitTurn c = s.give [c] :=
      if_neg (by rw [State.eventOf_absent habsent]; decide)
    have hevent : s.nextEvent = last.event + 1 := by
      rw [State.nextEvent, hlast, List.getLast?_append, List.getLast?_singleton]
      rfl
    rw [htaken.outOfTurn hturn, hwait, State.give, hevent]
    rfl
  · rw [State.inTurn_iff (State.takeWhile_first hsplit hbefore), State.eventOf_first hsplit hbefore, hroute]
    exact forall₂_congr fun f _ => imp_congr_right fun _ => Option.some_inj
  · obtain ⟨t, new, hexec, hflight⟩ := htaken.inTurn hturn
    exact ⟨t, new, hexec, by rw [hflight, State.takeFlight_first hsplit hbefore]⟩
  · rw [htaken.outOfTurn hturn, State.waitTurn, State.eventOf_first hsplit hbefore]
    rfl

end Sys2Proof.Machine
end

section
/-! Requests and the frames that carry them (R151, R164, R165). -/

namespace Sys2Proof.Machine

/-! ### Fields (R164) -/

theorem byte_toNat {n : Nat} (h : fitsByte n = true) : (byte n).toNat = n := by
  rw [byte, BitVec.toNat_ofNat]
  exact Nat.mod_eq_of_lt (of_decide_eq_true h)

@[simp] theorem byte_of_toNat (a : Byte) : byte a.toNat = a := BitVec.ofNat_toNat 8 a

@[simp] theorem fitsByte_toNat (a : Byte) : fitsByte a.toNat = true := decide_eq_true a.isLt

theorem word2_word {n : Nat} (h : fitsWord n = true) : word2 (byte (n / 256)) (byte n) = n := by
  have hn : n < 65536 := of_decide_eq_true h
  simp only [word2, byte, BitVec.toNat_ofNat]
  omega

@[simp] theorem word_word2 (a b : Byte) : word (word2 a b) = [a, b] := by
  have hb := b.isLt
  have hhigh : (a.toNat * 256 + b.toNat) / 256 = a.toNat := by omega
  have hlow : byte (a.toNat * 256 + b.toNat) = b := by
    rw [← byte_of_toNat b]
    apply BitVec.eq_of_toNat_eq
    simp only [byte, BitVec.toNat_ofNat]
    omega
  rw [word, word2, hhigh, hlow, byte_of_toNat]

@[simp] theorem fitsWord_word2 (a b : Byte) : fitsWord (word2 a b) = true := by
  have ha := a.isLt
  have hb := b.isLt
  rw [fitsWord, decide_eq_true_iff, word2]
  omega

theorem long4_long {n : Nat} (h : n < 4294967296) :
    long4 (byte (n / 16777216)) (byte (n / 65536)) (byte (n / 256)) (byte n) = n := by
  simp only [long4, byte, BitVec.toNat_ofNat]
  omega

@[simp] theorem long_long4 (a b c d : Byte) : long (long4 a b c d) = [a, b, c, d] := by
  have ha := a.isLt
  have hb := b.isLt
  have hc := c.isLt
  have hd := d.isLt
  have hfield (x : Byte) (n : Nat) (h : n % 256 = x.toNat) : byte n = x := by
    apply BitVec.eq_of_toNat_eq
    rw [byte, BitVec.toNat_ofNat]
    exact h
  rw [long, long4, hfield a _ (by omega), hfield b _ (by omega), hfield c _ (by omega), hfield d _ (by omega)]

@[simp] theorem long4_lt (a b c d : Byte) : long4 a b c d < 4294967296 := by
  have ha := a.isLt
  have hb := b.isLt
  have hc := c.isLt
  have hd := d.isLt
  rw [long4]
  omega

theorem fitsSigned_iff (i : Int) : fitsSigned i = true ↔ -32768 ≤ i ∧ i ≤ 32767 := by simp [fitsSigned]

theorem signed2_signed {i : Int} (h : fitsSigned i = true) :
    signed2 (byte ((i % 65536).toNat / 256)) (byte (i % 65536).toNat) = i := by
  rw [fitsSigned_iff] at h
  rw [signed2, word2_word (by rw [fitsWord, decide_eq_true_iff]; omega)]
  split <;> omega

@[simp] theorem signed_signed2 (a b : Byte) : signed (signed2 a b) = [a, b] := by
  have hword : word2 a b < 65536 := of_decide_eq_true (fitsWord_word2 a b)
  have hvalue : (signed2 a b % 65536).toNat = word2 a b := by
    unfold signed2
    split <;> omega
  rw [signed, hvalue, word_word2]

@[simp] theorem fitsSigned_signed2 (a b : Byte) : fitsSigned (signed2 a b) = true := by
  have hword : word2 a b < 65536 := of_decide_eq_true (fitsWord_word2 a b)
  rw [fitsSigned_iff, signed2]
  split <;> omega

theorem map_toNat_map_byte {zs : List Nat} (h : zs.all fitsByte = true) : (zs.map byte).map BitVec.toNat = zs := by
  rw [List.map_map]
  exact (List.map_congr_left fun n hn => byte_toNat (List.all_eq_true.1 h n hn)).trans (List.map_id _)

theorem map_byte_map_toNat (l : List Byte) : l.map (byte ∘ BitVec.toNat) = l :=
  (List.map_congr_left fun a _ => byte_of_toNat a).trans (List.map_id _)

theorem all_fitsByte_map_toNat (l : List Byte) : (l.map BitVec.toNat).all fitsByte = true := by
  rw [List.all_map]
  exact List.all_eq_true.2 fun a _ => fitsByte_toNat a

/-! ### What a kind's payload is read as (Table 11-3) -/

/-- A payload of a kind's length is read as the request that carries it, and any other is refused. -/
structure KindReads (kind : Byte) (length : PayloadLength) : Prop where
  bad : ∀ p, ¬length.fits p → decodeRequest kind p = .badLength
  good : ∀ p, length.fits p →
    ∃ c, decodeRequest kind p = .request c ∧ encodeRequest c = some (kind, p) ∧ (p.length ≤ 120 → c.wf = true)

section
variable {kind : Byte}

theorem KindReads.none {c : Instr} (hdec : ∀ p, decodeRequest kind p = decode0 c p)
    (henc : encodeRequest c = some (kind, [])) (hwf : c.wf = true) : KindReads kind (.fixed 0) where
  bad p h := by
    rw [hdec]
    cases p with
    | nil => exact absurd rfl h
    | cons a l => rfl
  good p h := by
    rw [hdec, List.length_eq_zero_iff.1 h]
    exact ⟨c, rfl, henc, fun _ => hwf⟩

theorem KindReads.one {f : Nat → Instr} (hdec : ∀ p, decodeRequest kind p = decode1 f p)
    (henc : ∀ n, encodeRequest (f n) = some (kind, [byte n])) (hwf : ∀ n, (f n).wf = fitsByte n) :
    KindReads kind (.fixed 1) where
  bad p h := by
    rw [hdec]
    unfold decode1
    split
    · exact absurd rfl h
    · rfl
  good p h := by
    obtain ⟨a, rfl⟩ := List.length_eq_one_iff.1 h
    exact ⟨f a.toNat, hdec _, by rw [henc, byte_of_toNat], fun _ => by rw [hwf, fitsByte_toNat]⟩

theorem KindReads.two {f : Nat → Nat → Instr} (hdec : ∀ p, decodeRequest kind p = decode2 f p)
    (henc : ∀ m n, encodeRequest (f m n) = some (kind, [byte m, byte n]))
    (hwf : ∀ m n, (f m n).wf = (fitsByte m && fitsByte n)) : KindReads kind (.fixed 2) where
  bad p h := by
    rw [hdec]
    unfold decode2
    split
    · exact absurd rfl h
    · rfl
  good p h := by
    obtain ⟨a, b, rfl⟩ := List.length_eq_two.1 h
    exact ⟨f a.toNat b.toNat, hdec _, by rw [henc, byte_of_toNat, byte_of_toNat],
      fun _ => by rw [hwf, fitsByte_toNat, fitsByte_toNat]; rfl⟩

end

theorem kindReads_setLink : KindReads 0x07 (.fixed 5) where
  bad p h := by
    change decodeSetLink p = _
    unfold decodeSetLink
    split
    exacts [absurd rfl h, rfl]
  good p h := by
    match p, h with
    | [a, b, c, d, e], _ =>
      exact ⟨_, rfl, by simp [encodeRequest], fun _ => by simp [Instr.wf]⟩

theorem kindReads_defLoad : KindReads 0x12 (.fixed 18) where
  bad p h := by
    change decodeDefLoad p = _
    unfold decodeDefLoad
    split
    exacts [absurd rfl h, rfl]
  good p h := by
    match p, h with
    | [l, t, z, m, n, a, a', b, b', c, c', d, d', dr, pr, cl, o, o'], _ =>
      exact ⟨_, rfl, by simp [encodeRequest], fun _ => by simp [Instr.wf, LoadFields.fits]⟩

theorem kindReads_setTime : KindReads 0x18 (.fixed 6) where
  bad p h := by
    change decodeSetTime p = _
    unfold decodeSetTime
    split
    exacts [absurd rfl h, rfl]
  good p h := by
    match p, h with
    | [a, b, c, d, e, f], _ =>
      exact ⟨_, rfl, by simp [encodeRequest], fun _ => by simp [Instr.wf]⟩

theorem kindReads_defProfile : KindReads 0x19 (.fixed 13) where
  bad p h := by
    change decodeDefProfile p = _
    unfold decodeDefProfile
    split
    exacts [absurd rfl h, rfl]
  good p h := by
    match p, h with
    | [p, a, a', b, b', dl, fl, eg, c, c', m, pu, pr], _ =>
      exact ⟨_, rfl, by simp [encodeRequest], fun _ => by simp [Instr.wf, ProfileFields.fits]⟩

theorem kindReads_planRow : KindReads 0x1B (.fixed 7) where
  bad p h := by
    change decodePlanRow p = _
    unfold decodePlanRow
    split
    exacts [absurd rfl h, rfl]
  good p h := by
    match p, h with
    | [r, k, p, a, b, c, n], _ =>
      exact ⟨_, rfl, by simp [encodeRequest], fun _ => by simp [Instr.wf, RowFields.fits]⟩

theorem kindReads_planAnchor : KindReads 0x1E (.fixed 4) where
  bad p h := by
    change decodePlanAnchor p = _
    unfold decodePlanAnchor
    split
    exacts [absurd rfl h, rfl]
  good p h := by
    match p, h with
    | [a, b, c, d], _ =>
      exact ⟨_, rfl, by simp [encodeRequest], fun _ => by simp [Instr.wf]⟩

theorem kindReads_defDoor : KindReads 0x29 (.fixed 8) where
  bad p h := by
    change decodeDefDoor p = _
    unfold decodeDefDoor
    split
    exacts [absurd rfl h, rfl]
  good p h := by
    match p, h with
    | [d, z, o, t, a, b, m, e], _ =>
      exact ⟨_, rfl, by simp [encodeRequest], fun _ => by simp [Instr.wf, DoorFields.fits]⟩

theorem kindReads_defSensor : KindReads 0x30 (.fixed 3) where
  bad p h := by
    change decodeDefSensor p = _
    unfold decodeDefSensor
    split
    exacts [absurd rfl h, rfl]
  good p h := by
    match p, h with
    | [a, b, c], _ =>
      exact ⟨_, rfl, by simp [encodeRequest], fun _ => by simp [Instr.wf]⟩

theorem kindReads_setSensing : KindReads 0x31 (.fixed 7) where
  bad p h := by
    change decodeSetSensing p = _
    unfold decodeSetSensing
    split
    exacts [absurd rfl h, rfl]
  good p h := by
    match p, h with
    | [a, a', b, b', c, c', d], _ =>
      exact ⟨_, rfl, by simp [encodeRequest], fun _ => by simp [Instr.wf]⟩

theorem kindReads_reading : KindReads 0x32 (.fixed 3) where
  bad p h := by
    change decodeReading p = _
    unfold decodeReading
    split
    exacts [absurd rfl h, rfl]
  good p h := by
    match p, h with
    | [n, a, b], _ =>
      exact ⟨_, rfl, by simp [encodeRequest], fun _ => by simp [Instr.wf]⟩

theorem kindReads_setAir : KindReads 0x38 (.fixed 8) where
  bad p h := by
    change decodeSetAir p = _
    unfold decodeSetAir
    split
    exacts [absurd rfl h, rfl]
  good p h := by
    match p, h with
    | [a, a', b, b', c, d, e, e'], _ =>
      exact ⟨_, rfl, by simp [encodeRequest], fun _ => by simp [Instr.wf]⟩

theorem kindReads_setHeat : KindReads 0x39 (.fixed 4) where
  bad p h := by
    change decodeSetHeat p = _
    unfold decodeSetHeat
    split
    exacts [absurd rfl h, rfl]
  good p h := by
    match p, h with
    | [a, b, c, d], _ =>
      exact ⟨_, rfl, by simp [encodeRequest], fun _ => by simp [Instr.wf]⟩

theorem kindReads_cap : KindReads 0x3A (.fixed 4) where
  bad p h := by
    change decodeCap p = _
    unfold decodeCap
    split
    exacts [absurd rfl h, rfl]
  good p h := by
    match p, h with
    | [a, b, c, d], _ =>
      exact ⟨_, rfl, by simp [encodeRequest], fun _ => by simp [Instr.wf]⟩

theorem kindReads_setBudget : KindReads 0x3C (.fixed 2) where
  bad p h := by
    change decodeSetBudget p = _
    unfold decodeSetBudget
    split
    exacts [absurd rfl h, rfl]
  good p h := by
    match p, h with
    | [a, b], _ =>
      exact ⟨_, rfl, by simp [encodeRequest], fun _ => by simp [Instr.wf]⟩

theorem kindReads_override : KindReads 0x1F (.counted 4) where
  bad p h := by
    change decodeOverride p = _
    unfold decodeOverride
    split
    · next p a b n zs =>
      refine if_neg fun hlength => h ⟨n, rfl, ?_⟩
      simp only [List.length_cons, hlength]
      omega
    · rfl
  good p h := by
    obtain ⟨count, hcount, hlength⟩ := h
    match p, hcount, hlength with
    | [a, b, c], hcount, _ => exact absurd hcount (by simp)
    | a :: b :: c :: n :: zs, hcount, hlength =>
      obtain rfl : n = count := by simpa using hcount
      have hzones : zs.length = n.toNat := by
        simp only [List.length_cons] at hlength
        omega
      refine ⟨_, if_pos hzones, ?_, fun hshort => ?_⟩
      · simp [encodeRequest, hzones, map_byte_map_toNat]
      · simp only [List.length_cons] at hshort
        simp only [Instr.wf, fitsByte_toNat, fitsWord_word2, all_fitsByte_map_toNat, List.length_map, Bool.true_and,
          decide_eq_true_iff]
        omega

theorem kindReads_overrideEnd : KindReads 0x20 (.counted 1) where
  bad p h := by
    change decodeOverrideEnd p = _
    unfold decodeOverrideEnd
    split
    · next n zs =>
      refine if_neg fun hlength => h ⟨n, rfl, ?_⟩
      rw [List.length_cons, hlength, Nat.add_comm]
    · rfl
  good p h := by
    obtain ⟨count, hcount, hlength⟩ := h
    match p, hcount, hlength with
    | n :: zs, hcount, hlength =>
      obtain rfl : n = count := by simpa using hcount
      have hzones : zs.length = n.toNat := by
        rw [List.length_cons] at hlength
        omega
      refine ⟨_, if_pos hzones, ?_, fun hshort => ?_⟩
      · simp [encodeRequest, hzones, map_byte_map_toNat]
      · rw [List.length_cons] at hshort
        simp only [Instr.wf, all_fitsByte_map_toNat, List.length_map, Bool.true_and, decide_eq_true_iff]
        omega

/-- Every row of Table 11-3. -/
theorem kindReads_of_mem : ∀ e ∈ requestLengths, KindReads e.1 e.2 := by
  simp only [requestLengths, List.forall_mem_cons]
  exact ⟨.none (c := .partStatus) (fun _ => rfl) rfl rfl, .none (c := .start) (fun _ => rfl) rfl rfl,
    .none (c := .stop) (fun _ => rfl) rfl rfl, .none (c := .store) (fun _ => rfl) rfl rfl,
    .one (fun _ => rfl) (fun _ => rfl) fun _ => rfl, .one (fun _ => rfl) (fun _ => rfl) fun _ => rfl,
    kindReads_setLink, .two (fun _ => rfl) (fun _ _ => rfl) fun _ _ => rfl,
    .one (fun _ => rfl) (fun _ => rfl) fun _ => rfl, kindReads_defLoad, .one (fun _ => rfl) (fun _ => rfl) fun _ => rfl,
    kindReads_setTime, kindReads_defProfile, .one (fun _ => rfl) (fun _ => rfl) fun _ => rfl, kindReads_planRow,
    .none (c := .planCommit) (fun _ => rfl) rfl rfl, .none (c := .planWithdraw) (fun _ => rfl) rfl rfl,
    kindReads_planAnchor, kindReads_override, kindReads_overrideEnd,
    .none (c := .calendarStatus) (fun _ => rfl) rfl rfl, .two (fun _ => rfl) (fun _ _ => rfl) fun _ _ => rfl,
    .one (fun _ => rfl) (fun _ => rfl) fun _ => rfl, .one (fun _ => rfl) (fun _ => rfl) fun _ => rfl,
    kindReads_defDoor, .one (fun _ => rfl) (fun _ => rfl) fun _ => rfl,
    .one (fun _ => rfl) (fun _ => rfl) fun _ => rfl, kindReads_defSensor, kindReads_setSensing, kindReads_reading,
    .one (fun _ => rfl) (fun _ => rfl) fun _ => rfl, kindReads_setAir, kindReads_setHeat, kindReads_cap,
    .none (c := .capEnd) (fun _ => rfl) rfl rfl, kindReads_setBudget,
    .none (c := .budgetStatus) (fun _ => rfl) rfl rfl, fun _ h => absurd h List.not_mem_nil⟩

theorem decodeRequest_of_not_mem {kind : Byte} (h : ∀ length, (kind, length) ∉ requestLengths) (p : List Byte) :
    decodeRequest kind p = .unknownKind := by
  have habsent : kind.toNat ∉ requestLengths.map fun e => e.1.toNat := by
    intro hmem
    obtain ⟨⟨k, length⟩, hk, heq⟩ := List.mem_map.1 hmem
    exact h length (BitVec.eq_of_toNat_eq heq ▸ hk)
  unfold decodeRequest
  split
  all_goals first
    | rfl
    | next heq => exact absurd (by rw [heq]; decide) habsent

theorem requestKind_of_encodeRequest {c : Instr} {kind : Byte} {payload : List Byte}
    (h : encodeRequest c = some (kind, payload)) : requestKind c = kind := by
  cases c <;> cases h <;> rfl

theorem decodeOverride_encoded {p d : Nat} {zs : List Nat} (hp : fitsByte p = true) (hd : fitsWord d = true)
    (hzs : zs.all fitsByte = true) (hcount : zs.length ≤ 116) :
    decodeOverride (byte p :: word d ++ [byte zs.length] ++ zs.map byte) = .request (.override p d zs) := by
  have hlength : (zs.map byte).length = (byte zs.length).toNat := by
    rw [List.length_map, byte_toNat (decide_eq_true (by omega))]
  refine (if_pos hlength).trans (Eq.trans (congrArg (fun l => Decoded.request (.override _ _ l)) (map_toNat_map_byte hzs)) ?_)
  rw [byte_toNat hp, word2_word hd]

theorem decodeOverrideEnd_encoded {zs : List Nat} (hzs : zs.all fitsByte = true) (hcount : zs.length ≤ 119) :
    decodeOverrideEnd (byte zs.length :: zs.map byte) = .request (.overrideEnd zs) := by
  have hlength : (zs.map byte).length = (byte zs.length).toNat := by
    rw [List.length_map, byte_toNat (decide_eq_true (by omega))]
  refine (if_pos hlength).trans ?_
  rw [map_toNat_map_byte hzs]

/-- A request that fits its widths is read back from its frame: each field by its width. -/
theorem decodeRequest_encoded {c : Instr} {kind : Byte} {payload : List Byte}
    (h : encodeRequest c = some (kind, payload)) (hwf : c.wf = true) : decodeRequest kind payload = .request c := by
  cases c <;> cases h <;> try rfl
  all_goals simp only [Instr.wf, LoadFields.fits, ProfileFields.fits, RowFields.fits, DoorFields.fits, List.all_cons,
    List.all_nil, Bool.and_eq_true, Bool.and_true, decide_eq_true_iff] at hwf
  case override p d zs =>
    obtain ⟨⟨⟨hp, hd⟩, hzs⟩, hcount⟩ := hwf
    exact decodeOverride_encoded hp hd hzs hcount
  case overrideEnd zs => exact decodeOverrideEnd_encoded hwf.1 hwf.2
  all_goals simp [decodeRequest, decode1, decode2, decodeSetLink, decodeDefLoad, decodeSetTime, decodeDefProfile, decodePlanRow,
    decodePlanAnchor, decodeDefDoor, decodeDefSensor, decodeSetSensing, decodeReading, decodeSetAir, decodeSetHeat, decodeCap,
    decodeSetBudget, word, long, signed, byte_toNat, word2_word, long4_long, signed2_signed, hwf]

/-- Settles O4: the fields come back by their widths, and every row of Table 11-3 reads its own lengths alone. -/
theorem requestsRoundTrip : Obligations.RequestsRoundTrip := by
  refine ⟨fun c kind payload h => ⟨requestKind_of_encodeRequest h, decodeRequest_encoded h⟩,
    fun kind payload c hshort hdec => ?_, fun kind payload => ⟨fun h => decodeRequest_of_not_mem h payload,
      fun length hmem => ⟨fun hfits => ?_, (kindReads_of_mem _ hmem).bad payload⟩⟩⟩
  · by_cases hknown : ∃ length, (kind, length) ∈ requestLengths
    · obtain ⟨length, hmem⟩ := hknown
      have hreads := kindReads_of_mem _ hmem
      by_cases hfits : length.fits payload
      · obtain ⟨c', hdec', henc, hwf⟩ := hreads.good payload hfits
        obtain rfl : c' = c := Decoded.request.inj (hdec'.symm.trans hdec)
        exact ⟨hwf hshort, henc⟩
      · exact nomatch hdec.symm.trans (hreads.bad payload hfits)
    · exact nomatch hdec.symm.trans (decodeRequest_of_not_mem (not_exists.1 hknown) payload)
  · obtain ⟨c, hdec, henc, -⟩ := (kindReads_of_mem _ hmem).good payload hfits
    exact ⟨c, hdec, requestKind_of_encodeRequest henc⟩

end Sys2Proof.Machine
end

section
/-! Byte layouts as the fields they carry, one after the other (R164). -/

namespace Sys2Proof.Machine

/-! ### A field in big-endian bytes -/

/-- A number in some bytes, high byte first. -/
def bigEndian : Nat → Nat → List Byte
  | 0, _ => []
  | w + 1, n => bigEndian w (n / 256) ++ [byte n]

/-- The number that some bytes carry, high byte first. -/
def bytesValue (l : List Byte) : Nat := l.foldl (fun n b => 256 * n + b.toNat) 0

/-- A value in some bytes, in two's complement. -/
def fieldBytes (w : Nat) (v : Int) : List Byte := bigEndian w (v % 256 ^ w).toNat

theorem bigEndian_length (w n : Nat) : (bigEndian w n).length = w := by
  induction w generalizing n with
  | zero => rfl
  | succ w ih => rw [bigEndian, List.length_append, ih, List.length_singleton]

theorem bytesValue_bigEndian (w n : Nat) : bytesValue (bigEndian w n) = n % 256 ^ w := by
  induction w generalizing n with
  | zero => simp [bigEndian, bytesValue, Nat.mod_one]
  | succ w ih =>
    have hprefix : (bigEndian w (n / 256)).foldl (fun n b => 256 * n + b.toNat) 0 = n / 256 % 256 ^ w := ih _
    rw [bigEndian, bytesValue, List.foldl_append, hprefix, pow_succ', Nat.mod_mul, Nat.add_comm]
    simp [byte]

theorem bytesValue_fieldBytes (w : Nat) (v : Int) : (bytesValue (fieldBytes w v) : Int) = v % 256 ^ w := by
  have hpos : (0 : Int) < 256 ^ w := by positivity
  have hnonneg := Int.emod_nonneg v hpos.ne'
  have hlt := Int.emod_lt_of_pos v hpos
  have hbound : (v % 256 ^ w).toNat < 256 ^ w := by
    zify
    rwa [Int.toNat_of_nonneg hnonneg]
  rw [fieldBytes, bytesValue_bigEndian, Nat.mod_eq_of_lt hbound, Int.toNat_of_nonneg hnonneg]

theorem fieldBytes_length (w : Nat) (v : Int) : (fieldBytes w v).length = w := bigEndian_length w _

/-- A field is read back from the bytes in which it stands. -/
theorem fieldAt_fieldBytes (before after : List Byte) (w : Nat) (v : Int) :
    (fieldAt (before ++ fieldBytes w v ++ after) before.length w : Int) = v % 256 ^ w := by
  rw [fieldAt, List.append_assoc, List.drop_left]
  rw [List.take_left' (fieldBytes_length w v)]
  exact bytesValue_fieldBytes w v

/-! ### Fields one after the other -/

/-- The bytes of fields that stand one after the other, each given by its width and its value. -/
def laidOut (fs : List (Nat × Int)) : List Byte := fs.flatMap fun f => fieldBytes f.1 f.2

/-- The same as fields of a layout, the first at an offset. -/
def fieldsFrom : Nat → List (Nat × Int) → List Field
  | _, [] => []
  | offset, f :: fs => ⟨offset, f.1, f.2⟩ :: fieldsFrom (offset + f.1) fs

/-- How many bytes the fields take. -/
def totalWidth (fs : List (Nat × Int)) : Nat := (fs.map Prod.fst).sum

theorem laidOut_cons (f : Nat × Int) (fs : List (Nat × Int)) : laidOut (f :: fs) = fieldBytes f.1 f.2 ++ laidOut fs := rfl

theorem laidOut_append (fs gs : List (Nat × Int)) : laidOut (fs ++ gs) = laidOut fs ++ laidOut gs := List.flatMap_append

theorem laidOut_length (fs : List (Nat × Int)) : (laidOut fs).length = totalWidth fs := by
  induction fs with
  | nil => rfl
  | cons f fs ih => rw [laidOut_cons, List.length_append, fieldBytes_length, ih]; rfl

theorem totalWidth_append (fs gs : List (Nat × Int)) : totalWidth (fs ++ gs) = totalWidth fs + totalWidth gs := by
  rw [totalWidth, List.map_append, List.sum_append]
  rfl

theorem fieldsFrom_append (offset : Nat) (fs gs : List (Nat × Int)) :
    fieldsFrom offset (fs ++ gs) = fieldsFrom offset fs ++ fieldsFrom (offset + totalWidth fs) gs := by
  induction fs generalizing offset with
  | nil => rfl
  | cons f fs ih =>
    rw [List.cons_append, fieldsFrom, ih, fieldsFrom, List.cons_append, Nat.add_assoc]
    rfl

theorem fieldAt_laidOut (before : List Byte) (fs : List (Nat × Int)) :
    ∀ f ∈ fieldsFrom before.length fs,
      (fieldAt (before ++ laidOut fs) f.offset f.width : Int) = f.value % 256 ^ f.width := by
  induction fs generalizing before with
  | nil => exact fun f hf => absurd hf List.not_mem_nil
  | cons g fs ih =>
    intro f hf
    obtain rfl | hf := List.mem_cons.1 hf
    · rw [laidOut_cons, ← List.append_assoc]
      exact fieldAt_fieldBytes before _ g.1 g.2
    · have hrest := ih (before ++ fieldBytes g.1 g.2) f
      rw [List.length_append, fieldBytes_length, List.append_assoc] at hrest
      exact hrest hf

/-- Bytes that are fields one after the other have these fields as their layout. -/
theorem hasLayout_of_laidOut {l : List Byte} {length : Nat} {fields : List Field} (fs : List (Nat × Int))
    (hl : l = laidOut fs) (hlength : totalWidth fs = length) (hfields : fields ⊆ fieldsFrom 0 fs) :
    HasLayout l length fields := by
  subst hl
  exact ⟨(laidOut_length fs).trans hlength, fun f hf => fieldAt_laidOut [] fs f (hfields hf)⟩

/-- Widths and values of some fields. -/
def carried (fields : List Field) : List (Nat × Int) := fields.map fun f => (f.width, f.value)

/-- Fields that stand one after the other without a gap are the layout of their bytes. -/
theorem hasLayout_of_carried {l : List Byte} {length : Nat} {fields : List Field} (hl : l = laidOut (carried fields))
    (hlength : totalWidth (carried fields) = length) (hfields : fieldsFrom 0 (carried fields) = fields) :
    HasLayout l length fields :=
  hasLayout_of_laidOut (carried fields) hl hlength fun f hf => (congrArg (f ∈ ·) hfields).mpr hf

/-! ### Lists of like entries -/

/-- Entries that each take the same number of bytes stand at regular offsets. -/
theorem fieldsFrom_flatMap {α : Type} (offset k : Nat) (e : α → List (Nat × Int)) (l : List α)
    (he : ∀ x ∈ l, totalWidth (e x) = k) :
    fieldsFrom offset (l.flatMap e) = (l.mapIdx fun z x => fieldsFrom (offset + k * z) (e x)).flatten := by
  induction l generalizing offset with
  | nil => rfl
  | cons x l ih =>
    rw [List.flatMap_cons, fieldsFrom_append, ih _ fun y hy => he y (List.mem_cons_of_mem x hy), List.mapIdx_cons,
      List.flatten_cons, he x List.mem_cons_self, Nat.mul_zero, Nat.add_zero]
    refine congrArg (fun m => fieldsFrom offset (e x) ++ List.flatten m) (List.mapIdx_eq_mapIdx_iff.2 fun z hz => ?_)
    rw [Nat.mul_add, Nat.mul_one, Nat.add_assoc, Nat.add_comm k]

theorem totalWidth_flatMap {α : Type} (k : Nat) (e : α → List (Nat × Int)) (l : List α)
    (he : ∀ x ∈ l, totalWidth (e x) = k) : totalWidth (l.flatMap e) = k * l.length := by
  induction l with
  | nil => rfl
  | cons x l ih =>
    rw [List.flatMap_cons, totalWidth_append, he x List.mem_cons_self,
      ih fun y hy => he y (List.mem_cons_of_mem x hy), List.length_cons, Nat.mul_add, Nat.mul_one, Nat.add_comm]

/-- Load numbers, one byte each. -/
def listBytes (l : List LoadNo) : List (Nat × Int) := l.flatMap fun n => [(1, (n.val : Int))]

theorem listFields_eq (offset : Nat) (l : List LoadNo) : listFields offset l = fieldsFrom offset (listBytes l) := by
  induction l generalizing offset with
  | nil => rfl
  | cons n l ih =>
    have hshift : listFields offset (n :: l) = ⟨offset, 1, n.val⟩ :: listFields (offset + 1) l := by
      rw [listFields, List.mapIdx_cons, listFields]
      refine congrArg (List.cons _) (List.mapIdx_eq_mapIdx_iff.2 fun k hk => ?_)
      rw [Nat.add_assoc, Nat.add_comm 1]
    rw [hshift, ih]
    rfl

theorem totalWidth_listBytes (l : List LoadNo) : totalWidth (listBytes l) = l.length := by
  rw [listBytes, totalWidth_flatMap 1 _ l fun _ _ => rfl, Nat.one_mul]

/-! ### The widths of R164 -/

section
variable (n : Nat) (i : Int)

@[simp] theorem fieldBytes_signed : fieldBytes 2 i = signed i := rfl

@[simp] theorem fieldBytes_byte : fieldBytes 1 (n : Int) = [byte n] := by
  have hvalue : ((n : Int) % 256 ^ 1).toNat = n % 256 := by omega
  rw [fieldBytes, hvalue]
  refine congrArg (fun b : Byte => [b]) (BitVec.eq_of_toNat_eq ?_)
  simp [byte]

@[simp] theorem signed_natCast : signed (n : Int) = word n := by
  have hvalue : ((n : Int) % 65536).toNat = n % 65536 := by omega
  rw [signed, hvalue, word, word]
  refine congrArg₂ (fun a b : Byte => [a, b]) (BitVec.eq_of_toNat_eq ?_) (BitVec.eq_of_toNat_eq ?_)
  · simp only [byte, BitVec.toNat_ofNat]
    omega
  · simp only [byte, BitVec.toNat_ofNat]
    omega

@[simp] theorem fieldBytes_long : fieldBytes 4 (n : Int) = long n := by
  have hvalue : ((n : Int) % 256 ^ 4).toNat = n % 4294967296 := by omega
  rw [fieldBytes, hvalue, long]
  simp only [bigEndian, List.nil_append, List.cons_append, byte, List.cons.injEq, BitVec.toNat_eq, BitVec.toNat_ofNat, and_true]
  omega

@[simp] theorem byte_flag (b : Bool) : byte b.toNat = flagByte b := by cases b <;> rfl

@[simp] theorem byte_bits (bits : List Bool) : byte (bitsValue bits) = flagBits bits := by
  have hbits : bitsValue bits = bits.foldr (fun b n => (if b then 1 else 0) + 2 * n) 0 :=
    congrArg (fun f => bits.foldr f 0) (funext fun b => by cases b <;> rfl)
  rw [hbits]
  rfl

@[simp] theorem fieldBytes_orByte (o : Option Nat) : fieldBytes 1 (orByte o) = [byteOr o] := by
  cases o with
  | none => rfl
  | some n => exact fieldBytes_byte n

@[simp] theorem signed_orWord (o : Option Nat) : signed (orWord o) = wordOr o := by
  cases o with
  | none => rfl
  | some n => exact signed_natCast n

@[simp] theorem signed_orMark (o : Option Int) : signed (orMark 0x8000 o) = signedOr o := by cases o <;> rfl

end

end Sys2Proof.Machine
end

section
/-! The bytes of what is transmitted (O7). -/

namespace Sys2Proof.Machine

/-! ### Codes and check -/

/-- The codes are those of Tables 11-2 and 11-4. -/
theorem codesHold : CodesHold := by
  unfold CodesHold
  decide

theorem crc_append_byte (l : List Byte) (b : Byte) :
    crc (l ++ [b]) = (List.range 8).foldl
      (fun (r : BitVec 16) k => if r.getMsbD 0 = b.getMsbD k then r <<< 1 else (r <<< 1) ^^^ 0x1021) (crc l) := by
  have hbit (r : BitVec 16) (k : Nat) (hk : k < 8) :
      crcBit r (b.getLsbD (7 - k)) = if r.getMsbD 0 = b.getMsbD k then r <<< 1 else (r <<< 1) ^^^ 0x1021 := by
    rw [crcBit, BitVec.msb, BitVec.getMsbD_eq_getLsbD (x := b), decide_eq_true hk, Bool.true_and]
    simp only [beq_iff_eq]
    rfl
  rw [crc, List.foldl_append]
  change crcByte (crc l) b = _
  rw [crcByte]
  have hrange : [7, 6, 5, 4, 3, 2, 1, 0] = (List.range 8).map fun k => 7 - k := rfl
  rw [hrange, List.foldl_map]
  exact List.foldl_ext _ _ _ fun r k hk => hbit r k (List.mem_range.1 hk)

/-! ### Payloads -/

theorem Probe.payload_layout (p : Probe) :
    HasLayout p.payload 9
      [⟨0, 2, p.day⟩, ⟨2, 4, p.second⟩, ⟨6, 1, p.unknown.toNat⟩, ⟨7, 1, p.state.code⟩, ⟨8, 1, p.queued⟩] := by
  have hunknown : flagBits [p.unknown] = flagByte p.unknown := by cases p.unknown <;> rfl
  exact hasLayout_of_carried (by simp [laidOut, carried, Probe.payload, hunknown]) rfl rfl

theorem Reply.payload_layout (r : Reply) :
    HasLayout (r.payload.take 2) 2 [⟨0, 1, r.status.code⟩, ⟨1, 1, r.overrun.toNat⟩] :=
  hasLayout_of_carried (by simp [laidOut, carried, Reply.payload]) rfl rfl

/-- The header of a report. -/
def reportHeader (r : Report) (gap : Bool) : List Field :=
  [⟨0, 2, r.day⟩, ⟨2, 4, r.second⟩, ⟨6, 1, bitsValue [r.unknown, gap]⟩]

/-- A body whose bytes are its fields, from the end of the header on. -/
def Body.LaidOut (b : Body) : Prop :=
  b.bytes = laidOut (carried (bodyFields b).2) ∧ totalWidth (carried (bodyFields b).2) = (bodyFields b).1
    ∧ fieldsFrom 7 (carried (bodyFields b).2) = (bodyFields b).2

theorem carried_append (fs gs : List Field) : carried (fs ++ gs) = carried fs ++ carried gs := List.map_append

theorem Report.payload_layout (r : Report) (gap : Bool) (hbody : r.body.LaidOut) :
    HasLayout (r.payload gap) (7 + (bodyFields r.body).1) (reportHeader r gap ++ (bodyFields r.body).2) := by
  obtain ⟨hbytes, hwidth, hfields⟩ := hbody
  refine hasLayout_of_carried ?_ ?_ ?_
  · rw [carried_append, laidOut_append, ← hbytes]
    simp [laidOut, carried, reportHeader, Report.payload]
  · rw [carried_append, totalWidth_append, hwidth]
    rfl
  · rw [carried_append, fieldsFrom_append]
    exact congrArg (reportHeader r gap ++ ·) hfields

/-! ### Bodies -/

theorem carried_fieldsFrom (offset : Nat) (fs : List (Nat × Int)) : carried (fieldsFrom offset fs) = fs := by
  induction fs generalizing offset with
  | nil => rfl
  | cons f fs ih => exact congrArg (f :: ·) (ih _)

theorem carried_listFields (offset : Nat) (l : List LoadNo) : carried (listFields offset l) = listBytes l := by
  rw [listFields_eq, carried_fieldsFrom]

theorem laidOut_listBytes (l : List LoadNo) : laidOut (listBytes l) = l.map fun n => byte n.val := by
  induction l with
  | nil => rfl
  | cons n l ih =>
    change fieldBytes 1 (n.val : Int) ++ laidOut (listBytes l) = _
    rw [ih, fieldBytes_byte]
    rfl

theorem Body.shedBegin_laidOut (budget p c : Nat) (shed : List LoadNo) :
    (Body.shedBegin budget p c shed).LaidOut := by
  refine ⟨?_, ?_, ?_⟩
  · rw [bodyFields, carried_append, carried_listFields, laidOut_append, laidOut_listBytes]
    simp [laidOut, carried, Body.bytes, loadList]
  · rw [bodyFields, carried_append, carried_listFields, totalWidth_append, totalWidth_listBytes]
    rfl
  · rw [bodyFields, carried_append, carried_listFields, fieldsFrom_append, listFields_eq]
    rfl

/-- One zone's entry of a BOUNDARY report as widths and values. -/
def zoneEntry (x : AirFigures × DoorFigures) : List (Nat × Int) :=
  [(2, orWord x.1.co), (1, orByte x.1.no2), (1, x.1.highest), (2, (32768 * x.1.exceeded.toNat + x.2.opens : Nat)),
    (2, x.2.entries)]

theorem boundaryEntry_eq (x : AirFigures × DoorFigures) : boundaryEntry x.1 x.2 = laidOut (zoneEntry x) := by
  have hexceeded : (if x.1.exceeded then 32768 else 0) = 32768 * x.1.exceeded.toNat := by cases x.1.exceeded <;> rfl
  rw [boundaryEntry, hexceeded, zoneEntry]
  simp only [laidOut, List.flatMap_cons, List.flatMap_nil, fieldBytes_signed, signed_natCast, signed_orWord,
    fieldBytes_orByte, fieldBytes_byte]
  simp

theorem laidOut_flatMap {α : Type} (e : α → List (Nat × Int)) (l : List α) :
    laidOut (l.flatMap e) = l.flatMap fun x => laidOut (e x) := List.flatMap_assoc

/-- The entries of a BOUNDARY report from an offset on. -/
def zoneEntries (offset : Nat) (l : List (AirFigures × DoorFigures)) : List Field :=
  fieldsFrom offset (l.flatMap zoneEntry)

theorem zoneEntries_eq (l : List (AirFigures × DoorFigures)) :
    (l.mapIdx fun z (x : AirFigures × DoorFigures) =>
      ([⟨14 + 8 * z, 2, orWord x.1.co⟩, ⟨16 + 8 * z, 1, orByte x.1.no2⟩, ⟨17 + 8 * z, 1, x.1.highest⟩,
        ⟨18 + 8 * z, 2, 32768 * x.1.exceeded.toNat + x.2.opens⟩, ⟨20 + 8 * z, 2, x.2.entries⟩] : List Field)).flatten
      = zoneEntries 14 l := by
  rw [zoneEntries, fieldsFrom_flatMap 14 8 _ l fun _ _ => rfl]
  refine congrArg List.flatten (List.mapIdx_eq_mapIdx_iff.2 fun z hz => ?_)
  simp [zoneEntry, fieldsFrom]
  omega

theorem Body.boundary_laidOut (h : BoundaryHead) (air : List AirFigures) (doors : List DoorFigures) :
    (Body.boundary h air doors).LaidOut := by
  refine ⟨?_, ?_, ?_⟩
  · rw [bodyFields, zoneEntries_eq, carried_append, zoneEntries, carried_fieldsFrom, laidOut_append, laidOut_flatMap]
    simp only [← boundaryEntry_eq]
    simp only [laidOut, carried, Body.bytes, List.flatMap_def, List.map_zip_eq_zipWith]
    simp
    rfl
  · rw [bodyFields, zoneEntries_eq, carried_append, zoneEntries, carried_fieldsFrom, totalWidth_append,
      totalWidth_flatMap 8 _ _ fun _ _ => rfl, List.length_zip]
    rfl
  · rw [bodyFields, zoneEntries_eq, carried_append, zoneEntries, carried_fieldsFrom, fieldsFrom_append]
    rfl

theorem Body.laidOut (b : Body) : b.LaidOut := by
  cases b with
  | boundary h air doors => exact boundary_laidOut h air doors
  | shedBegin budget p c shed => exact shedBegin_laidOut budget p c shed
  | _ => exact ⟨by simp [Machine.laidOut, carried, bodyFields, Body.bytes, airTripGases], rfl, rfl⟩

/-! ### The obligation -/

theorem Body.kind_eq (b : Body) : b.kind = reportKind b := by cases b <;> rfl

/-- Settles O7: each layout is read off the list of its fields, which the bytes are, one after the other. -/
theorem transmittedBytesFollowLayouts : Obligations.TransmittedBytesFollowLayouts := by
  refine ⟨codesHold, fun x => ?_, rfl, crc_append_byte⟩
  cases x with
  | reply r => exact ⟨r.kind, r.payload, rfl, rfl, r.payload_layout, rfl⟩
  | probe p => exact ⟨0xBF, p.payload, rfl, rfl, p.payload_layout⟩
  | report r gap => exact ⟨r.body.kind, r.payload gap, rfl, r.body.kind_eq, r.payload_layout gap r.body.laidOut⟩

end Sys2Proof.Machine
end

section
/-! The status reads and their records (O19). -/

namespace Sys2Proof.Machine

/-! ### A read -/

/-- A request whose block answers with a record reads it. -/
theorem reads_of_report {c : Instr} {act : State → State × Answer} {s : State} {l : List Byte} {length : Nat}
    {fields : List Field} (hexec : exec c s = request c act s) (htakes : s.takesRequests = true)
    (hact : act (s.takeHanded c) = report l (s.takeHanded c)) (hlayout : HasLayout l length fields) :
    Reads c s length fields :=
  have ⟨t, ht, hreply, hframe⟩ := request_answers htakes hact
  ⟨l, hlayout, t, hexec.trans ht, hreply, hframe⟩

theorem HasLayout.mono {l : List Byte} {length : Nat} {fs gs : List Field} (h : HasLayout l length fs)
    (hsub : gs ⊆ fs) : HasLayout l length gs := ⟨h.1, fun f hf => h.2 f (hsub hf)⟩

/-! ### Zeros -/

theorem fieldBytes_zero (w : Nat) : fieldBytes w 0 = List.replicate w 0 := by
  have hzeros (w : Nat) : bigEndian w 0 = List.replicate w 0 := by
    induction w with
    | zero => rfl
    | succ w ih => rw [bigEndian, List.replicate_succ', ← ih]; rfl
  rw [fieldBytes, Int.zero_emod]
  exact hzeros w

theorem firstFour_eq (l : List Nat) :
    (l ++ List.replicate 4 0).take 4 = [l.getD 0 0, l.getD 1 0, l.getD 2 0, l.getD 3 0] := by
  rcases l with _ | ⟨a, _ | ⟨b, _ | ⟨c, _ | ⟨d, l⟩⟩⟩⟩ <;> simp

/-! ### The records -/

theorem partRecord_layout (p : Part) : HasLayout (partRecord p) 5 (partFields p) :=
  hasLayout_of_carried (by simp [laidOut, carried, partFields, partRecord]) rfl rfl

theorem profileRecord_layout (n : ProfileNo) (p : Profile) : HasLayout (profileRecord n p) 13 (profileFields n p) :=
  hasLayout_of_carried (by simp [laidOut, carried, profileFields, profileRecord]) rfl rfl

theorem rowRecord_layout (table row : Nat) (r : Row) :
    HasLayout (byte table :: byte row :: rowRecord r) 8 (rowFields table row r) := by
  have hone : fieldBytes 1 1 = [1] := rfl
  have htwo : fieldBytes 1 2 = [2] := rfl
  have hthree : fieldBytes 1 3 = [3] := rfl
  cases r <;> refine hasLayout_of_carried ?_ rfl rfl <;>
    simp [laidOut, carried, rowFields, rowRecord, fieldBytes_zero, hone, htwo, hthree]

theorem sensorRecord_layout (s : State) (n : SensorNo) :
    HasLayout (sensorRecord s n) 11 (sensorFields s n) := by
  have hzero : byte 0 = 0 := rfl
  refine hasLayout_of_carried ?_ rfl rfl
  cases h : (s.readings.sensors.get n).defn <;>
    simp [laidOut, carried, sensorFields, sensorRecord, h, secondsField, fieldBytes_zero, hzero]

theorem contactByte_eq (l : Line) (p : Polarity) : contactByte l (assertedAt p l.settled) = byte (contactValue l p) := by
  unfold contactValue
  rw [byte_bits]
  cases p <;> rfl

theorem doorRecord_layout (s : State) (n : DoorNo) : HasLayout (doorRecord s n) 18 (doorFields s n) := by
  refine hasLayout_of_carried ?_ (by simp [totalWidth, carried, doorFields]) rfl
  have hopen : s.doors.openAsserted n
      = assertedAt ((s.doors.doors.get n).defn.getD DoorDef.builtIn).openPolarity (s.doors.lines.get (openLine n)).settled := by
    rw [Doors.openAsserted, Door.openPolarity]
    cases (s.doors.doors.get n).defn <;> rfl
  have htrailer : s.doors.trailerAsserted n
      = assertedAt ((s.doors.doors.get n).defn.getD DoorDef.builtIn).trailerPolarity
          (s.doors.lines.get (trailerLine n)).settled := by
    rw [Doors.trailerAsserted, Door.trailerPolarity]
    cases (s.doors.doors.get n).defn <;> rfl
  have hdefined : fieldBytes 1 (if (s.doors.doors.get n).defn = none then 0 else 1)
      = [flagByte (s.doors.doors.get n).defn.isSome] := by
    cases (s.doors.doors.get n).defn <;> rfl
  rw [doorRecord, hopen, htrailer, contactByte_eq, contactByte_eq]
  simp [laidOut, carried, doorFields, secondsField, hdefined, DoorDef.builtIn]

theorem loadRecord_layout (s : State) (n : LoadNo) : HasLayout (loadRecord s n) 27 (loadFields s n) := by
  rw [loadRecord, loadFields]
  cases hdefn : (s.loads.get n).defn with
  | none =>
    refine hasLayout_of_carried ?_ rfl rfl
    have hnone : fieldBytes 1 255 = [0xFF] := rfl
    simp [laidOut, carried, fieldBytes_zero, hnone]
  | some f =>
    refine hasLayout_of_carried ?_ (by simp [totalWidth, carried]) rfl
    have hshed : fieldBytes 1 (if n ∈ s.budget.shed then 1 else 0) = [flagByte (s.budget.shed.contains n)] := by
      by_cases h : n ∈ s.budget.shed <;> simp [h] <;> rfl
    have hqueue : fieldBytes 1 (if n ∈ s.budget.queue then s.budget.queue.idxOf n + 1 else 0)
        = [byte (if s.budget.queue.contains n then s.budget.queue.idxOf n + 1 else 0)] := by
      by_cases h : n ∈ s.budget.queue
      · simp only [h, if_true, List.contains_eq_mem, decide_true]
        exact fieldBytes_byte _
      · simp [h]
        rfl
    dsimp only
    rw [firstFour_eq]
    simp [laidOut, carried, secondsField, hshed, hqueue, Load.dutyOf, Load.maxLevel, hdefn, -Int.natCast_ediv]

/-! ### The zone record -/

theorem countP_inZone {α : Type} {n : Nat} (t : Table n α) (inZone : α → Bool) (names : α → Prop) [DecidablePred names]
    (h : ∀ x, inZone x = true ↔ names x) :
    t.entries.countP inZone = ((List.finRange n).filter fun k => names (t.get k)).length := by
  rw [Table.entries_eq, List.countP_map, List.countP_eq_length_filter]
  refine congrArg List.length (List.filter_congr fun k _ => ?_)
  rw [Bool.eq_iff_iff, decide_eq_true_iff]
  exact h _

theorem Span.field_eq (t : Span) : t.field = spanMinutes t := by cases t <;> rfl

theorem word_zero : word 0 = [0, 0] := rfl

theorem signed_ite (p : Prop) [Decidable p] (n : Nat) :
    signed (if p then (n : Int) else 0) = word (if p then n else 0) := by
  split
  · exact signed_natCast n
  · rfl

theorem byte_zero : byte 0 = 0 := rfl

theorem zoneRecord_layout (s : State) (z : Zone) : HasLayout (zoneRecord s z) 32 (zoneFields s z) := by
  refine hasLayout_of_carried ?_ (by simp [totalWidth, carried, zoneFields]) rfl
  have hdoors := countP_inZone s.doors.doors (·.inZone z) _ fun d => Door.inZone_iff d z
  have hsensors := countP_inZone s.readings.sensors (·.inZone z) _ fun d => Sensor.inZone_iff d z
  have hloads := countP_inZone s.loads (·.inZone z) _ fun d => Load.inZone_iff d z
  rw [zoneRecord, hdoors, hsensors, hloads]
  cases hoverride : s.calendar.overrides.get z <;> cases hpurge : (s.air.zones.get z).purge <;>
    simp [laidOut, carried, zoneFields, hoverride, hpurge, Span.field_eq, word_zero, fieldBytes_zero, byte_zero]

/-! ### The calendar record -/

theorem holdsRotation_eq (t : Table 24 Row) : holdsRotation t = t.entries.any fun r => decide (r ≠ .empty) := by
  rw [Bool.eq_iff_iff, holdsRotation_iff, partRows_ne_nil_iff, any_entries_iff]
  simp

/-- The loop stack's three slots, outermost frame first. -/
theorem stackBytes_eq (stack : List LoopFrame) :
    stackBytes stack
      = [byte (stack.reverse.getD 0 ⟨0, 0⟩).row, byte (stack.reverse.getD 0 ⟨0, 0⟩).passes,
          byte (stack.reverse.getD 1 ⟨0, 0⟩).row, byte (stack.reverse.getD 1 ⟨0, 0⟩).passes,
          byte (stack.reverse.getD 2 ⟨0, 0⟩).row, byte (stack.reverse.getD 2 ⟨0, 0⟩).passes] := by
  have hzero : byte 0 = 0 := rfl
  rw [stackBytes]
  rcases stack.reverse with _ | ⟨a, _ | ⟨b, _ | ⟨c, rest⟩⟩⟩ <;> simp [hzero]

/-- The fields of a calendar record before the cursor. -/
def calendarHead (c : Calendar) : List Field :=
  let holds : Bool := c.active.entries.any fun r => decide (r ≠ .empty)
  [⟨0, 2, c.day⟩, ⟨2, 4, c.second⟩, ⟨6, 1, bitsValue [c.unknown, c.anchor.isSome, holds, c.committed]⟩,
    ⟨7, 2, match c.anchor with | some a => a.day | none => 0⟩,
    ⟨9, 2, match c.anchor with | some a => a.minute | none => 0⟩, ⟨11, 1, c.defaultProfile.val⟩,
    ⟨12, 2, if holds then cycleLength c.active else 0⟩, ⟨14, 1, c.siteProfile.val⟩]

/-- The fields of the lookahead. -/
def lookaheadFields (l : Option Lookahead) : List Field :=
  [⟨28, 1, orByte (l.map fun l => l.profile.val)⟩, ⟨29, 2, match l with | some l => l.minutes | none => 0⟩]

/-- The fields of the cursor. -/
def cursorFields (condition : Nat) (row profile : Int) (crew left : Nat) (stack : List LoopFrame) : List Field :=
  let slot (k : Nat) : LoopFrame := stack.reverse.getD k ⟨0, 0⟩
  [⟨15, 1, condition⟩, ⟨16, 1, row⟩, ⟨17, 1, profile⟩, ⟨18, 1, crew⟩, ⟨19, 2, left⟩, ⟨21, 1, stack.length⟩,
    ⟨22, 1, (slot 0).row⟩, ⟨23, 1, (slot 0).passes⟩, ⟨24, 1, (slot 1).row⟩, ⟨25, 1, (slot 1).passes⟩,
    ⟨26, 1, (slot 2).row⟩, ⟨27, 1, (slot 2).passes⟩]

theorem cursorFields_bytes (condition : Nat) (row profile : Int) (crew left : Nat) (stack : List LoopFrame) :
    laidOut (carried (cursorFields condition row profile crew left stack))
      = byte condition :: (fieldBytes 1 row ++ fieldBytes 1 profile ++ [byte crew] ++ word left
          ++ [byte stack.length] ++ stackBytes stack) := by
  rw [stackBytes_eq]
  simp [laidOut, carried, cursorFields]

/-- Where the cursor's bytes carry some fields, the calendar record carries them between its head and the lookahead. -/
theorem calendarRecord_layout_of_cursor {c : Calendar} {condition : Nat} {row profile : Int} {crew left : Nat}
    {stack : List LoopFrame}
    (hcursor : cursorBytes c = laidOut (carried (cursorFields condition row profile crew left stack))) :
    HasLayout (calendarRecord c) 31
      (calendarHead c ++ lookaheadFields c.lookahead ++ cursorFields condition row profile crew left stack) := by
  have hhead : laidOut (carried (calendarHead c))
      = word c.day ++ long c.second
        ++ [flagBits [c.unknown, c.anchor.isSome, holdsRotation c.active, c.committed]]
        ++ word ((c.anchor.map fun a => a.day).getD 0) ++ word ((c.anchor.map fun a => a.minute).getD 0)
        ++ [byte c.defaultProfile.val]
        ++ word (if holdsRotation c.active then cycleLength c.active else 0) ++ [byte c.siteProfile.val] := by
    rw [holdsRotation_eq, calendarHead]
    generalize (c.active.entries.any fun r => decide (r ≠ .empty)) = holds
    cases c.anchor <;> simp [laidOut, carried, word_zero, fieldBytes_zero, signed_ite]
  have htail : laidOut (carried (lookaheadFields c.lookahead))
      = [byteOr (c.lookahead.map fun l => l.profile.val)] ++ word ((c.lookahead.map fun l => l.minutes).getD 0) := by
    cases c.lookahead <;> simp [laidOut, carried, lookaheadFields, word_zero, fieldBytes_zero]
  have hrow : HasLayout (calendarRecord c) 31
      (calendarHead c ++ cursorFields condition row profile crew left stack ++ lookaheadFields c.lookahead) := by
    refine hasLayout_of_carried ?_ (by simp [totalWidth, carried, calendarHead, cursorFields, lookaheadFields]) rfl
    rw [carried_append, carried_append, laidOut_append, laidOut_append, hhead, htail, ← hcursor]
    simp [calendarRecord]
  exact hrow.mono fun f hf => by
    simp only [List.mem_append] at hf ⊢
    tauto

theorem calendarRecord_layout (c : Calendar) : HasLayout (calendarRecord c) 31 (calendarFields c) := by
  have habsent : fieldBytes 1 255 = [0xFF] := rfl
  unfold calendarFields
  rcases hcursor : c.cursor with _ | _ | ⟨row, left, stack⟩
  · refine calendarRecord_layout_of_cursor ?_
    rw [cursorFields_bytes, cursorBytes, hcursor]
    rfl
  · refine calendarRecord_layout_of_cursor ?_
    rw [cursorFields_bytes, cursorBytes, hcursor]
    rfl
  · have hother (hprofile : shiftProfile? c.active row = none) (hcrew : crewOf c.active row = 0) :
        cursorBytes c = laidOut (carried (cursorFields 2 row 255 0 left stack)) := by
      rw [cursorFields_bytes, cursorBytes, hcursor]
      dsimp only
      rw [hprofile, hcrew, habsent]
      simp [byteOr]
      rfl
    dsimp only
    rcases hrow : c.active.get? row with _ | _ | ⟨p, n, crew⟩ | _ | _
    case some.shift =>
      refine calendarRecord_layout_of_cursor ?_
      rw [cursorFields_bytes, cursorBytes, hcursor]
      dsimp only
      rw [shiftProfile?, crewOf, hrow]
      simp [byteOr]
      rfl
    all_goals exact calendarRecord_layout_of_cursor (hother (by rw [shiftProfile?, hrow]) (by rw [crewOf, hrow]))

/-! ### The budget record -/

/-- The fields of a budget record before its lists. -/
def budgetHead (b : Budget) : List Field :=
  [⟨0, 2, b.site⟩, ⟨2, 1, b.mode.code⟩, ⟨3, 2, orWord (b.cap.map fun c => c.value)⟩,
    ⟨5, 2, match b.cap with | some c => spanMinutes c.span | none => 0⟩, ⟨7, 2, b.inForce⟩, ⟨9, 4, b.protectedDraw⟩,
    ⟨13, 4, b.committedDraw⟩, ⟨17, 1, b.tie.val⟩, ⟨18, 2, Timer.seconds b.rotation⟩, ⟨20, 2, Timer.seconds b.stagger⟩,
    ⟨22, 1, b.shed.length⟩]

theorem budgetRecord_layout (b : Budget) :
    HasLayout (budgetRecord b) (24 + b.shed.length + queueSent b) (budgetFields b) := by
  have hqueue : b.queue.take (queueRoom b.shed) = b.queue.take (queueSent b) :=
    List.take_eq_take_min.trans (by rw [queueSent, queueRoom, Nat.min_comm])
  have hlength : (b.queue.take (queueSent b)).length = queueSent b := by
    rw [List.length_take, queueSent]
    omega
  have hhead : laidOut (carried (budgetHead b)) = word b.site ++ [byte b.mode.code]
      ++ wordOr (b.cap.map fun c => c.value) ++ word ((b.cap.map fun c => c.span.field).getD 0)
      ++ word b.inForce ++ long b.protectedDraw ++ long b.committedDraw ++ [byte b.tie.val]
      ++ secondsField b.rotation ++ secondsField b.stagger ++ [byte b.shed.length] := by
    cases hcap : b.cap <;> simp [laidOut, carried, budgetHead, hcap, secondsField, word_zero, fieldBytes_zero, Span.field_eq]
  have hfields : budgetFields b = budgetHead b ++ listFields 23 b.shed ++ [⟨23 + b.shed.length, 1, queueSent b⟩]
      ++ listFields (24 + b.shed.length) (b.queue.take (queueSent b)) := rfl
  have hcarried : carried (budgetFields b) = carried (budgetHead b) ++ listBytes b.shed ++ [(1, (queueSent b : Int))]
      ++ listBytes (b.queue.take (queueSent b)) := by
    rw [hfields, carried_append, carried_append, carried_append, carried_listFields, carried_listFields]
    rfl
  refine hasLayout_of_carried ?_ ?_ ?_
  · rw [hcarried, laidOut_append, laidOut_append, laidOut_append, laidOut_listBytes, laidOut_listBytes, hhead]
    simp [budgetRecord, loadList, laidOut, hqueue, hlength]
  · rw [hcarried, totalWidth_append, totalWidth_append, totalWidth_append, totalWidth_listBytes, totalWidth_listBytes,
      hlength]
    have hwidth : totalWidth (carried (budgetHead b)) = 23 := by simp [totalWidth, carried, budgetHead]
    rw [hwidth]
    change 23 + b.shed.length + 1 + queueSent b = _
    omega
  · rw [hcarried, fieldsFrom_append, fieldsFrom_append, fieldsFrom_append, totalWidth_append, totalWidth_append,
      totalWidth_append, totalWidth_listBytes, hfields, listFields_eq, listFields_eq]
    have hwidth : totalWidth (carried (budgetHead b)) = 23 := by simp [totalWidth, carried, budgetHead]
    have hstart : fieldsFrom 0 (carried (budgetHead b)) = budgetHead b := rfl
    rw [hwidth, hstart]
    have hqueueOffset : 0 + (23 + b.shed.length + totalWidth [(1, (queueSent b : Int))]) = 24 + b.shed.length := by
      rw [show totalWidth [(1, (queueSent b : Int))] = 1 from rfl]
      omega
    rw [hqueueOffset]
    simp [fieldsFrom]

/-! ### The obligation -/

/-- What a read answers does not depend on the request being handed. -/
theorem report_takeHanded {record : State → List Byte} {s : State} (c : Instr)
    (h : ∀ o, record (s.withHanded o) = record s) :
    report (record (s.takeHanded c)) (s.takeHanded c) = report (record s) (s.takeHanded c) := by
  rw [State.takeHanded_eq, h]

section
variable {s : State} (htakes : s.takesRequests = true)
include htakes

theorem zoneStatus_answers (z : Zone) :
    if s.zones.get z = .undefined then AnswersOnly (.zoneStatus z) .notFound [] s
    else Reads (.zoneStatus z) s 32 (zoneFields s z) := by
  have hexec : exec (.zoneStatus z) s = execZoneStatus z s := rfl
  split
  · next hz =>
    refine answersOnly_of_refuse (hexec.trans rfl) htakes ?_
    rw [State.takeHanded_zone?, State.zone?_eq_none fun y hy => by rwa [← Fin.ext hy]]
  · next hz =>
    refine reads_of_report (hexec.trans rfl) htakes ?_ (zoneRecord_layout s z)
    rw [State.takeHanded_zone?, State.zone?_of_defined hz]
    exact report_takeHanded (record := (zoneRecord · z)) _ fun _ => rfl

theorem loadStatus_reads (n : LoadNo) : Reads (.loadStatus n) s 27 (loadFields s n) := by
  have hexec : exec (.loadStatus n) s = execLoadStatus n s := rfl
  refine reads_of_report (hexec.trans rfl) htakes ?_ (loadRecord_layout s n)
  rw [number?_val]
  exact report_takeHanded (record := (loadRecord · n)) _ fun _ => rfl

theorem doorStatus_reads (n : DoorNo) : Reads (.doorStatus n) s 18 (doorFields s n) := by
  have hexec : exec (.doorStatus n) s = execDoorStatus n s := rfl
  refine reads_of_report (hexec.trans rfl) htakes ?_ (doorRecord_layout s n)
  rw [number?_val]
  exact report_takeHanded (record := (doorRecord · n)) _ fun _ => rfl

theorem sensorStatus_reads (n : SensorNo) : Reads (.sensorStatus n) s 11 (sensorFields s n) := by
  have hexec : exec (.sensorStatus n) s = execSensorStatus n s := rfl
  refine reads_of_report (hexec.trans rfl) htakes ?_ (sensorRecord_layout s n)
  rw [number?_val]
  exact report_takeHanded (record := (sensorRecord · n)) _ fun _ => rfl

theorem profileRead_reads (p : ProfileNo) :
    Reads (.profileRead p) s 13 (profileFields p (s.calendar.profiles.get p)) := by
  have hexec : exec (.profileRead p) s = execProfileRead p s := rfl
  refine reads_of_report (hexec.trans rfl) htakes ?_ (profileRecord_layout p _)
  rw [number?_val]
  exact report_takeHanded (record := fun s => profileRecord p (s.calendar.profiles.get p)) _ fun _ => rfl

theorem planRead_reads {table : Nat} {t : Table 24 Row} (htable : s.calendar.table? table = some t) (r : Fin 24) :
    Reads (.planRead table r) s 8 (rowFields table r (t.get r)) := by
  have hexec : exec (.planRead table r) s = execPlanRead table r s := rfl
  refine reads_of_report (hexec.trans rfl) htakes ?_ (rowRecord_layout table r _)
  rw [State.takeHanded_calendar, htable, number?_val]

theorem planRead_refuses {t r : Nat} (h : 2 ≤ t ∨ 24 ≤ r) : AnswersOnly (.planRead t r) .badField [] s := by
  have hexec : exec (.planRead t r) s = execPlanRead t r s := rfl
  refine answersOnly_of_refuse (hexec.trans rfl) htakes ?_
  obtain ht | hr := h
  · have htable : (s.takeHanded (.planRead t r)).calendar.table? t = none := by
      match t with
      | t + 2 => rfl
    rw [htable]
  · rw [number?_eq_none hr]
    cases (s.takeHanded (.planRead t r)).calendar.table? t <;> rfl

end

/-- Settles O19: each record is the bytes of its fields, one after the other. -/
theorem statusReadsAnswer : Obligations.StatusReadsAnswer := by
  refine ⟨codesHold, fun s htakes => ⟨?_, ?_, fun _ => ?_, zoneStatus_answers htakes, loadStatus_reads htakes,
    doorStatus_reads htakes, sensorStatus_reads htakes, profileRead_reads htakes,
    fun r => ⟨planRead_reads htakes rfl r, planRead_reads htakes rfl r⟩, fun k hk => ?_, fun k hk => ?_,
    fun k hk => ?_, fun k hk => ?_, fun k hk => ?_, fun t r h => planRead_refuses htakes h⟩⟩
  · have hexec : exec .partStatus s = execPartStatus s := rfl
    exact reads_of_report (hexec.trans rfl) htakes
      (report_takeHanded (record := fun s => partRecord s.part) _ fun _ => rfl) (partRecord_layout _)
  · have hexec : exec .calendarStatus s = execCalendarStatus s := rfl
    exact reads_of_report (hexec.trans rfl) htakes
      (report_takeHanded (record := fun s => calendarRecord s.calendar) _ fun _ => rfl) (calendarRecord_layout _)
  · have hexec : exec .budgetStatus s = execBudgetStatus s := rfl
    exact reads_of_report (hexec.trans rfl) htakes
      (report_takeHanded (record := fun s => budgetRecord s.budget) _ fun _ => rfl) (budgetRecord_layout _)
  · have hexec : exec (.zoneStatus k) s = execZoneStatus k s := rfl
    refine answersOnly_of_refuse (hexec.trans rfl) htakes ?_
    rw [State.zone?, number?_eq_none hk]
  · have hexec : exec (.loadStatus k) s = execLoadStatus k s := rfl
    refine answersOnly_of_refuse (hexec.trans rfl) htakes ?_
    rw [number?_eq_none hk]
  · have hexec : exec (.doorStatus k) s = execDoorStatus k s := rfl
    refine answersOnly_of_refuse (hexec.trans rfl) htakes ?_
    rw [number?_eq_none hk]
  · have hexec : exec (.sensorStatus k) s = execSensorStatus k s := rfl
    refine answersOnly_of_refuse (hexec.trans rfl) htakes ?_
    rw [number?_eq_none hk]
  · have hexec : exec (.profileRead k) s = execProfileRead k s := rfl
    refine answersOnly_of_refuse (hexec.trans rfl) htakes ?_
    rw [number?_eq_none hk]

end Sys2Proof.Machine
end

section
/-! What each block does at START (R19, R74, R89, R90, R110, R124, R132, R148). -/

namespace Sys2Proof.Machine

/-! ### Notices of several events -/

theorem State.given_trans {s t u : State} {cs ds : List Instr} (hst : s.given t cs) (htu : t.given u ds) :
    s.given u (cs ++ ds) := by
  rw [State.given] at hst htu ⊢
  rw [htu, hst, List.append_assoc]

/-- Effects without a report give their notices and do nothing else. -/
theorem State.emit_quiet {es : List Effects} (h : ∀ e ∈ es, e.reports = []) (s : State) :
    s.emit es = s.give (es.flatMap fun e => e.notices) := by
  have hnone : busyReports es = [] := by
    rw [busyReports, List.filter_eq_nil_iff]
    intro rs hrs
    obtain ⟨e, he, rfl⟩ := List.mem_map.1 hrs
    rw [h e he]
    decide
  rw [State.emit, hnone]
  rfl

section
variable (u : State)

/-! ### The Calendar Unit (R52) -/

/-- The calendar of START before its resync: no cursor, no override, no lookahead. -/
def Calendar.unplaced (c : Calendar) : Calendar :=
  Calendar.settled { c with cursor := none, overrides := Table.fill 12 none, lookahead := none }

theorem Calendar.unplaced_eq (c : Calendar) :
    c.unplaced =
      { c with
        cursor := none, overrides := Table.fill 12 none, lookahead := none
        inForce := Table.fill 12 c.defaultProfile, siteProfile := c.defaultProfile } := by
  have hchosen (d : Calendar) (hcursor : d.cursor = none) (ho : d.overrides = Table.fill 12 none) :
      Table.ofFn d.chosen = Table.fill 12 d.defaultProfile := Table.ext_get fun i => by
    simp [Calendar.chosen, Calendar.site, Calendar.shiftProfile?, hcursor, ho]
  rw [Calendar.unplaced, Calendar.settled, hchosen _ rfl rfl]
  rfl

theorem Calendar.start_idle {c : Calendar} (h : ¬CanRotate c) : c.start = .plain c.unplaced := by
  have hno : c.unplaced.canRotate = false := Bool.eq_false_iff.2 fun hc => h ((Calendar.canRotate_iff c).1 hc)
  rw [Calendar.start]
  change Calendar.resyncIf true c.unplaced = _
  rw [Calendar.resyncIf, hno]
  rfl

theorem Calendar.start_rotates {c : Calendar} (h : CanRotate c) : c.start = c.unplaced.quietResync := by
  have hyes : CanRotate c.unplaced := h
  exact (Calendar.resyncIf_rotates _ hyes).trans rfl

theorem State.startNotices_eq (e : CalendarEvent) :
    u.startNotices e
      = (u.zonesDefined.filter fun z => u.calendar.inForce.get z ≠ e.calendar.inForce.get z).map
          (fun z => .airProfileChangeNotice z (e.calendar.inForce.get z))
        ++ noticeIf (e.look = true) [.lookaheadNotice e.calendar.lookahead] ++ [siteNotice e.calendar] := by
  have hzones : (u.definedZones.filter fun z => u.calendar.inForce.get z != e.calendar.inForce.get z)
      = u.zonesDefined.filter fun z => u.calendar.inForce.get z ≠ e.calendar.inForce.get z := by
    rw [State.definedZones_eq]
    exact List.filter_congr fun z _ => Bool.eq_iff_iff.2 (by simp)
  rw [State.startNotices, State.profileNotices, hzones]
  rfl

/-! ### The Reading Unit (R89) -/

/-- The figures that a zone gives at START. -/
def figuresAtStart (r : Readings) (z : Zone) : List Instr :=
  [.zoneTemperatureNotice z none, .zoneLuxNotice z 0]
    ++ [Gas.co, Gas.no2].flatMap fun g =>
      [.heldValueNotice z g none, .airSubstituteFlagNotice z g (r.monitors z g),
        .budgetSubstituteFlagNotice z g (r.monitors z g)]

/-- The Reading Unit with every sensor at its start. -/
def Readings.started (r : Readings) : Readings := { r with sensors := r.sensors.map (Sensor.start r.settings) }

theorem Readings.started_values (r : Readings) (k : SensorKind) (z : Zone) : r.started.values k z = [] := by
  rw [Readings.values, List.filterMap_eq_nil_iff]
  intro x hx
  obtain ⟨i, rfl⟩ : ∃ i, r.started.sensors.get i = x := by
    rw [Table.entries_eq] at hx
    obtain ⟨i, -, hi⟩ := List.mem_map.1 (List.mem_filter.1 hx).1
    exact ⟨i, hi⟩
  simp [Readings.started, Sensor.start, Sensor.atRest, Sensor.trusted]

theorem Readings.started_substitute (r : Readings) (z : Zone) (g : Gas) :
    r.started.substitute z g = r.monitors z g := by
  rw [Bool.eq_iff_iff, Readings.substitute, Readings.monitors, any_entries_iff, any_entries_iff]
  simp [Readings.started, Sensor.start, Sensor.atRest, Sensor.serves]

theorem Readings.started_figures (r : Readings) (z : Zone) :
    zoneFigures (fun _ => true) r r.started z = figuresAtStart r z := by
  simp [zoneFigures, plainFigures, gasFigures, figuresAtStart, Readings.temperature, Readings.lux, Readings.held,
    highest, Readings.started_values, Readings.started_substitute]

theorem State.startReadings_eq :
    u.startReadings
      = State.give (u.zonesDefined.flatMap (figuresAtStart u.readings)) { u with readings := u.readings.started } := by
  have hfigures : zoneFigures (fun _ => true) u.readings u.readings.started = figuresAtStart u.readings :=
    funext u.readings.started_figures
  rw [← hfigures, ← State.definedZones_eq]
  rfl

/-! ### The Air Unit (R90, R110) -/

/-- A zone at rest is left at rest by its recomputation: no gas has a ratio, a latch or a flag. -/
theorem AirZone.atRest_recompute (a : AirSettings) (monitors : Gas → Bool) :
    AirZone.atRest.recompute a monitors = AirZone.atRest := by
  cases hco : monitors .co <;> cases hno2 : monitors .no2 <;>
    simp [AirZone.recompute, AirZone.onMonitored, AirZone.rawIndex, AirZone.shortRatios, hco, hno2] <;> rfl

theorem State.startAir_eq :
    u.startAir
      = State.give (u.zonesDefined.map fun z => .exhaustNotice z 0 (u.requestsIn .exhaust z fun _ => 0))
          { u with air := { Air.atRest u.air.settings with clock := some ⟨Timer.start 10, 0⟩ } } := by
  have hzones : State.airZonesAfter (fun _ => true) (fun _ a => a)
      { u with air := { Air.atRest u.air.settings with clock := some ⟨Timer.start 10, 0⟩ } }
      = Table.fill 12 AirZone.atRest := Table.ext_get fun z => by
    rw [State.airZonesAfter_get]
    split
    · rw [State.airRecord, Air.atRest, Table.get_fill]
      exact AirZone.atRest_recompute _ _
    · rw [Air.atRest, Table.get_fill]
  have hnotice (z : Zone) : u.exhaustNoticeOf z ((Table.fill 12 AirZone.atRest).get z)
      = .exhaustNotice z 0 (u.requestsIn .exhaust z fun _ => 0) := by
    rw [Table.get_fill, State.exhaustNoticeOf, exhaustRequests, loadsOf_requests]
    simp only [AirZone.atRest, Nat.zero_min]
  simp only [State.startAir, hzones, hnotice, State.definedZones_eq]
  rfl

/-! ### The Heat Unit (R124) -/

/-- A zone's first recomputation, its temperature unknown. -/
theorem HeatZone.atRest_recompute (p : ProfileNo) (i : HeatInputs) :
    (HeatZone.atRest p).recompute i
      = { HeatZone.atRest p with stage := 1, hold := Timer.start i.settings.hold, setpoint := i.base } := by
  rcases i with ⟨settings, own, _ | next, bar⟩ <;> rfl

/-- The record with which a zone begins RUN at the Heat Unit. -/
def State.heatStarted (z : Zone) : HeatZone :=
  if u.zones.get z = .undefined then HeatZone.atRest u.calendar.defaultProfile
  else
    { HeatZone.atRest (u.calendar.inForce.get z) with
      stage := 1, hold := Timer.start u.heat.settings.hold
      setpoint := max (u.heat.settings.floor : Int)
        (heatingSetpoint (u.zones.get z) (u.calendar.profiles.get (u.calendar.inForce.get z))) }

/-- The Heat Unit at START before its recomputation. -/
def State.heatBegun : Heat :=
  { zones := Table.ofFn u.heatZoneAtStart, settings := u.heat.settings, lookahead := none, bar := false }

theorem State.startHeat_eq :
    u.startHeat
      = State.give
          (u.zonesDefined.map fun z => .heatNotice z false false (u.requestsIn .heater z fun f => min 1 f.maxLevel))
          { u with
            heat := { zones := Table.ofFn u.heatStarted, settings := u.heat.settings, lookahead := none, bar := false } } := by
  have hdefined (z : Zone) (h : z ∈ u.zonesDefined) : u.zones.get z ≠ .undefined := by
    simpa [State.zonesDefined] using h
  have hrecord (z : Zone) (h : u.zones.get z ≠ .undefined) :
      State.heatRecord { u with heat := u.heatBegun } (fun h => h) z = u.heatStarted z := by
    rw [State.heatRecord, State.heatBegun, Table.get_ofFn, State.heatZoneAtStart, if_pos (State.definedZone_iff.2 h),
      HeatZone.atRest_recompute, State.heatStarted, if_neg h]
    rfl
  have hzones : State.heatZonesAfter (fun _ => true) (fun h => h) { u with heat := u.heatBegun }
      = Table.ofFn u.heatStarted := Table.ext_get fun z => by
    rw [State.heatZonesAfter_get, Table.get_ofFn]
    split
    · next hmem => exact hrecord z (hdefined z (List.mem_filter.1 hmem).1)
    · next hnot =>
      have hundefined : u.zones.get z = .undefined := by
        simpa [State.zonesDefined] using hnot
      rw [State.heatBegun, Table.get_ofFn, State.heatZoneAtStart, State.heatStarted, if_pos hundefined,
        if_neg fun h => State.definedZone_iff.1 h hundefined]
  have heffects (z : Zone) (h : z ∈ u.zonesDefined) :
      heatEffects { u with heat := u.heatBegun } z (u.heatBegun.zones.get z) (u.heatStarted z)
        = ⟨[], [.heatNotice z false false (u.requestsIn .heater z fun f => min 1 f.maxLevel)]⟩ := by
    have hbegun : u.heatBegun.zones.get z = HeatZone.atRest (u.calendar.inForce.get z) := by
      rw [State.heatBegun, Table.get_ofFn, State.heatZoneAtStart, if_pos (State.definedZone_iff.2 (hdefined z h))]
    rw [hbegun, State.heatStarted, if_neg (hdefined z h), heatEffects, heaterRequests, loadsOf_requests]
    rfl
  have hall : ((State.zonesDefined { u with heat := u.heatBegun }).filter fun _ => true).map (fun z =>
        heatEffects { u with heat := u.heatBegun } z (u.heatBegun.zones.get z)
          (State.heatRecord { u with heat := u.heatBegun } (fun h => h) z))
      = u.zonesDefined.map fun z =>
          ⟨[], [.heatNotice z false false (u.requestsIn .heater z fun f => min 1 f.maxLevel)]⟩ := by
    rw [State.filter_true_zones]
    exact List.map_congr_left fun z h => by rw [hrecord z (hdefined z h), heffects z h]
  change State.recomputeHeat (fun _ => true) (fun h => h) { u with heat := u.heatBegun } = _
  rw [State.recomputeHeat_eq, hzones, hall, State.emit_quiet]
  · rw [List.flatMap_map, ← List.map_eq_flatMap]
    rfl
  · intro e he
    obtain ⟨z, -, rfl⟩ := List.mem_map.1 he
    rfl

end

end Sys2Proof.Machine
end

section
/-! The Light Unit at START (R132). -/

namespace Sys2Proof.Machine

section
variable (u : State)

/-- The Light Unit after the recomputation of some zones, one after the other. -/
def State.lightOver (zs : List Zone) (l : Light) : Light :=
  zs.foldl (fun l z => State.lightAfter z (fun x => x) { u with light := l }) l

theorem State.lightOver_cons (z : Zone) (zs : List Zone) (l : Light) :
    u.lightOver (z :: zs) l = u.lightOver zs (State.lightAfter z (fun x => x) { u with light := l }) := rfl

theorem State.lightOver_dock (zs : List Zone) (l : Light) : (u.lightOver zs l).dock = l.dock := by
  induction zs generalizing l with
  | nil => rfl
  | cons z zs ih =>
    rw [State.lightOver_cons, ih]
    rfl

theorem State.lightAfter_zone (z y : Zone) (l : Light) :
    (State.lightAfter z (fun x => x) { u with light := l }).zones.get y
      = if z = y then u.newLight y (l.zones.get y) else l.zones.get y := by
  rw [State.lightAfter, Table.get_set]
  split
  · next h =>
    subst h
    rfl
  · rfl

/-- A recomputed record is recomputed to itself. -/
theorem State.newLight_newLight (z : Zone) (x : LightZone) : u.newLight z (u.newLight z x) = u.newLight z x := rfl

theorem State.lightOver_zone (zs : List Zone) (l : Light) (y : Zone) :
    (u.lightOver zs l).zones.get y = if y ∈ zs then u.newLight y (l.zones.get y) else l.zones.get y := by
  induction zs generalizing l with
  | nil => simp [State.lightOver]
  | cons z zs ih =>
    rw [State.lightOver_cons, ih, State.lightAfter_zone]
    by_cases hz : z = y
    · simp only [hz, if_true, State.newLight_newLight, List.mem_cons_self, ite_self]
    · simp only [if_neg hz, List.mem_cons, Ne.symm hz, false_or]

theorem State.newLevel_newLight (z : Zone) (x : LightZone) : u.newLevel z (u.newLight z x) = u.newLevel z x := rfl

theorem State.lightAfter_request (z : Zone) (l : Light) (n : LoadNo) :
    (State.lightAfter z (fun x => x) { u with light := l }).requests.get n
      = if n ∈ loadsOf u.loads .light z then lightRequest l.dock (u.loads.get n) (u.newLevel z (l.zones.get z))
        else l.requests.get n := by
  rw [State.lightAfter, State.lightRequestsOf, noteRequests_get]
  rfl

theorem State.lightOver_request_other (zs : List Zone) (l : Light) (n : LoadNo)
    (h : ∀ f, (u.loads.get n).defn = some f → ¬(f.type = .light ∧ f.zone ∈ zs)) :
    (u.lightOver zs l).requests.get n = l.requests.get n := by
  induction zs generalizing l with
  | nil => rfl
  | cons z zs ih =>
    have hnot : n ∉ loadsOf u.loads .light z := fun hmem => by
      obtain ⟨f, hf, htype, hzone⟩ := mem_loadsOf_iff.1 hmem
      exact h f hf ⟨htype, hzone ▸ List.mem_cons_self⟩
    rw [State.lightOver_cons, ih _ fun f hf hlamp => h f hf ⟨hlamp.1, List.mem_cons_of_mem z hlamp.2⟩,
      State.lightAfter_request, if_neg hnot]

theorem State.lightOver_request_lamp (zs : List Zone) (l : Light) (n : LoadNo) {f : LoadDef}
    (hdefn : (u.loads.get n).defn = some f) (htype : f.type = .light) (hzone : f.zone ∈ zs) :
    (u.lightOver zs l).requests.get n = lampRequest l.dock (u.newLevel f.zone (l.zones.get f.zone)) f := by
  induction zs generalizing l with
  | nil => exact absurd hzone List.not_mem_nil
  | cons z zs ih =>
    rw [State.lightOver_cons]
    by_cases hrest : f.zone ∈ zs
    · rw [ih _ hrest, State.lightAfter_zone]
      split
      · next heq => rw [State.newLevel_newLight]; rfl
      · rfl
    · have hfirst : f.zone = z := (List.mem_cons.1 hzone).resolve_right hrest
      have hlamp : n ∈ loadsOf u.loads .light z := mem_loadsOf_iff.2 ⟨f, hdefn, htype, hfirst⟩
      rw [State.lightOver_request_other, State.lightAfter_request, if_pos hlamp, lightRequest_of_defined hdefn, hfirst]
      intro g hg hmem
      rw [hdefn] at hg
      cases hg
      exact hrest hmem.2

/-! ### START -/

/-- The Light Unit at START before its recomputations. -/
def State.lightBegun : Light :=
  { Light.atRest u.calendar.defaultProfile with zones := Table.ofFn u.lightZoneAtStart }

theorem State.lightBegun_zone (z : Zone) :
    u.lightBegun.zones.get z
      = LightZone.atRest (if u.zones.get z = .undefined then u.calendar.defaultProfile else u.calendar.inForce.get z) := by
  rw [State.lightBegun, Table.get_ofFn, State.lightZoneAtStart]
  by_cases h : u.zones.get z = .undefined
  · rw [if_pos h, if_neg fun hz => State.definedZone_iff.1 hz h]
  · rw [if_neg h, if_pos (State.definedZone_iff.2 h)]

/-- The Light Unit with which RUN begins. -/
def State.lightStarted : Light := u.lightOver u.zonesDefined u.lightBegun

/-- No load is bound to a SEALED door's copy at START: every LIGHT load requests the level. -/
theorem lampRequest_dark (level : Nat) (f : LoadDef) : lampRequest (Table.fill 32 false) level f = level := by
  unfold lampRequest
  split
  · rw [Table.get_fill]
    rfl
  · rfl

theorem State.mem_zonesDefined_iff {z : Zone} : z ∈ u.zonesDefined ↔ u.zones.get z ≠ .undefined := by
  simp [State.zonesDefined]

/-- With the lux at 0 the level is the profile's, not below the egress floor. -/
theorem State.newLevel_started {s b : State} {z : Zone} (hz : s.zones.get z ≠ .undefined) (hzones : u.zones = s.zones)
    (hprofiles : u.calendar.profiles = s.calendar.profiles) (hinForce : u.calendar.inForce = b.calendar.inForce) :
    u.newLevel z (LightZone.atRest (u.calendar.inForce.get z)) = (s.firstLight b z).1 := by
  rw [State.newLevel, State.firstLight, LightZone.atRest, hzones, hprofiles, hinForce, baseLevel_eq _ _ hz, lightLevel]
  cases s.zones.get z <;> simp only [Nat.zero_div, Nat.sub_zero]

theorem State.lightStarted_dock : u.lightStarted.dock = Table.fill 32 false := u.lightOver_dock _ _

theorem State.lightStarted_undefined {z : Zone} (h : u.zones.get z = .undefined) :
    u.lightStarted.zones.get z = LightZone.atRest u.calendar.defaultProfile := by
  rw [State.lightStarted, State.lightOver_zone, if_neg fun hz => (u.mem_zonesDefined_iff).1 hz h,
    State.lightBegun_zone, if_pos h]

theorem State.lightStarted_defined {z : Zone} (h : u.zones.get z ≠ .undefined) :
    u.lightStarted.zones.get z = u.newLight z (LightZone.atRest (u.calendar.inForce.get z)) := by
  rw [State.lightStarted, State.lightOver_zone, if_pos ((u.mem_zonesDefined_iff).2 h), State.lightBegun_zone, if_neg h]

theorem State.lightStarted_request_other {n : LoadNo}
    (h : ∀ f, (u.loads.get n).defn = some f → ¬(f.type = .light ∧ u.zones.get f.zone ≠ .undefined)) :
    u.lightStarted.requests.get n = 0 := by
  rw [State.lightStarted, State.lightOver_request_other]
  · exact Table.get_fill _ _
  · simpa only [State.mem_zonesDefined_iff] using h

theorem State.lightStarted_request_lamp {n : LoadNo} {f : LoadDef} (hdefn : (u.loads.get n).defn = some f)
    (htype : f.type = .light) (hzone : u.zones.get f.zone ≠ .undefined) :
    u.lightStarted.requests.get n = u.newLevel f.zone (LightZone.atRest (u.calendar.inForce.get f.zone)) := by
  rw [State.lightStarted, u.lightOver_request_lamp _ _ n hdefn htype ((u.mem_zonesDefined_iff).2 hzone),
    State.lightBegun_zone, if_neg hzone]
  exact lampRequest_dark _ f

/-- Whether a zone has a load of a type does not depend on what is requested. -/
theorem State.requestsIn_eq_nil_iff (t : LoadType) (z : Zone) (r r' : LoadDef → Nat) :
    u.requestsIn t z r = [] ↔ u.requestsIn t z r' = [] := by
  simp only [State.requestsIn, List.filterMap_eq_nil_iff]
  refine forall₂_congr fun n _ => ?_
  cases (u.loads.get n).defn with
  | none => exact Iff.rfl
  | some f => by_cases h : f.type = t ∧ f.zone = z <;> simp [h]

/-- The light notice of a zone at START. -/
def State.firstLightNotice (z : Zone) : List Instr :=
  let new := u.newLight z (LightZone.atRest (u.calendar.inForce.get z))
  noticeIf (u.requestsIn .light z (fun _ => 0) ≠ []) [.lightNotice z new.floor (u.requestsIn .light z fun _ => new.level)]

theorem State.lightNoticeOf_begun {z : Zone} (h : u.zones.get z ≠ .undefined) :
    State.lightNoticeOf { u with light := u.lightBegun } z (u.lightStarted.zones.get z) = u.firstLightNotice z := by
  have hrequests (level : Nat) :
      State.lightRequestsOf { u with light := u.lightBegun } z level = u.requestsIn .light z fun _ => level :=
    (State.lightRequestsOf_eq level).trans (congrArg (u.requestsIn .light z) (funext fun f => lampRequest_dark level f))
  rw [State.lightNoticeOf, hrequests, State.lightStarted_defined u h, State.firstLightNotice, noticeIf]
  by_cases hnone : u.requestsIn .light z (fun _ => 0) = []
  · have hempty := (u.requestsIn_eq_nil_iff .light z _
      (fun _ => (u.newLight z (LightZone.atRest (u.calendar.inForce.get z))).level)).1 hnone
    rw [if_neg (not_not_intro hnone), hempty]
    rfl
  · have hsome := mt (u.requestsIn_eq_nil_iff .light z
      (fun _ => (u.newLight z (LightZone.atRest (u.calendar.inForce.get z))).level) _).1 hnone
    rw [if_pos hnone, if_neg (by rwa [List.isEmpty_iff])]

theorem State.startLight_eq :
    u.startLight = State.give (u.zonesDefined.flatMap u.firstLightNotice) { u with light := u.lightStarted } := by
  have hnotices : u.definedZones.flatMap (fun z =>
        State.lightNoticeOf { u with light := u.lightBegun } z (u.lightStarted.zones.get z))
      = u.zonesDefined.flatMap u.firstLightNotice := by
    rw [State.definedZones_eq]
    exact List.flatMap_congr fun z hz => u.lightNoticeOf_begun ((u.mem_zonesDefined_iff).1 hz)
  rw [← hnotices, State.startLight, State.lightStarted, State.definedZones_eq]
  rfl

end

end Sys2Proof.Machine
end

section
/-! START (O17): every block started, and what they give. -/

namespace Sys2Proof.Machine

/-! ### The state in which RUN begins -/

/-- START leaves the profiles and the default profile as they are. -/
theorem Calendar.start_profiles (c : Calendar) : c.start.calendar.profiles = c.profiles := by
  by_cases h : CanRotate c
  · rw [Calendar.start_rotates h]
    rfl
  · rw [Calendar.start_idle h]
    rfl

theorem Calendar.start_defaultProfile (c : Calendar) : c.start.calendar.defaultProfile = c.defaultProfile := by
  by_cases h : CanRotate c
  · rw [Calendar.start_rotates h]
    rfl
  · rw [Calendar.start_idle h]
    rfl

section
variable (s : State)

/-- The state once Calendar and Budget Unit have started, which the other units read. -/
def State.startRead : State := { s with calendar := s.calendar.start.calendar, budget := s.budget.start }

/-- The state in which RUN begins, but for the notices given. -/
def State.begun : State :=
  { s.startRead with
    readings := s.readings.started
    doors := s.doors.evaluateAll
    air := { Air.atRest s.air.settings with clock := some ⟨Timer.start 10, 0⟩ }
    heat :=
      { zones := Table.ofFn s.startRead.heatStarted, settings := s.heat.settings, lookahead := none, bar := false }
    light := s.startRead.lightStarted }

/-- The notices that the blocks give, unit by unit. -/
def State.begunNotices : List Instr :=
  s.startNotices s.calendar.start
    ++ s.zonesDefined.flatMap (figuresAtStart s.readings)
    ++ s.doorNoticesDue s.begun
    ++ (s.zonesDefined.map fun z => .exhaustNotice z 0 (s.requestsIn .exhaust z fun _ => 0))
    ++ (s.zonesDefined.map fun z => .heatNotice z false false (s.requestsIn .heater z fun f => min 1 f.maxLevel))
    ++ s.zonesDefined.flatMap s.startRead.firstLightNotice

theorem State.startBlocks_eq : s.startBlocks = { s.begun with inFlight := s.startBlocks.inFlight } := by
  rw [State.startBlocks, State.startLight_eq, State.startHeat_eq, State.startAir_eq, State.startDoors,
    State.startReadings_eq]
  rfl

section
variable {s} {u v : State} {cs : List Instr}

theorem State.zonesDefined_congr (h : u.zones = v.zones) : u.zonesDefined = v.zonesDefined := by
  rw [State.zonesDefined, State.zonesDefined, h]

theorem State.requestsIn_congr (h : u.loads = v.loads) (t : LoadType) (z : Zone) (r : LoadDef → Nat) :
    u.requestsIn t z r = v.requestsIn t z r := by
  rw [State.requestsIn, State.requestsIn, h]

theorem State.firstLightNotice_congr (hzones : u.zones = v.zones) (hloads : u.loads = v.loads)
    (hcalendar : u.calendar = v.calendar) : u.firstLightNotice = v.firstLightNotice := by
  funext z
  simp only [State.firstLightNotice, State.newLight, State.newLevel, State.requestsIn_congr hloads, hzones, hcalendar]

theorem State.startReadings_given (h : s.given u cs) (hzones : u.zones = s.zones) (hreadings : u.readings = s.readings) :
    s.given u.startReadings (cs ++ s.zonesDefined.flatMap (figuresAtStart s.readings)) := by
  rw [State.startReadings_eq, State.zonesDefined_congr hzones, hreadings]
  exact State.given_trans h (State.give_notices _ _)

theorem State.startDoors_given (h : s.given u cs) (hdoors : u.doors = s.doors) (hloads : u.loads = s.loads) :
    s.given u.startDoors (cs ++ s.doorNoticesDue s.begun) := by
  have hdue : doorNotices u.loads u.doors u.doors.evaluateAll = s.doorNoticesDue s.begun := by
    rw [hdoors, hloads]
    exact doorNotices_eq_due s s.begun
  rw [← hdue]
  exact State.given_trans h (State.give_notices _ _)

theorem State.startAir_given (h : s.given u cs) (hzones : u.zones = s.zones) (hloads : u.loads = s.loads) :
    s.given u.startAir (cs ++ s.zonesDefined.map fun z => .exhaustNotice z 0 (s.requestsIn .exhaust z fun _ => 0)) := by
  rw [State.startAir_eq, State.zonesDefined_congr hzones]
  simp only [State.requestsIn_congr hloads]
  exact State.given_trans h (State.give_notices _ _)

theorem State.startHeat_given (h : s.given u cs) (hzones : u.zones = s.zones) (hloads : u.loads = s.loads) :
    s.given u.startHeat (cs ++ s.zonesDefined.map fun z =>
      .heatNotice z false false (s.requestsIn .heater z fun f => min 1 f.maxLevel)) := by
  rw [State.startHeat_eq, State.zonesDefined_congr hzones]
  simp only [State.requestsIn_congr hloads]
  exact State.given_trans h (State.give_notices _ _)

theorem State.startLight_given (h : s.given u cs) (hzones : u.zones = s.zones) (hloads : u.loads = s.loads)
    (hcalendar : u.calendar = s.startRead.calendar) :
    s.given u.startLight (cs ++ s.zonesDefined.flatMap s.startRead.firstLightNotice) := by
  rw [State.startLight_eq, State.zonesDefined_congr hzones,
    State.firstLightNotice_congr (v := s.startRead) hzones hloads hcalendar]
  exact State.given_trans h (State.give_notices _ _)

end

/-! ### What each start leaves to the next -/

theorem State.startReadings_onlyChanges (u : State) : u.onlyChanges u.startReadings [.readings, .inFlight] := by
  rw [State.startReadings_eq]
  intro r hr
  cases r <;> simp_all [State.same]

theorem State.startDoors_onlyChanges (u : State) : u.onlyChanges u.startDoors [.doors, .inFlight] := by
  intro r hr
  cases r <;> simp_all [State.same, State.startDoors, State.doorEvent]

theorem State.startAir_onlyChanges (u : State) : u.onlyChanges u.startAir [.air, .inFlight] := by
  rw [State.startAir_eq]
  intro r hr
  cases r <;> simp_all [State.same]

theorem State.startHeat_onlyChanges (u : State) : u.onlyChanges u.startHeat [.heat, .inFlight] := by
  rw [State.startHeat_eq]
  intro r hr
  cases r <;> simp_all [State.same]

theorem State.startBlocks_given : s.given s.startBlocks s.begunNotices := by
  have hcalendar : s.given { s.startCalendar with budget := s.startCalendar.budget.start }
      (s.startNotices s.calendar.start) := State.give_notices _ _
  have hstarts : s.startBlocks
      = State.startLight (State.startHeat (State.startAir (State.startDoors (State.startReadings
          { s.startCalendar with budget := s.startCalendar.budget.start })))) := rfl
  rw [hstarts]
  have hs : s.startRead.onlyChanges { s.startCalendar with budget := s.startCalendar.budget.start } [.inFlight] :=
    fun r hr => by cases r <;> simp_all [State.same, State.startCalendar, State.startRead]
  generalize ({ s.startCalendar with budget := s.startCalendar.budget.start } : State) = u at hcalendar hs
  have hreadings := (hs.mono (by decide)).trans u.startReadings_onlyChanges
  have hdoors := (hreadings.mono (by decide)).trans
    (u.startReadings.startDoors_onlyChanges.mono (R' := [.readings, .doors, .inFlight]) (by decide))
  have hair := (hdoors.mono (by decide)).trans
    ((State.startAir_onlyChanges _).mono (R' := [.readings, .doors, .air, .inFlight]) (by decide))
  have hheat := (hair.mono (by decide)).trans
    ((State.startHeat_onlyChanges _).mono (R' := [.readings, .doors, .air, .heat, .inFlight]) (by decide))
  have hgiven := State.startReadings_given hcalendar (hs .zones (by decide)) (hs .readings (by decide))
  have hgiven := State.startDoors_given hgiven (hreadings .doors (by decide)) (hreadings .loads (by decide))
  have hgiven := State.startAir_given hgiven (hdoors .zones (by decide)) (hdoors .loads (by decide))
  have hgiven := State.startHeat_given hgiven (hair .zones (by decide)) (hair .loads (by decide))
  exact State.startLight_given hgiven (hheat .zones (by decide)) (hheat .loads (by decide)) (hheat .calendar (by decide))

/-! ### The notices, zone by zone -/

theorem perm_of_parts {moved looks site zones doors figures exhaust heat light : List Instr}
    (hzones : (figures ++ exhaust ++ heat ++ light).Perm zones) :
    (moved ++ looks ++ site ++ figures ++ doors ++ exhaust ++ heat ++ light).Perm
      (site ++ moved ++ looks ++ zones ++ doors) := by
  rw [List.perm_iff_count] at hzones ⊢
  intro c
  have h := hzones c
  simp only [List.count_append] at h ⊢
  omega

/-- What a defined zone gives at START. -/
def State.zoneStartNotices (b : State) (z : Zone) : List Instr :=
  figuresAtStart s.readings z
    ++ [.exhaustNotice z 0 (s.requestsIn .exhaust z fun _ => 0),
      .heatNotice z false false (s.requestsIn .heater z fun f => min 1 f.maxLevel)]
    ++ noticeIf (s.requestsIn .light z (fun _ => 0) ≠ [])
        [.lightNotice z (s.firstLight b z).2 (s.requestsIn .light z fun _ => (s.firstLight b z).1)]

theorem State.zoneStartNotices_perm {b : State} (h : b.calendar = s.calendar.start.calendar) :
    (s.zonesDefined.flatMap (figuresAtStart s.readings)
        ++ (s.zonesDefined.map fun z => Instr.exhaustNotice z 0 (s.requestsIn .exhaust z fun _ => 0))
        ++ (s.zonesDefined.map fun z =>
          Instr.heatNotice z false false (s.requestsIn .heater z fun f => min 1 f.maxLevel))
        ++ s.zonesDefined.flatMap s.startRead.firstLightNotice).Perm
      (s.zonesDefined.flatMap (s.zoneStartNotices b)) := by
  have hlight (z : Zone) (hz : z ∈ s.zonesDefined) : s.startRead.firstLightNotice z
      = noticeIf (s.requestsIn .light z (fun _ => 0) ≠ [])
        [.lightNotice z (s.firstLight b z).2 (s.requestsIn .light z fun _ => (s.firstLight b z).1)] := by
    have hlevel := s.startRead.newLevel_started (s := s) (b := b) ((s.mem_zonesDefined_iff).1 hz) rfl
      (Calendar.start_profiles _) (congrArg Calendar.inForce h.symm)
    have hfloor : (s.startRead.newLight z (LightZone.atRest (s.startRead.calendar.inForce.get z))).floor
        = (s.firstLight b z).2 := by
      rw [State.firstLight, h, ← Calendar.start_profiles]
      rfl
    rw [State.firstLightNotice, hfloor, State.newLight, hlevel]
    rfl
  rw [List.map_eq_flatMap, List.map_eq_flatMap, List.flatMap_congr hlight]
  refine (((List.flatMap_append_perm _ _ _).append_right _).append_right _).trans ?_
  refine ((List.flatMap_append_perm _ _ _).append_right _).trans ?_
  refine (List.flatMap_append_perm _ _ _).trans (.of_eq (List.flatMap_congr fun z _ => ?_))
  simp [State.zoneStartNotices]

theorem State.begunNotices_perm {b : State} (hcalendar : b.calendar = s.calendar.start.calendar)
    (hdoors : b.doors = s.doors.evaluateAll)
    {looks : Prop} [Decidable looks] (hlooks : s.calendar.start.look = true ↔ looks) :
    s.begunNotices.Perm (s.startNoticesDue b looks) := by
  have hdue : s.startNoticesDue b looks
      = [siteNotice b.calendar]
        ++ (s.reprofiled b).map (fun z => .airProfileChangeNotice z (b.calendar.inForce.get z))
        ++ noticeIf looks [.lookaheadNotice b.calendar.lookahead]
        ++ s.zonesDefined.flatMap (s.zoneStartNotices b) ++ s.doorNoticesDue b := rfl
  have hnotice : noticeIf (s.calendar.start.look = true) [Instr.lookaheadNotice s.calendar.start.calendar.lookahead]
      = noticeIf looks [.lookaheadNotice s.calendar.start.calendar.lookahead] := if_congr hlooks rfl rfl
  have hvalues : s.doorNoticesDue s.begun = s.doorNoticesDue b := by
    rw [← doorNotices_eq_due, ← doorNotices_eq_due, hdoors]
    rfl
  rw [hdue, State.begunNotices, State.startNotices_eq, hnotice, hvalues, State.reprofiled, hcalendar]
  exact perm_of_parts (s.zoneStartNotices_perm hcalendar)

/-! ### Every block has started -/

theorem State.startBlocks_calendar : s.startBlocks.calendar = s.calendar.start.calendar := by
  rw [State.startBlocks_eq]
  rfl

theorem State.startBlocks_gives {looks : Prop} [Decidable looks] (hlooks : s.calendar.start.look = true ↔ looks) :
    s.gives s.startBlocks (s.startNoticesDue s.startBlocks looks) :=
  ⟨s.begunNotices, s.begunNotices_perm s.startBlocks_calendar s.startBlocks_doors hlooks, s.startBlocks_given⟩

theorem Doors.evaluateAll_enabled {ds : Doors} {n : DoorNo} {f : DoorDef} (hf : (ds.doors.get n).defn = some f)
    (henabled : f.enabled = true) : ds.evaluateAll.doors.get n = evaluatedDoor ds n f (ds.doors.get n) := by
  have hdoor : (ds.doors.get n).enabled = true := by rw [Door.enabled, hf]; exact henabled
  rw [Doors.evaluateAll, Table.get_mapIdx, if_pos hdoor, Door.evaluate, evaluatedDoor]
  cases hopen : ds.openAsserted n <;> cases htrailer : ds.trailerAsserted n <;>
    simp [Door.toOpen_of_defined (d := { ds.doors.get n with evaluated := true, dwell := none }) hf]

theorem Doors.evaluateAll_disabled {ds : Doors} {n : DoorNo}
    (h : ∀ f, (ds.doors.get n).defn = some f → f.enabled = false) : ds.evaluateAll.doors.get n = ds.doors.get n := by
  have hdoor : ¬(ds.doors.get n).enabled = true := by
    unfold Door.enabled
    split
    · next f hf => simp [h f hf]
    · exact Bool.false_ne_true
  rw [Doors.evaluateAll, Table.get_mapIdx, if_neg hdoor]

/-- The level with which a defined zone begins RUN. -/
theorem State.startRead_level {z : Zone} (hz : s.zones.get z ≠ .undefined) :
    s.startRead.newLevel z (LightZone.atRest (s.startRead.calendar.inForce.get z)) = (s.firstLight s.startBlocks z).1 :=
  State.newLevel_started _ hz rfl (Calendar.start_profiles _) (congrArg Calendar.inForce s.startBlocks_calendar.symm)

theorem State.startBlocks_light : s.startBlocks.light = s.startRead.lightStarted := by
  rw [State.startBlocks_eq]
  rfl

theorem State.startBlocks_started : BlocksStarted s s.startBlocks where
  idle h := by
    have hstart := Calendar.start_idle h
    have hcalendar : s.startBlocks.calendar = s.calendar.unplaced := by
      rw [State.startBlocks_calendar, hstart]
      rfl
    refine ⟨hcalendar.trans s.calendar.unplaced_eq, State.startBlocks_gives s ?_⟩
    rw [hstart]
    exact iff_of_false Bool.false_ne_true id
  rotates h x hx := by
    have hstart := Calendar.start_rotates h
    have hplaced : s.calendar.unplaced.placed = some x := Calendar.placed_of_placedAt hx
    have hcalendar : s.startBlocks.calendar = Calendar.refreshed { s.calendar.unplaced with cursor := some x } := by
      rw [State.startBlocks_calendar, hstart, Calendar.quietResync, hplaced]
    refine ⟨?_, ?_, ?_, State.startBlocks_gives s ?_⟩
    · rw [hcalendar]
      rfl
    · rw [hcalendar]
      exact Calendar.refreshed_hold _
    · rw [hcalendar]
      exact Calendar.refreshed_taken _
    · rw [hstart]
      exact iff_of_true rfl trivial
  doors := by rw [State.startBlocks_eq]; rfl
  evaluated n f hf henabled := by
    rw [State.startBlocks_doors]
    exact Doors.evaluateAll_enabled hf henabled
  disabled n h := by
    rw [State.startBlocks_doors]
    exact Doors.evaluateAll_disabled h
  readings := by rw [State.startBlocks_eq]; rfl
  sensors n := by
    rw [State.startBlocks_eq]
    change s.readings.started.sensors.get n = _
    rw [Readings.started, Table.get_map, Sensor.start, Sensor.atRest]
    rcases (s.readings.sensors.get n).defn with _ | ⟨_ | _ | _ | _, zone⟩ <;> rfl
  air := by rw [State.startBlocks_eq]; rfl
  heat := by rw [State.startBlocks_eq]; rfl
  heated z := by
    rw [State.startBlocks_calendar, State.startBlocks_eq]
    change (Table.ofFn s.startRead.heatStarted).get z = _
    rw [Table.get_ofFn, State.heatStarted]
    by_cases hz : s.zones.get z = .undefined
    · have hz' : s.startRead.zones.get z = .undefined := hz
      have hdefault : s.startRead.calendar.defaultProfile = s.calendar.defaultProfile := Calendar.start_defaultProfile _
      rw [if_pos hz, if_pos hz', hdefault]
    · have hz' : s.startRead.zones.get z ≠ .undefined := hz
      have hprofiles : s.startRead.calendar.profiles = s.calendar.profiles := Calendar.start_profiles _
      have hown (p : Profile) : heatingSetpoint (s.startRead.zones.get z) p
          = match s.zones.get z with | .dock => p.dockSetpoint | _ => p.floorSetpoint := by
        change heatingSetpoint (s.zones.get z) p = _
        cases hkind : s.zones.get z
        · exact absurd hkind hz
        all_goals rfl
      rw [if_neg hz, if_neg hz', hown, hprofiles]
      rfl
  dock := by
    rw [State.startBlocks_light]
    exact s.startRead.lightStarted_dock
  lit z := by
    rw [State.startBlocks_light]
    by_cases hz : s.zones.get z = .undefined
    · rw [if_pos hz, s.startRead.lightStarted_undefined hz]
      exact congrArg LightZone.atRest (Calendar.start_defaultProfile _)
    · rw [if_neg hz, s.startRead.lightStarted_defined hz, State.newLight, s.startRead_level hz, State.firstLight,
        State.startBlocks_calendar, ← Calendar.start_profiles]
      rfl
  requests n := by
    rw [State.startBlocks_light]
    cases hdefn : (s.loads.get n).defn with
    | none =>
      exact State.lightStarted_request_other _ fun f hf => by
        have hsome := hdefn.symm.trans hf
        cases hsome
    | some f =>
      dsimp only
      split
      · next hlamp =>
        rw [s.startRead.lightStarted_request_lamp hdefn hlamp.1 hlamp.2]
        exact s.startRead_level hlamp.2
      · next hother =>
        refine State.lightStarted_request_other _ fun g hg => ?_
        cases hdefn.symm.trans hg
        exact hother
  budget := by rw [State.startBlocks_eq]; rfl

end

end Sys2Proof.Machine
end

section
/-! START as a command (O17). -/

namespace Sys2Proof.Machine

/-- What it is for the blocks to have started rests neither on the Part record nor on the Link Unit. -/
theorem BlocksStarted.withPartLink {s b : State} (h : BlocksStarted s b) (p : Part) (l l' : Link) :
    BlocksStarted { s with part := p, link := l } { b with link := l' } :=
  ⟨h.idle, h.rotates, h.doors, h.evaluated, h.disabled, h.readings, h.sensors, h.air, h.heat, h.heated, h.dock, h.lit,
    h.requests, h.budget⟩

theorem BlocksStarted.of_part {s b : State} {p : Part} (h : BlocksStarted { s with part := p } b) : BlocksStarted s b :=
  ⟨h.idle, h.rotates, h.doors, h.evaluated, h.disabled, h.readings, h.sensors, h.air, h.heat, h.heated, h.dock, h.lit,
    h.requests, h.budget⟩

theorem State.startBlocks_ignoresHanded : IgnoresHanded State.startBlocks := by
  have hcalendar : IgnoresHanded State.startCalendar := fun _ _ => rfl
  have hreadings : IgnoresHanded State.startReadings := fun _ _ => rfl
  have hdoors : IgnoresHanded State.startDoors := fun _ _ => rfl
  have hair : IgnoresHanded State.startAir := fun _ _ => rfl
  have hheat : IgnoresHanded State.startHeat := fun u o => by
    rw [State.startHeat_eq, State.startHeat_eq]
    rfl
  have hlight : IgnoresHanded State.startLight := fun _ _ => rfl
  intro s o
  have hbudget : { (s.startCalendar.withHanded o) with budget := s.startCalendar.budget.start }
      = State.withHanded o { s.startCalendar with budget := s.startCalendar.budget.start } := rfl
  unfold State.startBlocks
  dsimp only
  rw [hcalendar, State.withHanded_budget, hbudget, hreadings, hdoors, hair, hheat, hlight]

theorem State.startBlocks_onlyChanges (s : State) :
    s.onlyChanges s.startBlocks [.calendar, .doors, .readings, .air, .heat, .light, .budget, .inFlight] := by
  rw [State.startBlocks_eq]
  intro r hr
  cases r <;> simp_all [State.same, State.begun, State.startRead]

/-- START as an effect on the part. -/
def State.enterRun (s : State) : State := State.startBlocks { s with part := { s.part with op := .run } }

theorem State.enterRun_ignoresHanded : IgnoresHanded State.enterRun := fun s o =>
  State.startBlocks_ignoresHanded { s with part := { s.part with op := .run } } o

theorem State.enterRun_part (s : State) : s.enterRun.part = { s.part with op := .run } :=
  State.startBlocks_onlyChanges { s with part := { s.part with op := .run } } .part (by decide)

theorem State.enterRun_onlyChanges (s : State) :
    s.onlyChanges s.enterRun [.part, .calendar, .doors, .readings, .air, .heat, .light, .budget, .inFlight] := by
  rw [State.enterRun, State.startBlocks_eq]
  intro r hr
  cases r <;> simp_all [State.same, State.begun, State.startRead]

theorem State.enterRun_started (s : State) : BlocksStarted s s.enterRun :=
  (State.startBlocks_started { s with part := { s.part with op := .run } }).of_part

/-- Settles O17: the blocks' starts one after the other, and their notices put in order zone by zone. -/
theorem startEntersRun : Obligations.StartEntersRun := by
  intro s htakes
  have hexec : exec .start s = execStart s := rfl
  refine ⟨fun hop => ?_, fun hop => ?_⟩
  · refine answersOnly_of_refuse (hexec.trans rfl) htakes ?_
    rw [if_pos (by rwa [State.takeHanded_running, State.running_iff])]
  · have hrunning : ¬(s.takeHanded .start).running = true := by
      rw [State.takeHanded_running, State.running_iff, hop]
      decide
    refine ⟨s.enterRun, ?_, s.enterRun_onlyChanges, s.enterRun_part, s.enterRun_started⟩
    have hop' : s.enterRun.part.op ≠ .starting := by
      rw [State.enterRun_part]
      exact OpState.noConfusion
    exact completes_of_effect_op (effect := State.enterRun) (a := Answer.bare .ok) (hexec.trans rfl) htakes
      State.enterRun_ignoresHanded hop' (if_neg hrunning)

end Sys2Proof.Machine
end

section
/-! The end of STARTING (O14), and the way of a configuration through the Settings Store (O15). -/

namespace Sys2Proof.Machine

/-! ### READY -/

section
variable {u : State} {mask : Nat} {settings : LinkSettings}

/-- The Link Unit that is sending READY with a clock. -/
def readyLink (mask : Nat) (settings : LinkSettings) (r : Report) : Link :=
  { Link.atReset mask settings with idle := Timer.start settings.idle, sending := some (.report r false) }

/-- READY is raised in an empty queue and sent at once, at every mask. -/
theorem State.raise_ready (hlink : u.link = (Link.atReset mask settings).supervise) (hmask : mask ≤ 3)
    (hop : u.part.op ≠ .starting) :
    (u.raise u.readyReport).settle = { u with link := readyLink mask settings (stamp u.calendar u.readyReport) } := by
  have hraised : u.raise u.readyReport
      = { u with link := { (Link.atReset mask settings).supervise with reports := [stamp u.calendar u.readyReport] } } := by
    have hpriority : ¬Body.priority u.readyReport < u.link.mask := by
      rw [hlink]
      exact Nat.not_lt.2 hmask
    rw [State.raise, if_neg hpriority, hlink]
    rfl
  rw [hraised]
  exact (if_neg hop).trans rfl

end

/-! ### The image -/

theorem Image.contents?_valid {i : Image} {c : Stored} (h : i = .written c (crc (Config.imageBytes c))) :
    i.contents? = some c := by
  rw [h]
  exact if_pos rfl

theorem Image.contents?_invalid {i : Image} (h : ∀ c, i ≠ .written c (crc (Config.imageBytes c))) :
    i.contents? = none := by
  cases i with
  | broken => rfl
  | written c check =>
    refine if_neg fun hcheck => h c ?_
    rw [← hcheck]
    rfl

/-! ### The end of STARTING -/

section
variable {s : State} {image : Option Stored}

/-- The state at the end of STARTING, every block at rest. -/
theorem State.started_part (himage : s.store.image.contents? = image) :
    s.started.part =
      { op := if image.any fun c => c.autorun then .run else .configure
        bitRate :=
          match s.part.strap1, s.part.strap0 with
          | false, false => .b19200
          | false, true => .b57600
          | true, false => .b115200
          | true, true => .b230400
        autorun := image.any fun c => c.autorun, imageValid := image.isSome
        strap1 := s.part.strap1, strap0 := s.part.strap0 } := by
  have hauto : (image.map fun c => c.autorun).getD Stored.builtIn.autorun = image.any fun c => c.autorun := by
    cases image <;> rfl
  have hpart : s.started.part = s.part.started image := congrArg (s.part.started ·) himage
  rw [hpart, Part.started, hauto]
  rfl

theorem State.started_link (himage : s.store.image.contents? = image) :
    s.started.link = (Link.atReset (image.getD Stored.builtIn).mask (image.getD Stored.builtIn).link).supervise := by
  rw [← himage]
  rfl

end

/-- What changes apart from the Link Unit does not depend on it. -/
theorem State.onlyChanges.withLink {s t : State} {R : List Region} (h : s.onlyChanges t R) (l : Link) :
    State.onlyChanges { s with link := l } { t with link := l } R := by
  intro r hr
  cases r
  case link => rfl
  all_goals exact h _ hr

/-- The report that the end of STARTING sends. -/
def readyStamped (s : State) (image : Option Stored) : Report :=
  ⟨s.calendar.day, s.calendar.second, true,
    .ready Config.revision image.isSome (if image.any fun c => c.autorun then .run else .configure)⟩

section
variable {s u : State} {image : Option Stored} (himage : s.store.image.contents? = image)
include himage

/-- READY carries the image-valid mark and the operating state entered, the time being unknown. -/
theorem stamp_ready (hpart : u.part = s.started.part) (hday : u.calendar.day = s.calendar.day)
    (hsecond : u.calendar.second = s.calendar.second) (hunknown : u.calendar.unknown = true) :
    stamp u.calendar u.readyReport = readyStamped s image := by
  rw [stamp, State.readyReport, hpart, State.started_part himage, hday, hsecond, hunknown]
  rfl

/-- After the start of the blocks, or without it, the end of STARTING sends READY. -/
theorem exec_startingEnd (hop : s.part.op = .starting) (hmask : (image.getD Stored.builtIn).mask ≤ 3)
    (hu : s.started.startIfRunning = u) (hpart : u.part = s.started.part) (hlink : u.link = s.started.link)
    (hday : u.calendar.day = s.calendar.day) (hsecond : u.calendar.second = s.calendar.second)
    (hunknown : u.calendar.unknown = true) :
    exec .startingEnd s = .next
      { u with
        link := readyLink (image.getD Stored.builtIn).mask (image.getD Stored.builtIn).link (readyStamped s image) } := by
  have hoperating : u.part.op ≠ .starting := hpart ▸ s.started_operating
  have hready := State.raise_ready (hlink.trans (State.started_link himage)) hmask hoperating
  rw [stamp_ready himage hpart hday hsecond hunknown] at hready
  have hexec : exec .startingEnd s = execStartingEnd s := rfl
  rw [hexec, execStartingEnd, if_pos hop, finish]
  dsimp only
  rw [hu, hready]

end

/-- With the time unknown no rotation can run: START leaves the clock as it is. -/
theorem Calendar.start_unknown {c : Calendar} (h : c.unknown = true) :
    c.start.calendar.day = c.day ∧ c.start.calendar.second = c.second ∧ c.start.calendar.unknown = true := by
  have hno : ¬CanRotate c := fun hc => by simp [hc.1] at h
  rw [Calendar.start_idle hno]
  exact ⟨rfl, rfl, h⟩

/-- Settles O14: the image or the defaults in force, the blocks started where auto-run is set, and READY sent. -/
theorem startingEndEntersOperation : Obligations.StartingEndEntersOperation := by
  intro s image hop himage config autorun entered atRest
  have hcontents : s.store.image.contents? = image := by
    cases image with
    | none => exact Image.contents?_invalid himage
    | some c => exact Image.contents?_valid himage.1
  have hmask : config.mask ≤ 3 := by
    cases image with
    | none => exact Nat.zero_le 3
    | some c => exact himage.2
  have hatRest : { s.started with link := readyLink config.mask config.link (readyStamped s image) } = atRest := by
    have hpart : s.started.part = atRest.part := State.started_part hcontents
    have hlink : readyLink config.mask config.link (readyStamped s image) = atRest.link := rfl
    have hrest (l : Link) : { s.started with link := l } = { atRest with part := s.started.part, link := l } := by
      simp only [atRest, config, ← hcontents]
      rfl
    rw [hlink, hrest, hpart]
  have hpart : s.started.part.op = entered := congrArg Part.op (State.started_part hcontents)
  refine ⟨fun hauto => ?_, fun hauto => ?_⟩
  · have hu : s.started.startIfRunning = s.started := if_neg fun hrunning => by
      have hrun := hpart.symm.trans ((State.running_iff _).1 hrunning)
      simp only [entered, hauto] at hrun
      cases hrun
    rw [exec_startingEnd hcontents hop hmask hu rfl rfl rfl rfl rfl, ← hatRest]
  · have hrunning : s.started.running = true := by
      rw [State.running_iff, hpart]
      exact if_pos hauto
    have hu : s.started.startIfRunning = s.started.startBlocks := if_pos hrunning
    have honly := s.started.startBlocks_onlyChanges
    have hcalendar := s.started.startBlocks_calendar
    obtain ⟨hday, hsecond, hunknown⟩ := Calendar.start_unknown (c := s.started.calendar) rfl
    rw [← hcalendar] at hday hsecond hunknown
    refine ⟨_, exec_startingEnd hcontents hop hmask hu (honly .part (by decide)) (honly .link (by decide)) hday hsecond
      hunknown, ?_, ?_⟩
    · rw [← hatRest]
      exact s.started.startBlocks_started.withPartLink s.started.part _ _
    · rw [← hatRest]
      exact honly.withLink _

end Sys2Proof.Machine
end

section
/-! A stored configuration comes back (O15): nothing on the way from the image into operation changes an item of it. -/

namespace Sys2Proof.Machine

section
variable {c : Stored} {u : State}

/-- The transmitter's choice changes no setting. -/
theorem IsConfiguration.settle (h : IsConfiguration c u) : IsConfiguration c u.settle := by
  obtain ⟨-, -, -, -, hmask, -, -, -, -, hsettings⟩ := u.link.kick_frame
  have hlink : u.settle.link.mask = u.link.mask ∧ u.settle.link.settings = u.link.settings := by
    rw [State.settle_link]
    split
    · exact ⟨rfl, rfl⟩
    · exact ⟨hmask, hsettings⟩
  constructor <;> simp [hlink, h.zones, h.loads, h.profiles, h.defaultProfile, h.active, h.anchor, h.doors, h.filter,
    h.sensors, h.sensing, h.air, h.heat, h.rotationPeriod, h.mask, h.link, h.autorun]

/-- A raised report changes no setting. -/
theorem IsConfiguration.raise (h : IsConfiguration c u) (b : Body) : IsConfiguration c (u.raise b) := by
  have hlink : (u.raise b).link.mask = u.link.mask ∧ (u.raise b).link.settings = u.link.settings := by
    rw [State.raise_link]
    split
    · exact ⟨rfl, rfl⟩
    · rw [Link.offer_frame]
      exact ⟨rfl, rfl⟩
  constructor <;> simp [hlink, h.zones, h.loads, h.profiles, h.defaultProfile, h.active, h.anchor, h.doors, h.filter,
    h.sensors, h.sensing, h.air, h.heat, h.rotationPeriod, h.mask, h.link, h.autorun]

/-- The starts of the blocks change no definition and no setting. -/
theorem IsConfiguration.startBlocks (h : IsConfiguration c u) (hunknown : u.calendar.unknown = true) :
    IsConfiguration c u.startBlocks := by
  have honly := u.startBlocks_onlyChanges
  have hstarted := u.startBlocks_started
  have hno : ¬CanRotate u.calendar := fun hc => by simp [hc.1] at hunknown
  obtain ⟨hcalendar, -⟩ := hstarted.idle hno
  have hzones : u.startBlocks.zones = u.zones := honly .zones (by decide)
  have hloads : u.startBlocks.loads = u.loads := honly .loads (by decide)
  have hlink : u.startBlocks.link = u.link := honly .link (by decide)
  have hpart : u.startBlocks.part = u.part := honly .part (by decide)
  have hdoor (n : DoorNo) : (u.startBlocks.doors.doors.get n).defn = (u.doors.doors.get n).defn := by
    rw [State.startBlocks_doors, Doors.evaluateAll, Table.get_mapIdx]
    split
    · unfold Door.evaluate Door.toOpen
      repeat' split
      all_goals rfl
    · rfl
  have hsensor (n : SensorNo) : (u.startBlocks.readings.sensors.get n).defn = (u.readings.sensors.get n).defn := by
    rw [hstarted.sensors n]
  constructor
  · rw [hzones]; exact h.zones
  · rw [hloads]; exact h.loads
  · rw [hcalendar]; exact h.profiles
  · rw [hcalendar]; exact h.defaultProfile
  · rw [hcalendar]; exact h.active
  · rw [hcalendar]; exact h.anchor
  · simpa only [hdoor] using h.doors
  · rw [hstarted.doors]; exact h.filter
  · simpa only [hsensor] using h.sensors
  · rw [hstarted.readings]; exact h.sensing
  · rw [hstarted.air]; exact h.air
  · rw [hstarted.heat]; exact h.heat
  · rw [hstarted.budget]; exact h.rotationPeriod
  · rw [hlink]; exact h.mask
  · rw [hlink]; exact h.link
  · rw [hpart]; exact h.autorun

end

/-- The end of STARTING puts the contents of a valid image in force. -/
theorem State.started_isConfiguration {s : State} {c : Stored} (h : s.store.image.contents? = some c) :
    IsConfiguration c s.started := by
  constructor <;> simp [State.started, State.withStored, h, Part.started, Doors.takeLines, Link.supervise,
    Link.atReset, Calendar.atReset, Air.atRest, Heat.atRest, Budget.atRest, Load.atRest, Door.atRest, Sensor.atRest]

/-- With a valid image the end of STARTING leads to a state with its configuration. -/
theorem startingEnd_configures {s : State} {c : Stored} (hop : s.part.op = .starting)
    (h : s.store.image.contents? = some c) :
    ∃ t, exec .startingEnd s = .next t ∧ IsConfiguration c t ∧ t.part.imageValid = true
      ∧ t.part.op = if c.autorun then .run else .configure := by
  have hstarted := State.started_isConfiguration h
  have hpart : s.started.startIfRunning.part = s.started.part := by
    unfold State.startIfRunning
    split
    · exact s.started.startBlocks_onlyChanges .part (by decide)
    · rfl
  have hin : IsConfiguration c s.started.startIfRunning := by
    unfold State.startIfRunning
    split
    · exact hstarted.startBlocks rfl
    · exact hstarted
  have hexec : exec .startingEnd s = execStartingEnd s := rfl
  refine ⟨_, hexec.trans (congrArg finish (if_pos hop)), (hin.raise _).settle, ?_, ?_⟩
  · rw [State.settle_part, State.raise_part, hpart, State.started_part h]
    rfl
  · rw [State.settle_part, State.raise_part, hpart, State.started_part h]
    rfl

/-! ### The way through the Settings Store -/

section
variable {s : State}

theorem store_snapshots (htakes : s.takesRequests = true) :
    ∃ t w, exec .store s = .next t ∧ t.store.write = some w ∧ IsConfiguration w.snapshot s := by
  obtain ⟨c, hc, hexec⟩ := storeWritesSnapshot.1 s htakes
  exact ⟨_, ⟨c, _⟩, hexec, by rw [State.settle_store], hc⟩

theorem storeWriteEnd_writes {w : StoreWrite} (hw : s.store.write = some w) :
    ∃ t, exec (.storeWriteEnd true) s = .next t ∧ t.store.write = none
      ∧ t.store.image.contents? = some w.snapshot := by
  refine ⟨_, storeWritesSnapshot.2.2 s w true hw, ?_, ?_⟩ <;> rw [State.settle_store]
  exact Image.contents?_valid rfl

theorem reset_keepsImage (hw : s.store.write = none) (strap1 strap0 : Bool) :
    ∃ t, exec (.reset strap1 strap0) s = .next t ∧ t.part.op = .starting ∧ t.store.image = s.store.image := by
  refine ⟨_, resetAbandonsEverything s strap1 strap0, rfl, ?_⟩
  rw [hw]
  rfl

end

/-- Settles O15: snapshot, write, reset and the end of STARTING, one after the other. -/
theorem storedConfigurationComesBack : Obligations.StoredConfigurationComesBack := by
  intro s strap1 strap0 htakes
  obtain ⟨t₁, w, hstore, hwrite, hc⟩ := store_snapshots htakes
  obtain ⟨t₂, hwritten, hnone, himage⟩ := storeWriteEnd_writes hwrite
  obtain ⟨t₃, hreset, hop, hkept⟩ := reset_keepsImage hnone strap1 strap0
  obtain ⟨t₄, hend, hback, hvalid, hentered⟩ := startingEnd_configures hop (hkept ▸ himage)
  exact ⟨w.snapshot, t₁, t₂, t₃, t₄, hstore, hwritten, hreset, hend, hc, hback, hvalid, hc.autorun ▸ hentered⟩

end Sys2Proof.Machine
end
